-- ==== Sys2Proof/Word.lean ====
section
/-! DEFINITION. The bytes that cross the links, and the ports of the part. -/

namespace Sys2Proof

/-- One byte of a hall-link or of the FM line (R160, R165). -/
abbrev Byte := BitVec 8

/-- A link port, P0 to P5 (R142). -/
abbrev Port := Fin 6

/-- The ports in ascending order. -/
def allPorts : List Port := [0, 1, 2, 3, 4, 5]

end Sys2Proof
end

