-- ==== Sys2Proof/Config.lean ====
section
/-! DEFINITION. The limits and defaults the spec fixes. The spec leaves the result of no command open,
so this file holds no opaque constant. -/

namespace Sys2Proof.Config

/-- R1: the hall rectangle is (0, 0, 250 000, 48 000). -/
def hallX : Nat := 250000
def hallY : Nat := 48000
/-- R4: a runway column is 2 000 mm wide and the last column is 124. -/
def columnWidth : Nat := 2000
def lastColumn : Nat := 124
/-- R5: zone indices run to 47. -/
def zoneCount : Nat := 48
def lastZone : Nat := 47
/-- R6: at most 8 entries are BED. -/
def maxBeds : Nat := 8
/-- 1.4.1: a zone holds at most 16 records. -/
def maxCapacity : Nat := 16
/-- R21: the register holds at most 128 records, with ids to 2 147 483 647. -/
def maxRecords : Nat := 128
def maxId : Nat := 2147483647
/-- R25, R26: at most 32 parts in a list and 12 entries in a request. -/
def maxParts : Nat := 32
def maxPartsSent : Nat := 12
/-- R39: a job table has 16 slots. -/
def maxJobs : Nat := 16
/-- R40: the last arrival number, the largest time limit, the largest drop count. -/
def maxArrival : Nat := 4294967295
def maxTimeLimit : Nat := 7200
def maxDrops : Nat := 255
/-- R67: a level above 1 500 is taken as 1 500. R64: 1 000 is nominal. -/
def maxLevel : Nat := 1500
def nominalLevel : Nat := 1000
/-- R68: a feeder without a good reading for 500 ms is stale. -/
def staleMs : Nat := 500
/-- R70: the sag flag clears 20 per-mille above the sag level. -/
def sagHysteresis : Nat := 20
/-- R66, R157: the counters that stop at 65 535. -/
def maxCount : Nat := 65535
/-- R85: a target list holds at most 8 zones. -/
def maxTargets : Nat := 8
/-- R128: a completion log holds at most 16 records. -/
def maxLog : Nat := 16
/-- R132: the body limit and the sizes of a LOG-TAKE reply. -/
def maxBody : Nat := 200
def logFixedBytes : Nat := 6
def logRecordBytes : Nat := 11
/-- R136, R137: the alert list holds at most 8 entries, its overflow count stops at 255. -/
def maxAlerts : Nat := 8
def maxOverflow : Nat := 255
/-- R161: a receive buffer holds at most 2 frames. R164: a notice queue holds at most 8 notices. -/
def maxFrames : Nat := 2
def maxNotices : Nat := 8
/-- R118: the hold asked for by 0, and the limits of a hold, in seconds. -/
def defaultHold : Nat := 600
def minHold : Nat := 60
def maxHold : Nat := 3600
/-- R171: a PARAM-SET carries at most 8 entries. R173: a PARAM-READ returns at most 12 indices. -/
def maxParamEntries : Nat := 8
def maxParamRead : Nat := 12

end Sys2Proof.Config
end

