-- ==== Sys2Proof/Syntax.lean ====
section
/-! DEFINITION. The commands: one constructor of `Instr` for each row of spec/opcode_table.json, with the
names the spec gives the values of their operands. A field that a link carries as a code holds `none` for a
code outside its set (R169), so that the owning rule can refuse it. -/

namespace Sys2Proof

/-- R142: the role of a port. -/
inductive Role where
  | planning | gantry | crane | unused
deriving DecidableEq, Repr

/-- 1.4.1: the kind of a zone. -/
inductive ZoneKind where
  | none | bed | rack | lane | scrap | keepout
deriving DecidableEq, Repr

/-- R3: a record lies at a turn of 0 or 90. -/
inductive Turn where
  | deg0 | deg90
deriving DecidableEq, Repr

/-- R22: the kind of a record. -/
inductive RecordKind where
  | plate | remnant
deriving DecidableEq, Repr

/-- R24: the form of a record. -/
inductive Form where
  | whole | worked | skeleton
deriving DecidableEq, Repr

/-- R25: the status of a part. -/
inductive PartStatus where
  | unmarked | marked | separated
deriving DecidableEq, Repr

/-- R40: the kind of a job. -/
inductive JobKind where
  | mark | cut
deriving DecidableEq, Repr

/-- R76: the outcome an ARC-OFF reports. -/
inductive ArcOutcome where
  | complete | interrupted
deriving DecidableEq, Repr

/-- Section 7.6: the alert codes, in the order of the table. -/
inductive AlertCode where
  | feederSag | feederStale | arcShed | startFail | portLapsed | hallStopped | jobOverdue | logHigh | logLost
  | configDefaulted | storeFailed
deriving DecidableEq, Repr

/-- 00_scope 4.6: the four kinds of reset. -/
inductive ResetKind where
  | power | line | restart | supply
deriving DecidableEq, Repr

/-- One byte as a receiver meets it: its value, whether its stop bit is there, and whether more than 20 ms
passed between the end of the byte before it and its start (R160, R165). -/
structure LineByte where
  value : Byte
  stop : Bool
  gap : Bool
deriving DecidableEq, Repr

/-- R11: the fields of ZONE-SET. -/
structure ZoneWrite where
  zone : Nat
  kind : Option ZoneKind
  originX : Nat
  originY : Nat
  extX : Nat
  extY : Nat
  coarse : Bool
  capacity : Nat
  bind : Bool
  lift : Bool
  place : Bool
  pass : Bool
deriving DecidableEq, Repr

/-- R25: one part entry as a request carries it. -/
structure PartWrite where
  number : Nat
  x0 : Nat
  y0 : Nat
  x1 : Nat
  y1 : Nat
  markRequired : Bool
  status : Option PartStatus
deriving DecidableEq, Repr

/-- R29, R30: the fields of PLATE-REGISTER that both of its forms carry. A parent id of 0 is none (R169). -/
structure PlateWrite where
  id : Nat
  kind : Option RecordKind
  grade : Nat
  thickness : Nat
  length : Nat
  width : Nat
  form : Option Form
  turn : Option Turn
  parent : Nat
  claim : Bool
  parts : List PartWrite
deriving DecidableEq, Repr

/-- R44: the fields of JOB-ADD. -/
structure JobWrite where
  bed : Nat
  number : Nat
  kind : Option JobKind
  plate : Nat
  parts : List Nat
  current : Nat
  priority : Nat
  limit : Nat
deriving DecidableEq, Repr

/-- R171: one entry of PARAM-SET: a parameter code, an index and a value. -/
structure ParamEntry where
  code : Nat
  index : Nat
  value : Nat
deriving DecidableEq, Repr

/-- A received frame (R160): the kind byte, the tag and the body. -/
structure Frame where
  kind : Byte
  tag : Byte
  body : List Byte
deriving DecidableEq, Repr

/-- The commands, in the order of the table. Every request names the port it comes from and the tag of its frame. -/
inductive Instr where
  | hello (p : Port) (tag : Byte) (role : Option Role)
  | keepalive (p : Port) (tag : Byte)
  | statusRead (p : Port) (tag : Byte) (port : Nat)
  | portRestore (p : Port) (tag : Byte) (port : Nat)
  | hallRestore (p : Port) (tag : Byte)
  | zoneRead (p : Port) (tag : Byte) (zone : Nat)
  | zoneSet (p : Port) (tag : Byte) (w : ZoneWrite)
  | zoneClear (p : Port) (tag : Byte) (zone : Nat)
  | zoneService (p : Port) (tag : Byte) (zone : Nat) (inService : Bool)
  | zoneUsedClear (p : Port) (tag : Byte) (zone : Nat)
  | bedBind (p : Port) (tag : Byte) (zone : Nat)
  | bedUnbind (p : Port) (tag : Byte)
  | plateRegister (p : Port) (tag : Byte) (w : PlateWrite) (zone offX offY : Nat)
  | plateRegisterOnHook (p : Port) (tag : Byte) (w : PlateWrite) (crane : Nat)
  | platePartsReplace (p : Port) (tag : Byte) (id : Nat) (parts : List PartWrite)
  | platePartsAppend (p : Port) (tag : Byte) (id : Nat) (parts : List PartWrite)
  | plateFinish (p : Port) (tag : Byte) (id : Nat)
  | plateDrop (p : Port) (tag : Byte) (id : Nat)
  | plateRead (p : Port) (tag : Byte) (id first : Nat) (next : Bool)
  | jobAdd (p : Port) (tag : Byte) (w : JobWrite)
  | jobTake (p : Port) (tag : Byte)
  | jobReturn (p : Port) (tag : Byte) (number : Nat)
  | jobCancel (p : Port) (tag : Byte) (bed number : Nat)
  | jobResume (p : Port) (tag : Byte) (bed number : Nat)
  | jobList (p : Port) (tag : Byte) (bed first : Nat)
  | arcStart (p : Port) (tag : Byte) (number : Nat)
  | arcEstablished (p : Port) (tag : Byte)
  | arcOff (p : Port) (tag : Byte) (outcome : Option ArcOutcome)
  | budgetRead (p : Port) (tag : Byte)
  | spanSet (p : Port) (tag : Byte) (lo hi : Nat)
  | spanClear (p : Port) (tag : Byte)
  | lift (p : Port) (tag : Byte) (id zone : Nat)
  | retarget (p : Port) (tag : Byte) (zone : Nat)
  | setDown (p : Port) (tag : Byte) (offX offY : Nat) (turn : Option Turn)
  | liftAbort (p : Port) (tag : Byte)
  | craneRead (p : Port) (tag : Byte) (port : Nat)
  | remnantDeclare (p : Port) (tag : Byte) (plate id x0 y0 x1 y1 : Nat)
  | remnantFit (p : Port) (tag : Byte) (grade thickness needL needW hold : Nat)
  | remnantRelease (p : Port) (tag : Byte) (id : Nat)
  | remnantList (p : Port) (tag : Byte) (grade thickness first : Nat)
  | logTake (p : Port) (tag : Byte) (bed n : Nat)
  | logRead (p : Port) (tag : Byte) (bed first : Nat)
  | logClearLost (p : Port) (tag : Byte) (bed : Nat)
  | alertClear (p : Port) (tag : Byte) (code : Option AlertCode) (subject : Nat)
  | alertAckOldest (p : Port) (tag : Byte)
  | alertClearAll (p : Port) (tag : Byte)
  | alertRead (p : Port) (tag : Byte)
  | paramSet (p : Port) (tag : Byte) (entries : List ParamEntry)
  | paramRead (p : Port) (tag : Byte) (code first : Nat)
  | configStore (p : Port) (tag : Byte)
  | restart (p : Port) (tag : Byte)
  | causeRead (p : Port) (tag : Byte)
  | frameReceived (p : Port) (bytes : List LineByte)
  | frameTake (p : Port)
  | frameSent (p : Port)
  | feederReading (bytes : List LineByte)
  | stalenessTimerExpiry
  | establishTimerExpiry (p : Port)
  | waitTimerExpiry (p : Port)
  | overdueTimerExpiry (bed number : Nat)
  | holdTimerExpiry (id : Nat)
  | keepaliveTimerExpiry (p : Port)
  | storeCompletion (readBackEqual : Bool)
  | resetHold (kind : ResetKind)
  | restartResetBegin
  | powerStartUp
  | resetRelease (kind : ResetKind)
deriving DecidableEq, Repr

end Sys2Proof
end

