-- ==== Sys2Proof/WellFormed.lean ====
section
/-! DEFINITION. Well-formed commands: each field fits the bytes R169 and log 7 give it, each list fits the
body of one frame (at most 200 bytes, R160), and each code that its layout holds in a single bit has a value.
A command that is not well-formed is one that no link can carry; `exec` gives it the meaning of its rule all
the same. -/

namespace Sys2Proof

/-- A value that fits one, two or four bytes. -/
def fits8 (n : Nat) : Bool := decide (n < 256)
def fits16 (n : Nat) : Bool := decide (n < 65536)
def fits32 (n : Nat) : Bool := decide (n < 4294967296)

def ZoneWrite.wellFormed (w : ZoneWrite) : Bool :=
  fits8 w.zone && fits32 w.originX && fits16 w.originY && fits16 w.extX && fits16 w.extY && fits8 w.capacity

def PartWrite.wellFormed (e : PartWrite) : Bool :=
  fits16 e.number && fits16 e.x0 && fits16 e.y0 && fits16 e.x1 && fits16 e.y1

/-- 16 entries of 11 bytes are the most that fit beside the 23 bytes of a plate record. -/
def PlateWrite.wellFormed (w : PlateWrite) : Bool :=
  fits32 w.id && w.kind.isSome && fits8 w.grade && fits8 w.thickness && fits16 w.length && fits16 w.width
    && w.turn.isSome && fits32 w.parent && decide (w.parts.length ≤ 16) && w.parts.all PartWrite.wellFormed

/-- 90 part numbers of 2 bytes are the most that fit beside the bed and the 19 bytes of a job record. -/
def JobWrite.wellFormed (w : JobWrite) : Bool :=
  fits8 w.bed && fits16 w.number && w.kind.isSome && fits32 w.plate && decide (w.parts.length ≤ 90)
    && w.parts.all fits16 && fits16 w.current && fits8 w.priority && fits16 w.limit

def ParamEntry.wellFormed (e : ParamEntry) : Bool :=
  fits8 e.code && fits8 e.index && fits32 e.value

/-- 17 entries of 11 bytes are the most that fit beside the 6 fixed bytes of a PLATE-PARTS. -/
def partsWellFormed (l : List PartWrite) : Bool :=
  decide (l.length ≤ 17) && l.all PartWrite.wellFormed

def Instr.wellFormed : Instr → Bool
  | .hello _ _ _ => true
  | .keepalive _ _ => true
  | .statusRead _ _ n => fits8 n
  | .portRestore _ _ n => fits8 n
  | .hallRestore _ _ => true
  | .zoneRead _ _ z => fits8 z
  | .zoneSet _ _ w => w.wellFormed
  | .zoneClear _ _ z => fits8 z
  | .zoneService _ _ z _ => fits8 z
  | .zoneUsedClear _ _ z => fits8 z
  | .bedBind _ _ z => fits8 z
  | .bedUnbind _ _ => true
  | .plateRegister _ _ w z ox oy => w.wellFormed && fits8 z && fits32 ox && fits16 oy
  | .plateRegisterOnHook _ _ w c => w.wellFormed && fits8 c
  | .platePartsReplace _ _ id l => fits32 id && partsWellFormed l
  | .platePartsAppend _ _ id l => fits32 id && partsWellFormed l
  | .plateFinish _ _ id => fits32 id
  | .plateDrop _ _ id => fits32 id
  | .plateRead _ _ id first _ => fits32 id && fits8 first
  | .jobAdd _ _ w => w.wellFormed
  | .jobTake _ _ => true
  | .jobReturn _ _ n => fits16 n
  | .jobCancel _ _ b n => fits8 b && fits16 n
  | .jobResume _ _ b n => fits8 b && fits16 n
  | .jobList _ _ b first => fits8 b && fits8 first
  | .arcStart _ _ n => fits16 n
  | .arcEstablished _ _ => true
  | .arcOff _ _ _ => true
  | .budgetRead _ _ => true
  | .spanSet _ _ lo hi => fits8 lo && fits8 hi
  | .spanClear _ _ => true
  | .lift _ _ id z => fits32 id && fits8 z
  | .retarget _ _ z => fits8 z
  | .setDown _ _ ox oy _ => fits32 ox && fits16 oy
  | .liftAbort _ _ => true
  | .craneRead _ _ n => fits8 n
  | .remnantDeclare _ _ pl id x0 y0 x1 y1 =>
      fits32 pl && fits32 id && fits16 x0 && fits16 y0 && fits16 x1 && fits16 y1
  | .remnantFit _ _ g t l w h => fits8 g && fits8 t && fits16 l && fits16 w && fits16 h
  | .remnantRelease _ _ id => fits32 id
  | .remnantList _ _ g t first => fits8 g && fits8 t && fits8 first
  | .logTake _ _ b n => fits8 b && fits8 n
  | .logRead _ _ b first => fits8 b && fits8 first
  | .logClearLost _ _ b => fits8 b
  | .alertClear _ _ _ subj => fits8 subj
  | .alertAckOldest _ _ => true
  | .alertClearAll _ _ => true
  | .alertRead _ _ => true
  | .paramSet _ _ l => decide (l.length ≤ 33) && l.all ParamEntry.wellFormed
  | .paramRead _ _ c first => fits8 c && fits8 first
  | .configStore _ _ => true
  | .restart _ _ => true
  | .causeRead _ _ => true
  | .frameReceived _ _ => true
  | .frameTake _ => true
  | .frameSent _ => true
  | .feederReading _ => true
  | .stalenessTimerExpiry => true
  | .establishTimerExpiry _ => true
  | .waitTimerExpiry _ => true
  | .overdueTimerExpiry _ _ => true
  | .holdTimerExpiry _ => true
  | .keepaliveTimerExpiry _ => true
  | .storeCompletion _ => true
  | .resetHold _ => true
  | .restartResetBegin => true
  | .powerStartUp => true
  | .resetRelease k => decide (k ≠ .power)

end Sys2Proof
end

