-- ==== Sys2Proof/Decode.lean ====
section
/-! DEFINITION. Between frames and commands. `decodeFrame` is the decoding of R162 over the layouts of R169 and
of log 7, `frameOf` is the frame that carries a request, and `crc16` and `frameBytes` are the frame on the line
(R160). `decodeTableWord` reads the words of spec/opcode_table.json, whose rows give no bits. -/

namespace Sys2Proof

/-- The table gives none of its rows any bits, so no word spells a command (log 1). -/
def decodeTableWord (_nbits _w : Nat) : Option Instr := none

/-! Byte order: every field wider than one byte crosses the link high byte first (R169). -/

def byteOf (n : Nat) : Byte := BitVec.ofNat 8 n

def bytes16 (n : Nat) : List Byte := [byteOf (n / 256), byteOf n]

def bytes32 (n : Nat) : List Byte :=
  [byteOf (n / 16777216), byteOf (n / 65536), byteOf (n / 256), byteOf n]

def nat16 (a b : Byte) : Nat := a.toNat * 256 + b.toNat

def nat32 (a b c d : Byte) : Nat := ((a.toNat * 256 + b.toNat) * 256 + c.toNat) * 256 + d.toNat

/-- A flag in the bit that stands for `w`, 128 for bit 7 down to 1 for bit 0. -/
def flagBit (w : Nat) (f : Bool) : Nat := if f then w else 0

/-- Whether the bit that stands for `w` is set in a byte. -/
def hasBit (b : Byte) (w : Nat) : Bool := b.toNat / w % 2 == 1

/-! Code sets. -/

/-- HELLO carries the role: 0 GANTRY, 1 CRANE and 2 UNUSED as R170 numbers them, 3 PLANNING (log 7). -/
def Role.code : Role → Nat
  | .gantry => 0 | .crane => 1 | .unused => 2 | .planning => 3

def Role.ofCode : Nat → Option Role
  | 0 => some .gantry | 1 => some .crane | 2 => some .unused | 3 => some .planning | _ => none

def ZoneKind.code : ZoneKind → Nat
  | .none => 0 | .bed => 1 | .rack => 2 | .lane => 3 | .scrap => 4 | .keepout => 5

def ZoneKind.ofCode : Nat → Option ZoneKind
  | 0 => some .none | 1 => some .bed | 2 => some .rack | 3 => some .lane | 4 => some .scrap
  | 5 => some .keepout | _ => Option.none

def Turn.code : Turn → Nat
  | .deg0 => 0 | .deg90 => 1

def Turn.ofCode : Nat → Option Turn
  | 0 => some .deg0 | 1 => some .deg90 | _ => none

def RecordKind.code : RecordKind → Nat
  | .plate => 0 | .remnant => 1

def Form.code : Form → Nat
  | .whole => 0 | .worked => 1 | .skeleton => 2

def Form.ofCode : Nat → Option Form
  | 0 => some .whole | 1 => some .worked | 2 => some .skeleton | _ => none

def PartStatus.code : PartStatus → Nat
  | .unmarked => 0 | .marked => 1 | .separated => 2

def PartStatus.ofCode : Nat → Option PartStatus
  | 0 => some .unmarked | 1 => some .marked | 2 => some .separated | _ => none

def JobKind.code : JobKind → Nat
  | .mark => 0 | .cut => 1

/-- 0 COMPLETE, 1 INTERRUPTED (log 7). -/
def ArcOutcome.code : ArcOutcome → Nat
  | .complete => 0 | .interrupted => 1

def ArcOutcome.ofCode : Nat → Option ArcOutcome
  | 0 => some .complete | 1 => some .interrupted | _ => none

/-- R167: alert codes 1 to 11 in the order of the table of section 7.6. -/
def AlertCode.code : AlertCode → Nat
  | .feederSag => 1 | .feederStale => 2 | .arcShed => 3 | .startFail => 4 | .portLapsed => 5 | .hallStopped => 6
  | .jobOverdue => 7 | .logHigh => 8 | .logLost => 9 | .configDefaulted => 10 | .storeFailed => 11

def AlertCode.ofCode : Nat → Option AlertCode
  | 1 => some .feederSag | 2 => some .feederStale | 3 => some .arcShed | 4 => some .startFail
  | 5 => some .portLapsed | 6 => some .hallStopped | 7 => some .jobOverdue | 8 => some .logHigh
  | 9 => some .logLost | 10 => some .configDefaulted | 11 => some .storeFailed | _ => none

/-- The code of an enumerated field, with `bad` standing for a value outside its code set. -/
def codeOr {α : Type} (bad : Nat) (f : α → Nat) : Option α → Nat
  | some a => f a
  | none => bad

/-! The layouts of the request bodies, written (R169). DESIGN CHOICE, log 7: the bodies that section 9.9 does not lay out, and
one byte for each field whose width neither R169 nor section 9.9 gives (columns, first positions, the n of LOG-TAKE, the
count of PARAM-SET's entries, codes and parameter indexes), and four for the value of a parameter. -/

def ZoneWrite.bytes (w : ZoneWrite) : List Byte :=
  [byteOf w.zone, byteOf (codeOr 255 ZoneKind.code w.kind)] ++ bytes32 w.originX ++ bytes16 w.originY
    ++ bytes16 w.extX ++ bytes16 w.extY
    ++ [byteOf (flagBit 128 w.coarse + flagBit 16 w.bind), byteOf w.capacity,
        byteOf (flagBit 4 w.lift + flagBit 2 w.place + flagBit 1 w.pass)]

def PartWrite.bytes (e : PartWrite) : List Byte :=
  bytes16 e.number ++ bytes16 e.x0 ++ bytes16 e.y0 ++ bytes16 e.x1 ++ bytes16 e.y1
    ++ [byteOf (flagBit 128 e.markRequired + codeOr 3 PartStatus.code e.status)]

/-- The 23 bytes of a plate record and its part entries; `onHook`, `place` and the offsets give the location. -/
def PlateWrite.bytes (w : PlateWrite) (onHook : Bool) (place offX offY : Nat) : List Byte :=
  bytes32 w.id
    ++ [byteOf (128 * codeOr 0 RecordKind.code w.kind + 32 * codeOr 3 Form.code w.form + flagBit 16 onHook
          + 8 * codeOr 0 Turn.code w.turn + flagBit 4 w.claim), byteOf w.grade, byteOf w.thickness]
    ++ bytes16 w.length ++ bytes16 w.width ++ [byteOf place] ++ bytes32 offX ++ bytes16 offY
    ++ bytes32 w.parent ++ [byteOf w.parts.length] ++ w.parts.flatMap PartWrite.bytes

/-- The bed, then the 19 bytes of a job record and its part numbers. The fields JOB-ADD does not give are sent
as a QUEUED job holds them and ignored on receipt. -/
def JobWrite.bytes (w : JobWrite) : List Byte :=
  [byteOf w.bed] ++ bytes16 w.number ++ [byteOf (128 * codeOr 0 JobKind.code w.kind)] ++ bytes32 w.plate
    ++ [byteOf w.priority] ++ bytes16 w.limit ++ bytes16 w.current ++ bytes32 0
    ++ [byteOf 255, byteOf 0, byteOf w.parts.length] ++ w.parts.flatMap bytes16

def ParamEntry.bytes (e : ParamEntry) : List Byte :=
  [byteOf e.code, byteOf e.index] ++ bytes32 e.value

/-- PLATE-PARTS: the id, a byte whose bit 0 is 0 for REPLACE and 1 for APPEND, the count, the entries. -/
def platePartsBytes (append : Bool) (id : Nat) (l : List PartWrite) : List Byte :=
  bytes32 id ++ [byteOf (flagBit 1 append), byteOf l.length] ++ l.flatMap PartWrite.bytes

/-- The frame that carries a request, with the codes of section 9.6. An event has none; it is given kind 0. DESIGN CHOICE, log 7:
a body that section 9.9 does not lay out, and the width of a field for which R169 gives none: one byte. -/
def frameOf : Instr → Frame
  | .hello _ t r => ⟨0x01, t, [byteOf (codeOr 255 Role.code r)]⟩
  | .keepalive _ t => ⟨0x02, t, []⟩
  | .statusRead _ t n => ⟨0x03, t, [byteOf n]⟩
  | .portRestore _ t n => ⟨0x04, t, [byteOf n]⟩
  | .hallRestore _ t => ⟨0x05, t, []⟩
  | .zoneRead _ t z => ⟨0x10, t, [byteOf z]⟩
  | .zoneSet _ t w => ⟨0x11, t, w.bytes⟩
  | .zoneClear _ t z => ⟨0x12, t, [byteOf z]⟩
  | .zoneService _ t z f => ⟨0x13, t, [byteOf z, byteOf (flagBit 1 f)]⟩
  | .zoneUsedClear _ t z => ⟨0x14, t, [byteOf z]⟩
  | .bedBind _ t z => ⟨0x15, t, [byteOf z]⟩
  | .bedUnbind _ t => ⟨0x16, t, []⟩
  | .plateRegister _ t w z ox oy => ⟨0x20, t, w.bytes false z ox oy⟩
  | .plateRegisterOnHook _ t w c => ⟨0x20, t, w.bytes true c 0 0⟩
  | .platePartsReplace _ t id l => ⟨0x21, t, platePartsBytes false id l⟩
  | .platePartsAppend _ t id l => ⟨0x21, t, platePartsBytes true id l⟩
  | .plateFinish _ t id => ⟨0x22, t, bytes32 id⟩
  | .plateDrop _ t id => ⟨0x23, t, bytes32 id⟩
  | .plateRead _ t id first next => ⟨0x24, t, bytes32 id ++ [byteOf first, byteOf (flagBit 1 next)]⟩
  | .jobAdd _ t w => ⟨0x30, t, w.bytes⟩
  | .jobTake _ t => ⟨0x31, t, []⟩
  | .jobReturn _ t n => ⟨0x32, t, bytes16 n⟩
  | .jobCancel _ t b n => ⟨0x33, t, [byteOf b] ++ bytes16 n⟩
  | .jobResume _ t b n => ⟨0x34, t, [byteOf b] ++ bytes16 n⟩
  | .jobList _ t b first => ⟨0x35, t, [byteOf b, byteOf first]⟩
  | .arcStart _ t n => ⟨0x40, t, bytes16 n⟩
  | .arcEstablished _ t => ⟨0x41, t, []⟩
  | .arcOff _ t o => ⟨0x42, t, [byteOf (codeOr 255 ArcOutcome.code o)]⟩
  | .budgetRead _ t => ⟨0x43, t, []⟩
  | .spanSet _ t lo hi => ⟨0x50, t, [byteOf lo, byteOf hi]⟩
  | .spanClear _ t => ⟨0x51, t, []⟩
  | .lift _ t id z => ⟨0x52, t, bytes32 id ++ [byteOf z]⟩
  | .retarget _ t z => ⟨0x53, t, [byteOf z]⟩
  | .setDown _ t ox oy turn => ⟨0x54, t, bytes32 ox ++ bytes16 oy ++ [byteOf (codeOr 255 Turn.code turn)]⟩
  | .liftAbort _ t => ⟨0x55, t, []⟩
  | .craneRead _ t n => ⟨0x56, t, [byteOf n]⟩
  | .remnantDeclare _ t pl id x0 y0 x1 y1 =>
      ⟨0x60, t, bytes32 pl ++ bytes32 id ++ bytes16 x0 ++ bytes16 y0 ++ bytes16 x1 ++ bytes16 y1⟩
  | .remnantFit _ t g th l w h => ⟨0x61, t, [byteOf g, byteOf th] ++ bytes16 l ++ bytes16 w ++ bytes16 h⟩
  | .remnantRelease _ t id => ⟨0x62, t, bytes32 id⟩
  | .remnantList _ t g th first => ⟨0x63, t, [byteOf g, byteOf th, byteOf first]⟩
  | .logTake _ t b n => ⟨0x70, t, [byteOf b, byteOf n]⟩
  | .logRead _ t b first => ⟨0x71, t, [byteOf b, byteOf first]⟩
  | .logClearLost _ t b => ⟨0x72, t, [byteOf b]⟩
  | .alertClear _ t c subj => ⟨0x73, t, [byteOf (codeOr 0 AlertCode.code c), byteOf subj]⟩
  | .alertAckOldest _ t => ⟨0x74, t, []⟩
  | .alertClearAll _ t => ⟨0x75, t, []⟩
  | .alertRead _ t => ⟨0x76, t, []⟩
  | .paramSet _ t l => ⟨0x78, t, [byteOf l.length] ++ l.flatMap ParamEntry.bytes⟩
  | .paramRead _ t c first => ⟨0x79, t, [byteOf c, byteOf first]⟩
  | .configStore _ t => ⟨0x7A, t, []⟩
  | .restart _ t => ⟨0x7B, t, []⟩
  | .causeRead _ t => ⟨0x7C, t, []⟩
  | .frameReceived _ _ => ⟨0, 0, []⟩
  | .frameTake _ => ⟨0, 0, []⟩
  | .frameSent _ => ⟨0, 0, []⟩
  | .feederReading _ => ⟨0, 0, []⟩
  | .stalenessTimerExpiry => ⟨0, 0, []⟩
  | .establishTimerExpiry _ => ⟨0, 0, []⟩
  | .waitTimerExpiry _ => ⟨0, 0, []⟩
  | .overdueTimerExpiry _ _ => ⟨0, 0, []⟩
  | .holdTimerExpiry _ => ⟨0, 0, []⟩
  | .keepaliveTimerExpiry _ => ⟨0, 0, []⟩
  | .storeCompletion _ => ⟨0, 0, []⟩
  | .resetHold _ => ⟨0, 0, []⟩
  | .restartResetBegin => ⟨0, 0, []⟩
  | .powerStartUp => ⟨0, 0, []⟩
  | .resetRelease _ => ⟨0, 0, []⟩

/-! Decoding (R162). -/

/-- What the decoding of a taken frame gives: a request, or one of its two faults. -/
inductive Decoded where
  | request (i : Instr)
  | code
  | format
deriving DecidableEq, Repr

/-- A layout that fits the body gives a request; one that does not gives FORMAT. -/
def Decoded.ofOption : Option Instr → Decoded
  | some i => .request i
  | none => .format

def body0 (i : Instr) : List Byte → Option Instr
  | [] => some i
  | _ => none

def body1 (f : Nat → Instr) : List Byte → Option Instr
  | [a] => some (f a.toNat)
  | _ => none

def body11 (f : Nat → Nat → Instr) : List Byte → Option Instr
  | [a, b] => some (f a.toNat b.toNat)
  | _ => none

def body2 (f : Nat → Instr) : List Byte → Option Instr
  | [a, b] => some (f (nat16 a b))
  | _ => none

def body12 (f : Nat → Nat → Instr) : List Byte → Option Instr
  | [z, a, b] => some (f z.toNat (nat16 a b))
  | _ => none

def body4 (f : Nat → Instr) : List Byte → Option Instr
  | [a, b, c, d] => some (f (nat32 a b c d))
  | _ => none

/-- Exactly `n` part entries of 11 bytes. -/
def readParts : Nat → List Byte → Option (List PartWrite)
  | 0, [] => some []
  | n + 1, a :: b :: c :: d :: e :: f :: g :: h :: i :: j :: k :: rest =>
      (readParts n rest).map (⟨nat16 a b, nat16 c d, nat16 e f, nat16 g h, nat16 i j, hasBit k 128,
        PartStatus.ofCode (k.toNat % 4)⟩ :: ·)
  | _, _ => none

/-- Exactly `n` fields of 2 bytes. -/
def readNat16s : Nat → List Byte → Option (List Nat)
  | 0, [] => some []
  | n + 1, a :: b :: rest => (readNat16s n rest).map (nat16 a b :: ·)
  | _, _ => none

/-- Exactly `n` entries of a PARAM-SET. -/
def readParams : Nat → List Byte → Option (List ParamEntry)
  | 0, [] => some []
  | n + 1, a :: b :: c :: d :: e :: f :: rest =>
      (readParams n rest).map (⟨a.toNat, b.toNat, nat32 c d e f⟩ :: ·)
  | _, _ => none

def readZoneSet (p : Port) (t : Byte) : List Byte → Option Instr
  | [z, k, x0, x1, x2, x3, y0, y1, ex0, ex1, ey0, ey1, fl, cap, cr] =>
      some (.zoneSet p t ⟨z.toNat, ZoneKind.ofCode k.toNat, nat32 x0 x1 x2 x3, nat16 y0 y1, nat16 ex0 ex1,
        nat16 ey0 ey1, hasBit fl 128, cap.toNat, hasBit fl 16, hasBit cr 4, hasBit cr 2, hasBit cr 1⟩)
  | _ => none

def readPlate (p : Port) (t : Byte) : List Byte → Option Instr
  | i0 :: i1 :: i2 :: i3 :: fl :: g :: th :: l0 :: l1 :: w0 :: w1 :: z :: x0 :: x1 :: x2 :: x3 :: y0 :: y1
      :: q0 :: q1 :: q2 :: q3 :: n :: rest =>
      (readParts n.toNat rest).map fun parts =>
        let w : PlateWrite := ⟨nat32 i0 i1 i2 i3, some (if hasBit fl 128 then .remnant else .plate), g.toNat,
          th.toNat, nat16 l0 l1, nat16 w0 w1, Form.ofCode (fl.toNat / 32 % 4),
          some (if hasBit fl 8 then .deg90 else .deg0), nat32 q0 q1 q2 q3, hasBit fl 4, parts⟩
        if hasBit fl 16 then .plateRegisterOnHook p t w z.toNat
        else .plateRegister p t w z.toNat (nat32 x0 x1 x2 x3) (nat16 y0 y1)
  | _ => none

def readPlateParts (p : Port) (t : Byte) : List Byte → Option Instr
  | i0 :: i1 :: i2 :: i3 :: m :: n :: rest =>
      (readParts n.toNat rest).map fun parts =>
        if hasBit m 1 then .platePartsAppend p t (nat32 i0 i1 i2 i3) parts
        else .platePartsReplace p t (nat32 i0 i1 i2 i3) parts
  | _ => none

def readPlateRead (p : Port) (t : Byte) : List Byte → Option Instr
  | [i0, i1, i2, i3, f, n] => some (.plateRead p t (nat32 i0 i1 i2 i3) f.toNat (hasBit n 1))
  | _ => none

def readZoneService (p : Port) (t : Byte) : List Byte → Option Instr
  | [z, f] => some (.zoneService p t z.toNat (hasBit f 1))
  | _ => none

def readJob (p : Port) (t : Byte) : List Byte → Option Instr
  | bed :: n0 :: n1 :: fl :: i0 :: i1 :: i2 :: i3 :: pr :: l0 :: l1 :: c0 :: c1 :: _ :: _ :: _ :: _ :: _ :: _
      :: n :: rest =>
      (readNat16s n.toNat rest).map fun parts =>
        .jobAdd p t ⟨bed.toNat, nat16 n0 n1, some (if hasBit fl 128 then .cut else .mark), nat32 i0 i1 i2 i3,
          parts, nat16 c0 c1, pr.toNat, nat16 l0 l1⟩
  | _ => none

def readLift (p : Port) (t : Byte) : List Byte → Option Instr
  | [i0, i1, i2, i3, z] => some (.lift p t (nat32 i0 i1 i2 i3) z.toNat)
  | _ => none

def readSetDown (p : Port) (t : Byte) : List Byte → Option Instr
  | [x0, x1, x2, x3, y0, y1, tu] =>
      some (.setDown p t (nat32 x0 x1 x2 x3) (nat16 y0 y1) (Turn.ofCode tu.toNat))
  | _ => none

def readDeclare (p : Port) (t : Byte) : List Byte → Option Instr
  | [i0, i1, i2, i3, j0, j1, j2, j3, a0, a1, b0, b1, c0, c1, d0, d1] =>
      some (.remnantDeclare p t (nat32 i0 i1 i2 i3) (nat32 j0 j1 j2 j3) (nat16 a0 a1) (nat16 b0 b1)
        (nat16 c0 c1) (nat16 d0 d1))
  | _ => none

def readFit (p : Port) (t : Byte) : List Byte → Option Instr
  | [g, th, l0, l1, w0, w1, h0, h1] =>
      some (.remnantFit p t g.toNat th.toNat (nat16 l0 l1) (nat16 w0 w1) (nat16 h0 h1))
  | _ => none

def readRemnantList (p : Port) (t : Byte) : List Byte → Option Instr
  | [g, th, f] => some (.remnantList p t g.toNat th.toNat f.toNat)
  | _ => none

def readParamSet (p : Port) (t : Byte) : List Byte → Option Instr
  | n :: rest => (readParams n.toNat rest).map (.paramSet p t)
  | _ => none

/-- The layout of the request to which section 9.6 assigns a kind byte; `none` for a kind it assigns to no request. DESIGN CHOICE,
log 7: a body that section 9.9 does not lay out, and the width of a field for which R169 gives none: one byte. -/
def layoutOf (p : Port) (t : Byte) : Nat → Option (List Byte → Option Instr)
  | 0x01 => some (body1 fun r => .hello p t (Role.ofCode r))
  | 0x02 => some (body0 (.keepalive p t))
  | 0x03 => some (body1 (.statusRead p t))
  | 0x04 => some (body1 (.portRestore p t))
  | 0x05 => some (body0 (.hallRestore p t))
  | 0x10 => some (body1 (.zoneRead p t))
  | 0x11 => some (readZoneSet p t)
  | 0x12 => some (body1 (.zoneClear p t))
  | 0x13 => some (readZoneService p t)
  | 0x14 => some (body1 (.zoneUsedClear p t))
  | 0x15 => some (body1 (.bedBind p t))
  | 0x16 => some (body0 (.bedUnbind p t))
  | 0x20 => some (readPlate p t)
  | 0x21 => some (readPlateParts p t)
  | 0x22 => some (body4 (.plateFinish p t))
  | 0x23 => some (body4 (.plateDrop p t))
  | 0x24 => some (readPlateRead p t)
  | 0x30 => some (readJob p t)
  | 0x31 => some (body0 (.jobTake p t))
  | 0x32 => some (body2 (.jobReturn p t))
  | 0x33 => some (body12 (.jobCancel p t))
  | 0x34 => some (body12 (.jobResume p t))
  | 0x35 => some (body11 (.jobList p t))
  | 0x40 => some (body2 (.arcStart p t))
  | 0x41 => some (body0 (.arcEstablished p t))
  | 0x42 => some (body1 fun o => .arcOff p t (ArcOutcome.ofCode o))
  | 0x43 => some (body0 (.budgetRead p t))
  | 0x50 => some (body11 (.spanSet p t))
  | 0x51 => some (body0 (.spanClear p t))
  | 0x52 => some (readLift p t)
  | 0x53 => some (body1 (.retarget p t))
  | 0x54 => some (readSetDown p t)
  | 0x55 => some (body0 (.liftAbort p t))
  | 0x56 => some (body1 (.craneRead p t))
  | 0x60 => some (readDeclare p t)
  | 0x61 => some (readFit p t)
  | 0x62 => some (body4 (.remnantRelease p t))
  | 0x63 => some (readRemnantList p t)
  | 0x70 => some (body11 (.logTake p t))
  | 0x71 => some (body11 (.logRead p t))
  | 0x72 => some (body1 (.logClearLost p t))
  | 0x73 => some (body11 fun c s => .alertClear p t (AlertCode.ofCode c) s)
  | 0x74 => some (body0 (.alertAckOldest p t))
  | 0x75 => some (body0 (.alertClearAll p t))
  | 0x76 => some (body0 (.alertRead p t))
  | 0x78 => some (readParamSet p t)
  | 0x79 => some (body11 (.paramRead p t))
  | 0x7A => some (body0 (.configStore p t))
  | 0x7B => some (body0 (.restart p t))
  | 0x7C => some (body0 (.causeRead p t))
  | _ => none

/-- R162: CODE for a kind that names no request, FORMAT for a body that does not have the length its layout
requires, otherwise the request. -/
def decodeFrame (p : Port) (f : Frame) : Decoded :=
  match layoutOf p f.tag f.kind.toNat with
  | none => .code
  | some layout => .ofOption (layout f.body)

/-! The frame on the line (R160). -/

/-- One bit of the cyclic check with polynomial 0x1021. -/
def crcShift (c : BitVec 16) : BitVec 16 :=
  if c.msb then (c <<< 1) ^^^ 0x1021#16 else c <<< 1

/-- One byte fed in, most significant bit first. -/
def crcByte (c : BitVec 16) (b : Byte) : BitVec 16 :=
  let d := c ^^^ ((b.setWidth 16) <<< 8)
  crcShift (crcShift (crcShift (crcShift (crcShift (crcShift (crcShift (crcShift d)))))))

/-- The 16-bit cyclic check with initial value 0xFFFF, neither reflected nor inverted. -/
def crc16 (l : List Byte) : BitVec 16 := l.foldl crcByte 0xFFFF#16

/-- The two CRC bytes over a list, high byte first. -/
def crcBytes (l : List Byte) : List Byte := [(crc16 l).extractLsb' 8 8, (crc16 l).extractLsb' 0 8]

/-- The bytes of a frame on the line: the start byte, the covered bytes from the length through the body, the CRC. -/
def frameBytes (f : Frame) : List Byte :=
  let covered := byteOf f.body.length :: f.kind :: f.tag :: f.body
  0xA5#8 :: covered ++ crcBytes covered

end Sys2Proof
end

