-- ==== Sys2Proof/Machine/Records.lean ====
section
/-! DEFINITION. The records each block of the part holds, as the chapters give them. Each block has its value
after power-on beside its type. -/

namespace Sys2Proof.Machine

open Sys2Proof

/-! ## The hall model (chapter 1) -/

/-- 1.1: a half-open rectangle, origin and extent. -/
structure Rect where
  x : Nat
  y : Nat
  w : Nat
  h : Nat
deriving DecidableEq, Repr

/-- 1.4.1: a zone descriptor, without the used flag. A binding's snapshot and the stored image hold this. -/
structure ZoneDesc where
  kind : ZoneKind
  originX : Nat
  originY : Nat
  extX : Nat
  extY : Nat
  coarse : Bool
  capacity : Nat
  bind : Bool
  lift : Bool
  place : Bool
  pass : Bool
  inService : Bool
deriving DecidableEq, Repr

/-- R13: what an empty entry holds. -/
def ZoneDesc.empty : ZoneDesc := ⟨.none, 0, 0, 0, 0, false, 0, false, false, false, false, false⟩

/-- An entry of the zone table: its descriptor and its used flag (R9). -/
structure Zone where
  desc : ZoneDesc
  used : Bool
deriving DecidableEq, Repr

def Zone.empty : Zone := ⟨.empty, false⟩

/-- R16: the state of a binding. -/
inductive BindState where
  | none | bound | stale
deriving DecidableEq, Repr

/-- R16: the binding record of a port. -/
structure Binding where
  state : BindState
  zone : Nat
  snapshot : Option ZoneDesc
deriving DecidableEq, Repr

def Binding.unbound : Binding := ⟨.none, 0, none⟩

/-! ## The plate register (chapter 2) -/

/-- R23: the one location of a record. -/
inductive Location where
  | resting (zone offX offY : Nat) (turn : Turn)
  | onHook (crane : Port)
deriving DecidableEq, Repr

/-- R25: an entry of a part list. -/
structure Part where
  number : Nat
  x0 : Nat
  y0 : Nat
  x1 : Nat
  y1 : Nat
  markRequired : Bool
  status : PartStatus
deriving DecidableEq, Repr

/-- R120: a reservation: the hold taken, in seconds, and its hold timer, in the ms that are left. -/
structure Reservation where
  taken : Nat
  left : Nat
deriving DecidableEq, Repr

/-- R22: a record of the register. `hold` is the reservation, absent or present (R120). -/
structure Plate where
  id : Nat
  kind : RecordKind
  grade : Nat
  thickness : Nat
  length : Nat
  width : Nat
  location : Location
  form : Form
  parent : Option Nat
  inParent : Bool
  parts : List Part
  hold : Option Reservation
deriving DecidableEq, Repr

/-! ## Bed job tables (chapter 3) -/

/-- R40: the state of a job. -/
inductive JobState where
  | queued | taken | starting | burning | held
deriving DecidableEq, Repr

/-- R40: a job record. `timer` is the overdue timer: stopped, or the ms left (R56). -/
structure Job where
  number : Nat
  kind : JobKind
  plate : Nat
  parts : List Nat
  current : Nat
  priority : Nat
  limit : Nat
  arrival : Nat
  state : JobState
  taker : Option Port
  cancelPending : Bool
  overdue : Bool
  drops : Nat
  timer : Option Nat
deriving DecidableEq, Repr

/-- R39, R41: a job table and its arrival counter. -/
structure JobTable where
  jobs : List Job
  counter : Nat
deriving DecidableEq, Repr

def JobTable.fresh : JobTable := ⟨[], 1⟩

/-! ## Arc admission and the feeder (chapter 4) -/

/-- R61: the state of a torch. -/
inductive TorchState where
  | idle | waiting | starting | burning | dropped
deriving DecidableEq, Repr

/-- R60: a torch record; its load is computed (`Torch.load`). -/
structure Torch where
  state : TorchState
  job : Option (Nat × Nat)
  current : Nat
  surge : Nat
  seq : Nat
  establish : Option Nat
  wait : Option Nat
deriving DecidableEq, Repr

def Torch.idle : Torch := ⟨.idle, none, 0, 0, 0, none, none⟩

/-- A receiver hunts for a start byte or collects the bytes after one (R160, R165). -/
inductive Receiver where
  | hunting
  | collecting (bytes : List Byte)
deriving DecidableEq, Repr

/-- The Feeder Monitor (R64 to R70, R165). -/
structure Feeder where
  level : Nat
  capacity : Nat
  stale : Bool
  sag : Bool
  staleTimer : Option Nat
  discards : Nat
  receiver : Receiver
deriving DecidableEq, Repr

/-- R84: the values after any reset. -/
def Feeder.afterReset : Feeder := ⟨0, 0, true, false, some Config.staleMs, 0, .hunting⟩

/-! ## Cranes (chapter 5) -/

/-- R85: where a load was lifted from. -/
structure Origin where
  zone : Nat
  offX : Nat
  offY : Nat
  turn : Turn
deriving DecidableEq, Repr

/-- R86: the lift origin while the hook is FREE, and after a hook registration (R30), holds zone 0. The spec gives its
offsets and its turn no value then; 0, 0 and turn 0 are the model's choice, DESIGN CHOICE, log 29. -/
def Origin.nowhere : Origin := ⟨0, 0, 0, .deg0⟩

/-- R85: a crane record; its runway side is a parameter (R170). -/
structure Crane where
  span : Option (Nat × Nat)
  hook : Option Nat
  corridor : Option Rect
  target : Nat
  targets : List Nat
  origin : Origin
deriving DecidableEq, Repr

def Crane.powerOn : Crane := ⟨none, none, none, 0, [], .nowhere⟩

/-! ## Completion logs and alerts (chapter 7) -/

/-- R57: how a job left its table. -/
inductive Completion where
  | done | doneThenCancel | cancelled
deriving DecidableEq, Repr

/-- R57, R128: a completion record. -/
structure LogRecord where
  number : Nat
  kind : JobKind
  plate : Nat
  parts : List Nat
  outcome : Completion
  overdue : Bool
  drops : Nat
  current : Nat
deriving DecidableEq, Repr

/-- R127, R128: a completion log, oldest record first, and its lost flag. -/
structure CompletionLog where
  records : List LogRecord
  lost : Bool
deriving DecidableEq, Repr

def CompletionLog.fresh : CompletionLog := ⟨[], false⟩

/-- R136: an alert entry; the subject is a port number, a bed zone index, or 0 for a code without one. -/
structure Alert where
  code : AlertCode
  subject : Nat
deriving DecidableEq, Repr

/-! ## Ports (chapter 8) -/

/-- R144: the state of a port. -/
inductive PortState where
  | silent | online | lapsed
deriving DecidableEq, Repr

/-- R153: the return mode of a port. -/
inductive ReturnMode where
  | auto | manual | hallStop
deriving DecidableEq, Repr

/-- R147: a running keepalive timer: the ms since its start and the two marks fixed at its start. -/
structure KeepaliveTimer where
  elapsed : Nat
  early : Nat
  expiry : Nat
deriving DecidableEq, Repr

/-- R142: the part of a port record that the supervisor keeps itself. -/
structure PortRecord where
  state : PortState
  timer : Option KeepaliveTimer
  lapses : Nat
  frameErrors : Nat
deriving DecidableEq, Repr

def PortRecord.afterReset : PortRecord := ⟨.silent, none, 0, 0⟩

/-! ## Stored configuration and resets (chapter 10) -/

/-- R170: the runway side of a crane port. -/
inductive Side where
  | west | east
deriving DecidableEq, Repr

/-- R170: the sag mode. -/
inductive SagMode where
  | notify | trip
deriving DecidableEq, Repr

/-- R170: the link rate. -/
inductive LinkRate where
  | r115200 | r460800
deriving DecidableEq, Repr

/-- R170: the parameters held for each port. Role and side wait for a reset, so each may have a pending value. -/
structure PortParams where
  role : Role
  pendingRole : Option Role
  side : Side
  pendingSide : Option Side
  period : Nat
  window : Nat
  mode : ReturnMode
deriving DecidableEq, Repr

def PortParams.default (r : Role) : PortParams := ⟨r, none, .west, none, 1000, 50, .auto⟩

/-- R170: the working parameters. The runway side held for P0 is never read. -/
structure Params where
  ports : Vector PortParams 6
  linkRate : LinkRate
  pendingRate : Option LinkRate
  rating : Nat
  reserve : Nat
  sagLevel : Nat
  sagMode : SagMode
  establishLimit : Nat
  waitLimit : Nat
  minSide : Nat
  minArea : Nat
  watermarks : Vector Nat 48
deriving DecidableEq, Repr

/-- R170: every parameter at its default, with P1 to P5 UNUSED. -/
def Params.default : Params where
  ports := #v[.default .planning, .default .unused, .default .unused, .default .unused, .default .unused,
    .default .unused]
  linkRate := .r115200
  pendingRate := none
  rating := 1000
  reserve := 50
  sagLevel := 930
  sagMode := .trip
  establishLimit := 1500
  waitLimit := 20
  minSide := 500
  minArea := 500000
  watermarks := Vector.replicate 48 12

/-- R174: what the nonvolatile image holds. -/
structure Image where
  params : Params
  zones : Vector ZoneDesc 48
deriving DecidableEq, Repr

/-- R174: the image store: GOOD with its image, BAD, or WRITING a copy. -/
inductive ImageStore where
  | good (image : Image)
  | bad
  | writing (copy : Image)
deriving DecidableEq, Repr

/-- R177: four flags, one for each kind of reset. -/
structure Causes where
  power : Bool
  line : Bool
  restart : Bool
  supply : Bool
deriving DecidableEq, Repr

def Causes.clear : Causes := ⟨false, false, false, false⟩

/-- R176: the kinds of reset now held, and those that occurred since the hold began. -/
structure Hold where
  active : Causes
  occurred : Causes
deriving DecidableEq, Repr

def Hold.released : Hold := ⟨.clear, .clear⟩

/-- R176: an accepted RESTART waits for its reply to be sent. With the last byte of that reply its reset begins, and
`due` is the step from there to its release, in which the part is held. -/
inductive RestartStage where
  | none | replying | due
deriving DecidableEq, Repr

end Sys2Proof.Machine
end

