-- ==== Sys2Proof/Machine/Reports.lean ====
section
/-! DEFINITION. What the part sends: the status codes (section 9.7), the replies with the data their rules
name, and the notices (section 9.8). A reply is kept as values; its frame is in Wire. -/

namespace Sys2Proof.Machine

open Sys2Proof

/-- Section 9.7: the status codes, those of the result class first. -/
inductive Status where
  | ok | clamped | pending | granted | queued | none | late | early
  | nullZone | range | full | duplicate | unknownId | state | busy | locked | reserved | absent
  | rights | fit | overlap | occupied | hot | pass | span | disjoint | conflict | corridor | unbound | stale
  | takenElsewhere | order | halt | small | role | offline | already | barred | code | format
deriving DecidableEq, Repr

/-- R167: why an ARC-START is QUEUED. -/
inductive QueueReason where
  | budget | corridor | sag | staleFeeder
deriving DecidableEq, Repr

/-- R108: the action of a CRANE_MOVE. -/
inductive CraneAction where
  | lifted | retargeted | setDown | scrapped | aborted
deriving DecidableEq, Repr

/-- R108, R168: what follows the zone in a CRANE_MOVE. -/
inductive MoveData where
  | corridor (r : Rect)
  | place (offX offY : Nat) (turn : Turn)
  | nothing
deriving DecidableEq, Repr

/-- Section 9.8: the notices and their fields. -/
inductive Notice where
  | grant (bed job surge : Nat)
  | shed (bed job : Nat)
  | startFailed (bed job : Nat)
  | startTimeout (bed job : Nat)
  | halted (bed job : Nat)
  | jobWithdrawn (bed job : Nat)
  | bedStale (zone : Nat)
  | craneMove (crane : Port) (action : CraneAction) (id zone : Nat) (data : MoveData)
  | reserveExpired (id : Nat)
  | alert (code : AlertCode) (subject entries : Nat)
  | stored
deriving DecidableEq, Repr

/-- R158: the reply of STATUS-READ. -/
structure GantryStatus where
  binding : Binding
  torch : TorchState
  held : Option (Nat × Nat)
deriving DecidableEq, Repr

structure CraneStatus where
  side : Side
  span : Option (Nat × Nat)
  hook : Option Nat
deriving DecidableEq, Repr

structure StatusReport where
  role : Role
  pendingRole : Option Role
  state : PortState
  period : Nat
  window : Nat
  mode : ReturnMode
  marks : Option (Nat × Nat)
  lapses : Nat
  frameErrors : Nat
  permit : Bool
  latch : Option Port
  gantry : Option GantryStatus
  crane : Option CraneStatus
deriving DecidableEq, Repr

/-- R10: the reply of ZONE-READ. -/
structure ZoneReport where
  zone : Nat
  desc : ZoneDesc
  used : Bool
  rect : Rect
  resting : Nat
  bound : Option (Port × BindState)
  targeted : Bool
deriving DecidableEq, Repr

/-- R37: the reply of PLATE-READ. `record` holds the fields of R22 but for the part entries and the hold. -/
structure PlateReport where
  record : Plate
  footprint : Option Rect
  partCount : Nat
  refs : Nat
  inIndex : Bool
  holdSeconds : Option Nat
  fill : Nat
  entries : List Part
deriving DecidableEq, Repr

/-- R47: the reply of an accepted JOB-TAKE. -/
structure TakeReport where
  bed : Nat
  number : Nat
  kind : JobKind
  plate : Nat
  parts : List Nat
  current : Nat
  priority : Nat
  limit : Nat
  drops : Nat
  overdue : Bool
  offX : Nat
  offY : Nat
  turn : Turn
  skipped : Nat
deriving DecidableEq, Repr

/-- R58: the reply of JOB-LIST. -/
structure JobListReport where
  count : Nat
  queued : Nat
  taken : Nat
  starting : Nat
  burning : Nat
  held : Nat
  counter : Nat
  bound : Option (Port × BindState)
  jobs : List Job
deriving DecidableEq, Repr

/-- R83: an entry of the start queue and a torch in the reply of BUDGET-READ. -/
structure QueueEntry where
  port : Port
  job : Option (Nat × Nat)
  current : Nat
  surge : Nat
  waitMs : Option Nat
deriving DecidableEq, Repr

structure TorchReport where
  port : Port
  state : TorchState
  job : Option (Nat × Nat)
  current : Nat
  surge : Nat
  load : Nat
  seq : Nat
  establishMs : Option Nat
deriving DecidableEq, Repr

structure BudgetReport where
  rating : Nat
  reserve : Nat
  level : Nat
  capacity : Nat
  committed : Nat
  stale : Bool
  sag : Bool
  sagLevel : Nat
  sagMode : SagMode
  discards : Nat
  establishLimit : Nat
  waitLimit : Nat
  queue : List QueueEntry
  torches : List TorchReport
deriving DecidableEq, Repr

/-- R109: the reply of CRANE-READ. -/
structure CraneReport where
  side : Side
  crane : Crane
  columns : Option (Nat × Nat)
  state : PortState
  permit : Bool
deriving DecidableEq, Repr

/-- R120: the reply of an answered REMNANT-FIT. -/
structure FitReport where
  id : Nat
  length : Nat
  width : Nat
  area : Nat
  orientation : Turn
  zone : Nat
  offX : Nat
  offY : Nat
  turn : Turn
  footprint : Rect
  inService : Bool
  refs : Nat
  hold : Nat
deriving DecidableEq, Repr

/-- R117: an entry of the reply of REMNANT-LIST. -/
structure RemnantEntry where
  id : Nat
  thickness : Nat
  length : Nat
  width : Nat
  area : Nat
  zone : Nat
  footprint : Rect
  inParent : Bool
  refs : Nat
  holdSeconds : Option Nat
deriving DecidableEq, Repr

/-- R132, R133: the reply of LOG-TAKE and LOG-READ. -/
structure LogReport where
  bed : Nat
  records : List LogRecord
  fill : Nat
  lost : Bool
  watermark : Nat
deriving DecidableEq, Repr

/-- R173: one index in the reply of PARAM-READ, its value in force and its pending value. -/
structure ParamReport where
  index : Nat
  value : Nat
  pending : Option Nat
deriving DecidableEq, Repr

/-- R174: the state of the image. -/
inductive ImageState where
  | good | bad | writing
deriving DecidableEq, Repr

/-- The data a reply carries after its two opening bytes (R162). -/
inductive ReplyData where
  | nothing
  | hello (period window : Nat) (mode : ReturnMode) (latch : Option Port)
  | marks (period window : Nat)
  | status (r : StatusReport)
  | cause (p : Option Port)
  | zone (r : ZoneReport)
  | rect (r : Rect)
  | snapshot (zone : Nat) (d : ZoneDesc)
  | parts (count : Nat)
  | plate (r : PlateReport)
  | fill (n : Nat)
  | added (arrival position : Nat) (limitTaken : Option Nat)
  | taken (r : TakeReport)
  | skipped (queued : Nat)
  | position (n : Nat)
  | jobs (r : JobListReport)
  | granted (seq : Nat)
  | queued (reason : QueueReason) (position committed capacity : Nat)
  | torch (was : TorchState) (recorded : Option Completion)
  | budget (r : BudgetReport)
  | columns (span : Nat × Nat)
  | corridor (r : Rect) (columns : Nat × Nat)
  | deleted
  | crane (r : CraneReport)
  | remnant (id length width offX offY : Nat) (turn : Turn) (footprint : Rect)
  | fit (r : FitReport)
  | noFit (members reserved : Nat)
  | remnants (covered reserved : Nat) (entries : List RemnantEntry)
  | log (r : LogReport)
  | alertsLeft (n : Nat)
  | acknowledged (a : Alert) (left : Nat)
  | cleared (removed overflow : Nat)
  | alerts (entries : List Alert) (count overflow : Nat) (line : Bool)
  | paramsTaken (entries : List ParamEntry)
  | params (entries : List ParamReport) (image : ImageState)
  | causes (c : Causes)
deriving DecidableEq, Repr

/-- R161, R162: a reply: the tag it echoes, its status, the notices-lost flag of its header, its data. -/
structure Reply where
  tag : Byte
  status : Status
  noticesLost : Bool
  data : ReplyData
deriving DecidableEq, Repr

/-- R163: what a transmitter is sending. -/
inductive Sending where
  | idle | reply | notice
deriving DecidableEq, Repr

/-- R163: the kind of the last frame sent. -/
inductive SentKind where
  | reply | notice
deriving DecidableEq, Repr

/-- R160 to R164: the link of one port. -/
structure Link where
  receiver : Receiver
  buffer : List Frame
  slot : Option Reply
  notices : List Notice
  lost : Bool
  sending : Sending
  lastSent : SentKind
deriving DecidableEq, Repr

/-- R166: the values after any reset. -/
def Link.afterReset : Link := ⟨.hunting, [], none, [], false, .idle, .notice⟩

end Sys2Proof.Machine
end

