-- ==== Sys2Proof/Machine/State.lean ====
section
/-! DEFINITION. The state of the part: every piece the spec names (INVENTORY.md lists them with their rules),
and the queue of commands that wait. -/

namespace Sys2Proof.Machine

open Sys2Proof

/-- The spec describes no condition that stops the part: no command ends in a fault, so there is none to name. -/
inductive Fault where
deriving DecidableEq, Repr

/-- Why a command has no meaning. -/
inductive Refusal where
  /-- Raised by `exec` for a command whose meaning is not written; safe, since the machine stops. No arm uses it. -/
  | notModelled (mnemonic : String)
deriving DecidableEq, Repr

structure State where
  /-- The zone table (R5); entry 0 is the null zone. -/
  zones : Vector Zone 48
  /-- One binding for each port; that of a port that is no GANTRY stays NONE (R16, log 27). -/
  bindings : Vector Binding 6
  /-- The plate register (R21), held in ascending id (log 22). -/
  records : List Plate
  /-- The job tables, by zone index (R39); that of a zone that is not BED is in its fresh state. -/
  tables : Vector JobTable 48
  /-- The completion logs, by zone index (R127); that of a zone that is not BED is in its fresh state. -/
  logs : Vector CompletionLog 48
  /-- The torch records (R60); that of a port that is no GANTRY stays IDLE. -/
  torches : Vector Torch 6
  /-- The start queue, head first (R72). -/
  startQueue : List Port
  /-- Committed load Q (R63). -/
  committed : Nat
  /-- The Feeder Monitor and usable capacity C. -/
  feeder : Feeder
  /-- The crane records (R85); that of a port that is no CRANE keeps its power-on values. -/
  cranes : Vector Crane 6
  /-- The port records (R142). -/
  ports : Vector PortRecord 6
  /-- The hall-stop latch: absent while clear, its cause port while set (R154, R155). -/
  hallStop : Option Port
  /-- The links (R160 to R164). -/
  links : Vector Link 6
  /-- The alert list, oldest first, and its overflow count (R136). -/
  alerts : List Alert
  overflow : Nat
  /-- The working parameters (R170). -/
  params : Params
  /-- The stored image (R174). -/
  image : ImageStore
  /-- The reset cause record (R177). -/
  causes : Causes
  /-- The resets held (R176). -/
  hold : Hold
  /-- The stage of an accepted RESTART (R176). -/
  restart : RestartStage
  /-- The commands that wait, first in first out (log 1). -/
  pending : List Instr
deriving DecidableEq, Repr

/-- The part right after a power-on that found an image never written (R178 with the image BAD, log 15):
every parameter at its default, every block at its power-on values, CONFIG_DEFAULTED in the alert list, and its
ALERT notice in P0's queue, which P0's transmitter is sending. -/
def State.reset : State where
  zones := Vector.replicate 48 .empty
  bindings := Vector.replicate 6 .unbound
  records := []
  tables := Vector.replicate 48 .fresh
  logs := Vector.replicate 48 .fresh
  torches := Vector.replicate 6 .idle
  startQueue := []
  committed := 0
  feeder := .afterReset
  cranes := Vector.replicate 6 .powerOn
  ports := Vector.replicate 6 .afterReset
  hallStop := none
  links := #v[⟨.hunting, [], none, [.alert .configDefaulted 0 1], false, .notice, .notice⟩,
    .afterReset, .afterReset, .afterReset, .afterReset, .afterReset]
  alerts := [⟨.configDefaulted, 0⟩]
  overflow := 0
  params := .default
  image := .bad
  causes := ⟨true, false, false, false⟩
  hold := .released
  restart := .none
  pending := []

end Sys2Proof.Machine
end

