-- ==== Sys2Proof/Machine/Operands.lean ====
section
/-! DEFINITION. The arithmetic of the floor and of the operands: rectangles, footprints, columns (R1 to R4), the
derived quantities of a zone, a record, a torch and a job, and the orders of R42 and R116. -/

namespace Sys2Proof.Machine

open Sys2Proof

/-- A function applied to every element of a bank, over the list of its elements, so that it evaluates. -/
def onEach {α β : Type} {n : Nat} (f : α → β) (v : Vector α n) : Vector β n :=
  ⟨⟨v.toList.map f⟩, by simp⟩

/-! ## Rectangles (R1, R2) -/

/-- R1: the rectangles share a position. -/
def Rect.intersects (a b : Rect) : Bool :=
  decide (a.x < b.x + b.w) && decide (b.x < a.x + a.w) && decide (a.y < b.y + b.h) && decide (b.y < a.y + a.h)

/-- R1: `a` lies within `b`. -/
def Rect.within (a b : Rect) : Bool :=
  decide (b.x ≤ a.x) && decide (b.y ≤ a.y) && decide (a.x + a.w ≤ b.x + b.w) && decide (a.y + a.h ≤ b.y + b.h)

/-- R1: the hall rectangle. -/
def hallRect : Rect := ⟨0, 0, Config.hallX, Config.hallY⟩

/-- R2: the smallest rectangle that holds both. -/
def Rect.enclose (a b : Rect) : Rect :=
  let x := min a.x b.x
  let y := min a.y b.y
  ⟨x, y, max (a.x + a.w) (b.x + b.w) - x, max (a.y + a.h) (b.y + b.h) - y⟩

/-! ## Footprints (R3) -/

/-- R3: the record frame rectangle [u0, u1) × [v0, v1) of a record of width `wd`, in the zone frame. -/
def placeRect (wd offX offY : Nat) (turn : Turn) (u0 v0 u1 v1 : Nat) : Rect :=
  match turn with
  | .deg0 => ⟨offX + u0, offY + v0, u1 - u0, v1 - v0⟩
  | .deg90 => ⟨offX + wd - v1, offY + u0, v1 - v0, u1 - u0⟩

/-- R3: the footprint of a whole record in the zone frame. -/
def footprint (length width offX offY : Nat) (turn : Turn) : Rect :=
  placeRect width offX offY turn 0 0 length width

/-- R3: the footprint moved by the zone's origin. -/
def Rect.moved (r : Rect) (x y : Nat) : Rect := ⟨x + r.x, y + r.y, r.w, r.h⟩

/-! ## Columns (R4) -/

/-- R4: the columns a rectangle occupies. -/
def Rect.columns (r : Rect) : Nat × Nat :=
  (r.x / Config.columnWidth, (r.x + r.w - 1) / Config.columnWidth)

/-- R4: a column range lies within a span; an EMPTY span holds none. -/
def columnsWithin (c : Nat × Nat) : Option (Nat × Nat) → Bool
  | some s => decide (s.1 ≤ c.1) && decide (c.2 ≤ s.2)
  | none => false

/-- R4: two column ranges share a column. -/
def columnsShare (a b : Nat × Nat) : Bool := decide (a.1 ≤ b.2) && decide (b.1 ≤ a.2)

/-- R30: a span at the full hall width. -/
def spanRect (s : Nat × Nat) : Rect :=
  ⟨Config.columnWidth * s.1, 0, Config.columnWidth * (s.2 - s.1 + 1), Config.hallY⟩

/-! ## Zones (R6) -/

/-- R6: an extent in mm. -/
def extentMm (coarse : Bool) (count : Nat) : Nat := if coarse then count * 100 else count

/-- R6: the rectangle of a descriptor. -/
def ZoneDesc.rect (d : ZoneDesc) : Rect :=
  ⟨d.originX, d.originY, extentMm d.coarse d.extX, extentMm d.coarse d.extY⟩

/-- R3: the zone frame of a descriptor. -/
def ZoneDesc.frame (d : ZoneDesc) : Rect := ⟨0, 0, extentMm d.coarse d.extX, extentMm d.coarse d.extY⟩

/-! ## Records -/

/-- R6: the record rests in zone `z`. -/
def Plate.restsIn (r : Plate) (z : Nat) : Bool :=
  match r.location with
  | .resting z' _ _ _ => decide (z' = z)
  | .onHook _ => false

def Plate.isResting (r : Plate) : Bool :=
  match r.location with
  | .resting _ _ _ _ => true
  | .onHook _ => false

/-- The zone a record rests in, 0 for one on a hook. -/
def Plate.zoneOf (r : Plate) : Nat :=
  match r.location with
  | .resting z _ _ _ => z
  | .onHook _ => 0

/-- The zone frame footprint of a resting record. -/
def Plate.zoneFootprint (r : Plate) : Option Rect :=
  match r.location with
  | .resting _ ox oy t => some (footprint r.length r.width ox oy t)
  | .onHook _ => none

/-- R115: the four conditions of membership in the remnant index. -/
def Plate.isMember (r : Plate) : Bool :=
  decide (r.kind = .remnant) && decide (r.form = .whole) && r.parts.isEmpty && r.isResting

def Plate.area (r : Plate) : Nat := r.length * r.width

/-- R28: `a` is a remnant lying where it was cut on its parent `b`. -/
def Plate.liesOn (a b : Plate) : Bool := decide (a.kind = .remnant) && a.inParent && decide (a.parent = some b.id)

/-- R28: the pair exempt from the overlap test. -/
def exemptPair (a b : Plate) : Bool := a.liesOn b || b.liesOn a

/-- R120: a reservation as it is placed, its hold timer started at the hold taken. -/
def Reservation.start (seconds : Nat) : Reservation := ⟨seconds, seconds * 1000⟩

/-- R37, R117: the whole seconds left on a hold, rounded up. -/
def Reservation.secondsLeft (h : Reservation) : Nat := (h.left + 999) / 1000

/-- R120: the hold timer of a record, which runs while the record is reserved. -/
def Plate.holdTimer (r : Plate) : Option Nat := r.hold.map Reservation.left

/-- R116: the order of the remnant index: grade, thickness, area, id, each ascending. -/
def indexLe (a b : Plate) : Bool :=
  if a.grade ≠ b.grade then decide (a.grade < b.grade)
  else if a.thickness ≠ b.thickness then decide (a.thickness < b.thickness)
  else if a.area ≠ b.area then decide (a.area < b.area)
  else decide (a.id ≤ b.id)

/-! ## Part lists (R26) -/

/-- R26: the statuses a form allows in a written entry. -/
def statusAllowed (form : Form) : Option PartStatus → Bool
  | some .unmarked => true
  | some .marked => true
  | some .separated => decide (form ≠ .whole)
  | none => false

/-- R26: the tests on one entry of a record of the given form, length and width. -/
def entryValid (form : Form) (length width : Nat) (e : PartWrite) : Bool :=
  decide (1 ≤ e.number) && decide (e.number ≤ 65535) && decide (e.x0 < e.x1) && decide (e.x1 ≤ length)
    && decide (e.y0 < e.y1) && decide (e.y1 ≤ width) && statusAllowed form e.status

/-- R26: the list test but for the limit of 32, against the numbers already in the list. -/
def listTest (form : Form) (length width : Nat) (already : List Nat) (l : List PartWrite) : Bool :=
  decide (l.length ≤ Config.maxPartsSent) && l.all (entryValid form length width)
    && decide (already ++ l.map (·.number)).Nodup

/-- The part an entry writes. -/
def partOf (e : PartWrite) : Part :=
  ⟨e.number, e.x0, e.y0, e.x1, e.y1, e.markRequired, e.status.getD .unmarked⟩

/-! ## Jobs -/

/-- R43: the states in which a port holds a job. -/
def JobState.active : JobState → Bool
  | .taken | .starting | .burning => true
  | .queued | .held => false

/-- The states in which a job's arc is lit. -/
def JobState.lit : JobState → Bool
  | .starting | .burning => true
  | _ => false

/-- R42: the take order ranks by priority, then by arrival number. -/
def takeLe (a b : Job) : Bool :=
  if a.priority ≠ b.priority then decide (a.priority < b.priority) else decide (a.arrival ≤ b.arrival)

/-- R42: the jobs of a table in take order. -/
def takeOrder (l : List Job) : List Job := l.insertionSort (fun a b => takeLe a b = true)

/-- R57: the completion record of a job. -/
def Job.logRecord (j : Job) (outcome : Completion) : LogRecord :=
  ⟨j.number, j.kind, j.plate, j.parts, outcome, j.overdue, j.drops, j.current⟩

/-- R132: the bytes a record takes in a reply. -/
def LogRecord.size (r : LogRecord) : Nat := Config.logRecordBytes + 2 * r.parts.length

/-- R132, R133: the records, at most `n` of them, that fit a body after `used` bytes. -/
def fitting (used : Nat) : Nat → List LogRecord → List LogRecord
  | 0, _ => []
  | _ + 1, [] => []
  | n + 1, r :: rest =>
      if used + r.size ≤ Config.maxBody then r :: fitting (used + r.size) n rest else []

/-! ## Torches -/

def TorchState.lit : TorchState → Bool
  | .starting | .burning => true
  | _ => false

/-- R60: the surge of a set current, rounded up. -/
def surgeOf (current : Nat) : Nat := (3 * current + 1) / 2

/-- R60: the load of a torch. -/
def Torch.load (t : Torch) : Nat :=
  match t.state with
  | .starting => t.surge
  | .burning => t.current
  | _ => 0

/-- R64: usable capacity from rating, reserve and level. -/
def capacityOf (rating reserve level : Nat) : Nat :=
  rating * min level Config.nominalLevel / Config.nominalLevel - reserve

/-! ## Timers (00_scope 4.5) -/

/-- A timer counted in the ms that are left has run to its end. One that is stopped, or that a later start has set anew, has
not, and its old expiry does not happen (R68, R149; log 4). -/
def runOut (t : Option Nat) : Bool := decide (t = some 0)

/-! ## Clamping (00_scope 4.3) -/

/-- A value replaced by the nearer limit of its range. -/
def clampTo (lo hi n : Nat) : Nat := max lo (min hi n)

/-- A count that stops at its limit. -/
def countUp (limit n : Nat) : Nat := min limit (n + 1)

/-! ## Ordered refusals (00_scope 4.3) -/

/-- A refusal table: its cases in order, each with its status. -/
abbrev Cases := List (Bool × Status)

/-- The cases are tested top to bottom, and the first that holds gives the status. -/
def firstCase : Cases → Option Status
  | [] => none
  | (b, st) :: rest => if b then some st else firstCase rest

end Sys2Proof.Machine
end

