-- ==== Sys2Proof/Machine/Ops.lean ====
section
/-! DEFINITION. The named operations every command is written over: reading and writing each block's state, notices
and alerts, completion pushes, the ends of a job, the torch changes, the queue walk, the lapse and the hall stop,
the admission and answering of a request, and the transmitters. -/

namespace Sys2Proof.Machine

open Sys2Proof

/-! ## Reading and writing the blocks -/

/-- The zone entry at an index; above 47 there is none, and it reads as an empty entry. -/
def State.zone (s : State) (z : Nat) : Zone := if h : z < 48 then s.zones[z] else .empty

def State.desc (s : State) (z : Nat) : ZoneDesc := (s.zone z).desc

def State.setZone (z : Nat) (e : Zone) (s : State) : State := { s with zones := s.zones.setIfInBounds z e }

/-- R9: sets a zone's used flag. -/
def State.setUsed (z : Nat) (f : Bool) (s : State) : State := s.setZone z { s.zone z with used := f }

def State.table (s : State) (b : Nat) : JobTable := if h : b < 48 then s.tables[b] else .fresh

def State.setTable (b : Nat) (t : JobTable) (s : State) : State := { s with tables := s.tables.setIfInBounds b t }

def State.log (s : State) (b : Nat) : CompletionLog := if h : b < 48 then s.logs[b] else .fresh

def State.setLog (b : Nat) (l : CompletionLog) (s : State) : State := { s with logs := s.logs.setIfInBounds b l }

def State.binding (s : State) (p : Port) : Binding := s.bindings[p.val]

def State.setBinding (p : Port) (b : Binding) (s : State) : State :=
  { s with bindings := s.bindings.set p.val b p.isLt }

def State.torch (s : State) (p : Port) : Torch := s.torches[p.val]

/-- R63: a torch changes, and committed load changes with its load in the same step. -/
def State.setTorch (p : Port) (t : Torch) (s : State) : State :=
  { s with torches := s.torches.set p.val t p.isLt, committed := s.committed + t.load - (s.torch p).load }

def State.crane (s : State) (p : Port) : Crane := s.cranes[p.val]

def State.setCrane (p : Port) (c : Crane) (s : State) : State := { s with cranes := s.cranes.set p.val c p.isLt }

def State.port (s : State) (p : Port) : PortRecord := s.ports[p.val]

def State.setPort (p : Port) (r : PortRecord) (s : State) : State := { s with ports := s.ports.set p.val r p.isLt }

def State.link (s : State) (p : Port) : Link := s.links[p.val]

def State.setLink (p : Port) (l : Link) (s : State) : State := { s with links := s.links.set p.val l p.isLt }

def State.portParams (s : State) (p : Port) : PortParams := s.params.ports[p.val]

/-- R143: the role in force. -/
def State.role (s : State) (p : Port) : Role := (s.portParams p).role

/-- Some flag is set. -/
def Causes.any (c : Causes) : Bool := c.power || c.line || c.restart || c.supply

/-- R176: a reset is held, the RESTART from the last byte of its reply among them. -/
def State.held (s : State) : Bool := s.hold.active.any || decide (s.restart = .due)

/-- The port with a number, if it is one of P0 to P5. -/
def portOf (n : Nat) : Option Port := if h : n < 6 then some ⟨n, h⟩ else none

/-! ## The register -/

/-- R21: the record with an id. -/
def State.record (s : State) (id : Nat) : Option Plate := s.records.find? fun r => decide (r.id = id)

/-- Changes the record with an id. -/
def changeRecord (id : Nat) (f : Plate → Plate) (r : Plate) : Plate := if r.id = id then f r else r

def State.setRecord (id : Nat) (f : Plate → Plate) (s : State) : State :=
  { s with records := s.records.map (changeRecord id f) }

/-- Adds a record at its place in ascending id (log 22). -/
def State.addRecord (r : Plate) (s : State) : State :=
  { s with records := s.records.takeWhile (fun q => decide (q.id < r.id)) ++ r
      :: s.records.dropWhile (fun q => decide (q.id < r.id)) }

/-- R28: the in-parent flag of a remnant of a parent clears. -/
def Plate.leftBy (parent : Nat) (r : Plate) : Plate := if r.parent = some parent then { r with inParent := false } else r

/-- R28: the in-parent flags of every remnant of a parent clear. -/
def State.clearInParent (parent : Nat) (s : State) : State := { s with records := s.records.map (Plate.leftBy parent) }

/-- R35: a record leaves the register, and its remnants' in-parent flags clear. -/
def State.deleteRecord (id : Nat) (s : State) : State :=
  State.clearInParent id { s with records := s.records.filter fun r => decide (r.id ≠ id) }

/-- R6: the records resting in a zone, and their count. -/
def State.restingIn (s : State) (z : Nat) : List Plate := s.records.filter (·.restsIn z)

def State.restingCount (s : State) (z : Nat) : Nat := (s.restingIn z).length

/-- R3: the hall footprint of a resting record, by the current descriptor of its zone. -/
def State.hallFootprint (s : State) (r : Plate) : Option Rect :=
  r.zoneFootprint.map fun f => f.moved (s.desc r.zoneOf).originX (s.desc r.zoneOf).originY

/-- R115, R116: the remnant index, the members in index order. -/
def State.remnantIndex (s : State) : List Plate :=
  (s.records.filter Plate.isMember).insertionSort (fun a b => indexLe a b = true)

/-! ## Jobs -/

/-- Every job of every table, with its bed, the beds in ascending order. -/
def State.allJobs (s : State) : List (Nat × Job) :=
  (List.range 48).flatMap fun b => (s.table b).jobs.map fun j => (b, j)

/-- R36: the job reference count of a record. -/
def State.refs (s : State) (id : Nat) : Nat := (s.allJobs.filter fun bj => decide (bj.2.plate = id)).length

/-- R43: the job a port holds, with its bed. -/
def State.heldJob (s : State) (p : Port) : Option (Nat × Job) :=
  s.allJobs.find? fun bj => decide (bj.2.taker = some p) && bj.2.state.active

/-- The job of a bed with a number. -/
def State.job (s : State) (b n : Nat) : Option Job := (s.table b).jobs.find? fun j => decide (j.number = n)

/-- Changes the job with a number. -/
def changeJob (n : Nat) (f : Job → Job) (j : Job) : Job := if j.number = n then f j else j

/-- Changes the job of a bed with a number. -/
def State.setJob (b n : Nat) (f : Job → Job) (s : State) : State :=
  s.setTable b { s.table b with jobs := (s.table b).jobs.map (changeJob n f) }

/-! ## Rights to a bed -/

/-- R16: the ports whose binding names a zone, BOUND or STALE. -/
def State.bindersOf (s : State) (z : Nat) : List Port :=
  allPorts.filter fun p => decide ((s.binding p).state ≠ .none) && decide ((s.binding p).zone = z)

/-- R16: a bed is hot while a binding names it and the bound port's torch is lit. -/
def State.isHot (s : State) (z : Nat) : Bool := (s.bindersOf z).any fun p => (s.torch p).state.lit

/-- A crane's active lift names the zone as its target. -/
def State.targeted (s : State) (z : Nat) : Bool :=
  allPorts.any fun p => (s.crane p).hook.isSome && decide ((s.crane p).target = z)

/-- R86, R93: some active corridor intersects the rectangle. -/
def State.underCorridor (s : State) (r : Rect) : Bool :=
  allPorts.any fun p => (s.crane p).hook.isSome && ((s.crane p).corridor.any fun c => c.intersects r)

/-! ## Notices and alerts -/

/-- R164: a notice is queued, or dropped with the notices-lost flag set when 8 notices wait. -/
def Link.offer (n : Notice) (l : Link) : Link :=
  if l.notices.length < Config.maxNotices then { l with notices := l.notices ++ [n] } else { l with lost := true }

def State.notify (p : Port) (n : Notice) (s : State) : State := s.setLink p ((s.link p).offer n)

/-- A notice that names the bed and number of a torch's job. -/
def State.notifyJob (p : Port) (t : Torch) (f : Nat → Nat → Notice) (s : State) : State :=
  match t.job with
  | some (b, n) => s.notify p (f b n)
  | none => s

/-- R137: a raise. -/
def State.raise (code : AlertCode) (subject : Nat) (s : State) : State :=
  if s.alerts.contains ⟨code, subject⟩ then s
  else if s.alerts.length < Config.maxAlerts then
    State.notify 0 (.alert code subject (s.alerts.length + 1)) { s with alerts := s.alerts ++ [⟨code, subject⟩] }
  else { s with overflow := countUp Config.maxOverflow s.overflow }

/-! ## Completion pushes and the ends of a job -/

/-- R130: the watermark of a bed. -/
def State.watermark (s : State) (b : Nat) : Nat := if h : b < 48 then s.params.watermarks[b] else 0

/-- R129, R130, R131: a push. -/
def State.push (b : Nat) (r : LogRecord) (s : State) : State :=
  let l := s.log b
  if l.records.length < Config.maxLog then
    let s := s.setLog b { l with records := l.records ++ [r] }
    if s.watermark b ≠ 0 ∧ s.watermark b ≤ l.records.length + 1 then s.raise .logHigh b else s
  else (s.setLog b { l with lost := true }).raise .logLost b

/-- R57, R41: a job leaves its table with a completion record; an emptied table's counter returns to 1. -/
def State.removeJob (b : Nat) (j : Job) (outcome : Completion) (s : State) : State :=
  let s := s.push b (j.logRecord outcome)
  let left := (s.table b).jobs.filter fun k => decide (k.number ≠ j.number)
  s.setTable b ⟨left, if left.isEmpty then 1 else (s.table b).counter⟩

/-- R51, R52: the job becomes HELD. -/
def Job.toHeld (drops : Nat) (j : Job) : Job :=
  { j with state := .held, taker := none, timer := none, drops := drops }

/-- R51: a lit job stops without finishing; `bump` says whether the part itself took the arc away. -/
def State.stopJob (b : Nat) (j : Job) (bump : Bool) (s : State) : State :=
  let drops := if bump then countUp Config.maxDrops j.drops else j.drops
  if j.cancelPending then s.removeJob b { j with drops := drops } .cancelled
  else s.setJob b j.number (Job.toHeld drops)

/-- R51 for the job a port holds, if its arc is lit. -/
def State.stopHeld (p : Port) (bump : Bool) (s : State) : State :=
  match s.heldJob p with
  | some (b, j) => if j.state.lit then s.stopJob b j bump else s
  | none => s

/-- R25, R24: what a finished job does to its plate. -/
def Plate.finish (j : Job) (r : Plate) : Plate :=
  { r with
    parts := r.parts.map fun q =>
      if j.parts.contains q.number then
        match j.kind with
        | .mark => if q.status = .unmarked then { q with status := .marked } else q
        | .cut => { q with status := .separated }
      else q
    form := if j.kind = .cut ∧ j.parts ≠ [] ∧ r.form = .whole then .worked else r.form }

/-- R50 step 3: the outcome recorded when the job finishes. -/
def Job.finished (j : Job) : Completion := if j.cancelPending then .doneThenCancel else .done

/-- R50: the job finishes. -/
def State.finishJob (b : Nat) (j : Job) (s : State) : State :=
  let s := s.setRecord j.plate (Plate.finish j)
  s.removeJob b j j.finished

/-! ## Torches and the start queue -/

/-- R62: a torch above a number that is given up is lowered by one. -/
def Torch.closedUp (k : Nat) (t : Torch) : Torch := if k < t.seq then { t with seq := t.seq - 1 } else t

/-- R62: the lit torches close up over a number that is given up. -/
def State.closeUp (k : Nat) (s : State) : State := { s with torches := onEach (Torch.closedUp k) s.torches }

/-- R62: the number of lit torches. -/
def State.litCount (s : State) : Nat := (allPorts.filter fun p => (s.torch p).state.lit).length

/-- R72: an entry leaves the start queue. -/
def State.unqueue (p : Port) (s : State) : State := { s with startQueue := s.startQueue.filter fun q => decide (q ≠ p) }

/-- A torch leaves its state for IDLE or DROPPED: its load leaves Q, its timers stop, the numbers close up. -/
def State.leaveTorch (p : Port) (t' : Torch) (s : State) : State :=
  let t := s.torch p
  let s := s.setTorch p t'
  if t.state.lit then s.closeUp t.seq else s

/-- R61: the torch becomes IDLE, with job, I and S cleared. -/
def State.idleTorch (p : Port) (s : State) : State := s.leaveTorch p .idle

/-- R60, R61: the torch becomes DROPPED and keeps its job, I and S. -/
def State.dropTorch (p : Port) (s : State) : State :=
  s.leaveTorch p { s.torch p with state := .dropped, seq := 0, establish := none, wait := none }

/-- R72: the rectangle of the bed of a torch's job, by the current zone table. -/
def State.torchBed (s : State) (t : Torch) : Rect := (s.desc ((t.job.map (·.1)).getD 0)).rect

/-- R72: an admission; `own` is the port inside whose ARC-START the walk runs, which gets no GRANT. -/
def State.admitTorch (own : Option Port) (p : Port) (s : State) : State :=
  let t := s.torch p
  let n := s.litCount
  let s := s.unqueue p
  let s := s.setTorch p { t with state := .starting, seq := n + 1, establish := some s.params.establishLimit, wait := none }
  let s := match s.heldJob p with
    | some (b, j) => s.setJob b j.number fun j => { j with state := .starting }
    | none => s
  if own = some p then s else s.notifyJob p t fun b n => .grant b n t.surge

/-- R72: the entries from the head; the flag says whether the walk stopped on the budget. -/
def walkFrom (own : Option Port) : List Port → State → State × Bool
  | [], s => (s, false)
  | p :: rest, s =>
      let t := s.torch p
      if s.underCorridor (s.torchBed t) then walkFrom own rest s
      else if s.committed + t.surge ≤ s.feeder.capacity then walkFrom own rest (s.admitTorch own p)
      else (s, true)

/-- R72: a walk admits nothing while the sag flag, the stale flag or the latch is set. -/
def State.walk (own : Option Port) (s : State) : State × Bool :=
  if s.feeder.sag || s.feeder.stale || s.hallStop.isSome then (s, false) else walkFrom own s.startQueue s

def State.runWalk (s : State) : State := (s.walk none).1

/-- R64, R65: C is formed anew, and a walk is due if it rose. -/
def State.recompute (s : State) : State :=
  { s with feeder := { s.feeder with capacity := capacityOf s.params.rating s.params.reserve s.feeder.level } }

/-! ## Ports: keepalive, lapse and hall stop -/

/-- R147: the keepalive timer starts, with the marks of the T and W in force. -/
def State.startKeepalive (p : Port) (s : State) : State :=
  let q := s.portParams p
  s.setPort p { s.port p with timer := some ⟨0, q.period * (100 - q.window) / 100, q.period⟩ }

/-- R152, R52: a job a lapsed port holds becomes HELD, or is removed when its cancel is pending. -/
def State.lapseJob (p : Port) (s : State) : State :=
  match s.heldJob p with
  | some (b, j) => if j.state.lit then s.stopJob b j false else s.setJob b j.number (Job.toHeld j.drops)
  | none => s

/-- R80, R152: the torch and the job of a lapsed gantry port. -/
def State.lapseGantry (p : Port) (s : State) : State :=
  match (s.torch p).state with
  | .waiting => ((s.unqueue p).dropTorch p).lapseJob p
  | .starting | .burning => (s.dropTorch p).lapseJob p
  | .idle | .dropped => s.lapseJob p

/-- R80, R72: the lapse of port `p` takes an entry from the start queue or a load from Q, so it brings a walk. -/
def State.lapseWalks (s : State) (p : Port) : Bool :=
  decide (s.role p = .gantry) && (decide ((s.torch p).state = .waiting) || (s.torch p).state.lit)

/-- R81: a torch at the setting of the hall-stop latch. -/
def State.haltTorch (p : Port) (s : State) : State :=
  let t := s.torch p
  match t.state with
  | .starting | .burning => ((s.dropTorch p).stopHeld p true).notifyJob p t .halted
  | .waiting => ((s.unqueue p).idleTorch p).notifyJob p t .startTimeout
  | .idle | .dropped => s

/-- R154: the latch is set by the lapse of port `p`. Its full effects come when it was clear (log 12). -/
def State.setLatch (p : Port) (s : State) : State :=
  let was := s.hallStop
  let s := { s with hallStop := some p }
  let s := if was.isNone then allPorts.foldl (fun s q => s.haltTorch q) s else s
  s.raise .hallStopped 0

/-- R151: the four steps of a lapse, in order. -/
def State.lapseSteps (p : Port) (s : State) : State :=
  let r := s.port p
  let s := s.setPort p { r with state := .lapsed, timer := none, lapses := countUp Config.maxCount r.lapses }
  let s := if s.role p = .gantry then s.lapseGantry p else s
  let s := s.raise .portLapsed p.val
  if (s.portParams p).mode = .hallStop then s.setLatch p else s

/-- R151, R72: a lapse is one event, so the walk it brings runs once, at its end (log 10). -/
def State.lapse (p : Port) (s : State) : State :=
  if s.lapseWalks p then (s.lapseSteps p).runWalk else s.lapseSteps p

/-! ## Requests: admission, answer and arrival -/

/-- What an owning block answers: a status and the data of the reply. -/
structure Answer where
  status : Status
  data : ReplyData
deriving DecidableEq, Repr

/-- A refusal that carries no data. -/
def refuse (st : Status) : Answer := ⟨st, .nothing⟩

/-- An OK with its data. -/
def okWith (d : ReplyData) : Answer := ⟨.ok, d⟩

/-- An owner that refuses by an ordered table and otherwise acts. -/
def byCases (cases : Cases) (act : State → State × Answer) (s : State) : State × Answer :=
  match firstCase cases with
  | some st => (s, refuse st)
  | none => act s

/-- R145: the role test, then the online test. -/
def State.admission (s : State) (p : Port) (roles : List Role) (offline : Bool) : Option Status :=
  if !roles.contains (s.role p) then some .role
  else if !offline && decide ((s.port p).state ≠ .online) then some .offline
  else none

/-- R161, R162, R164: the reply is built with the port's notices-lost flag, which is cleared, and placed in the slot. -/
def Link.answer (tag : Byte) (a : Answer) (l : Link) : Link :=
  { l with slot := some ⟨tag, a.status, l.lost, a.data⟩, lost := false }

def State.reply (p : Port) (tag : Byte) (a : Answer) (s : State) : State := s.setLink p ((s.link p).answer tag a)

/-- R161: the taking of a request: the admission tests, the owning block, and the reply last. -/
def State.take (p : Port) (tag : Byte) (roles : List Role) (offline : Bool) (owner : State → State × Answer)
    (s : State) : State :=
  match s.admission p roles offline with
  | some st => s.reply p tag (refuse st)
  | none => (owner s).1.reply p tag (owner s).2

/-- The roles of section 9.6. -/
def planningOnly : List Role := [.planning]
def gantryOnly : List Role := [.gantry]
def craneOnly : List Role := [.crane]
def anyMaster : List Role := [.planning, .gantry, .crane]
def anyRole : List Role := [.planning, .gantry, .crane, .unused]

/-- R157: a discarded frame is counted. -/
def State.countFrameError (p : Port) (s : State) : State :=
  s.setPort p { s.port p with frameErrors := countUp Config.maxCount (s.port p).frameErrors }

/-- R161: a received frame is offered to the port's receive buffer. -/
def State.offerFrame (p : Port) (f : Frame) (s : State) : State :=
  if (s.link p).buffer.length < Config.maxFrames then
    s.setLink p { s.link p with buffer := (s.link p).buffer ++ [f] }
  else s.countFrameError p

/-- R161: the port may take a frame, its reply slot being empty, and no frame stands ahead of a new one. -/
def State.ready (s : State) (p : Port) : Bool := (s.link p).slot.isNone && (s.link p).buffer.isEmpty

/-- R163: an idle transmitter chooses its next frame. -/
def Link.choose (l : Link) : Link :=
  match l.sending with
  | .idle =>
      if l.slot.isSome && (l.notices.isEmpty || decide (l.lastSent = .notice)) then { l with sending := .reply }
      else if !l.notices.isEmpty then { l with sending := .notice }
      else l
  | _ => l

/-- R163: at the end of a step each transmitter that is idle chooses its next frame (log 6). -/
def State.settle (s : State) : State := { s with links := onEach Link.choose s.links }

/-- What a request command does (log 2): the frame that carries it arrives whole. It is taken in this step when
nothing stands ahead of it; otherwise it waits in the receive buffer, or is discarded. A held part takes no frame. -/
def request (i : Instr) (p : Port) (take : State → State) (s : State) : Host.Outcome State Fault Refusal :=
  .next (if s.held then s else State.settle (if s.ready p then take s else s.offerFrame p (frameOf i)))

/-- An event that a held part does not have (R176). -/
def event (act : State → State) (s : State) : Host.Outcome State Fault Refusal :=
  .next (if s.held then s else (act s).settle)

end Sys2Proof.Machine
end

