-- ==== Sys2Proof/Machine/Flags.lean ====
section
/-! DEFINITION. The output lines and the feeder's sag flag, each computed by its rule. -/

namespace Sys2Proof.Machine

open Sys2Proof

/-- R156, R176: the permit line of a port. P0 has none, and every line is low while a reset is held. -/
def State.permitLine (s : State) (p : Port) : Bool :=
  !s.held && decide (p ≠ 0) && decide ((s.port p).state = .online) && s.hallStop.isNone
    && match s.role p with
      | .gantry => (s.torch p).state.lit
      | .crane => (s.crane p).span.isSome
      | _ => false

/-- R140, R176: the ALERT output. -/
def State.alertLine (s : State) : Bool := !s.held && !s.alerts.isEmpty

/-- R70: the sag flag after a good reading. -/
def sagAfter (sag : Bool) (sagLevel level : Nat) : Bool :=
  if sag then decide (level < sagLevel + Config.sagHysteresis) else decide (level < sagLevel)

end Sys2Proof.Machine
end

