-- ==== Sys2Proof/Machine/Zones.lean ====
section
/-! DEFINITION. The zone table and the bed bindings (chapter 1): ZONE_READ, ZONE_SET, ZONE_CLEAR, ZONE_SERVICE,
ZONE_USED_CLEAR, BED_BIND, BED_UNBIND. For each request, `own…` is the owning block's act, `take…` the taking of
the request (R161), and `exec…` the command. -/

namespace Sys2Proof.Machine

open Sys2Proof

/-- R5: the two tests on a zone index that come first. -/
def zoneCases (z : Nat) : Cases := [(z = 0, .nullZone), (Config.lastZone < z, .range)]

/-- R39, R127: the tests on a zone index that must name a bed. -/
def bedCases (s : State) (b : Nat) : Cases :=
  zoneCases b ++ ([((s.desc b).kind ≠ .bed, .range)] : Cases)

/-- R10, R58: the port bound to a bed and the binding's state. -/
def State.boundTo (s : State) (z : Nat) : Option (Port × BindState) :=
  if (s.desc z).kind = .bed then (s.bindersOf z).head?.map fun p => (p, (s.binding p).state) else none

/-! ## ZONE_READ (R10) -/

def ownZoneRead (z : Nat) (s : State) : State × Answer :=
  byCases (zoneCases z) (fun s => (s, okWith (.zone ⟨z, s.desc z, (s.zone z).used, (s.desc z).rect, s.restingCount z,
    s.boundTo z, s.targeted z⟩))) s

def takeZoneRead (p : Port) (tag : Byte) (z : Nat) (s : State) : State := s.take p tag anyRole false (ownZoneRead z)

def execZoneRead (p : Port) (tag : Byte) (z : Nat) (s : State) : Host.Outcome State Fault Refusal :=
  request (.zoneRead p tag z) p (takeZoneRead p tag z) s

/-! ## ZONE_SET (R11, R12) -/

/-- The descriptor a ZONE-SET writes: an empty entry comes into service, another keeps its flag (R12). -/
def writtenDesc (w : ZoneWrite) (old : ZoneDesc) : ZoneDesc :=
  ⟨w.kind.getD .none, w.originX, w.originY, w.extX, w.extY, w.coarse, w.capacity, w.bind, w.lift, w.place, w.pass,
    if old.kind = .none then true else old.inService⟩

/-- R11: the number of BED entries. -/
def State.bedCount (s : State) : Nat := (s.zones.toList.filter fun e => decide (e.desc.kind = .bed)).length

/-- R11 case 5: capacity and rights against the kind. -/
def badRights (w : ZoneWrite) : Bool :=
  decide (Config.maxCapacity < w.capacity)
    || (decide (w.kind = some .keepout) && (decide (w.capacity ≠ 0) || w.bind || w.lift || w.place || w.pass))
    || (decide (w.kind ≠ some .bed) && w.bind)

/-- R11 case 4: origin, extents and the hall. -/
def badPlace (w : ZoneWrite) : Bool :=
  decide (Config.hallX ≤ w.originX) || decide (Config.hallY ≤ w.originY) || decide (w.extX = 0) || decide (w.extY = 0)
    || decide (65535 < w.extX) || decide (65535 < w.extY) || !(writtenDesc w .empty).rect.within hallRect

/-- R11 case 8: what keeps a zone from changing its kind. -/
def State.zoneInUse (s : State) (z : Nat) : Bool :=
  decide (s.restingCount z ≠ 0) || !(s.table z).jobs.isEmpty || s.targeted z || !(s.bindersOf z).isEmpty
    || !(s.log z).records.isEmpty

/-- R11 case 9: a record resting in the zone does not fit the new extents. -/
def State.someMisfit (s : State) (z : Nat) (d : ZoneDesc) : Bool :=
  (s.restingIn z).any fun r => r.zoneFootprint.any fun f => !f.within d.frame

def zoneSetCases (w : ZoneWrite) (s : State) : Cases :=
  zoneCases w.zone ++
  ([(w.kind.getD .none = .none, .range),
   (badPlace w, .range),
   (badRights w, .range),
   ((s.desc w.zone).kind ≠ .bed ∧ w.kind = some .bed ∧ Config.maxBeds ≤ s.bedCount, .full),
   ((s.desc w.zone).kind = .bed ∧ s.isHot w.zone, .hot),
   ((s.desc w.zone).kind ≠ w.kind.getD .none ∧ s.zoneInUse w.zone, .occupied),
   (s.someMisfit w.zone (writtenDesc w .empty), .fit),
   (w.capacity < s.restingCount w.zone, .occupied)] : Cases)

/-- R19: a BOUND binding of the zone becomes STALE and BED_STALE goes to its port. -/
def State.staleBinding (z : Nat) (p : Port) (s : State) : State :=
  let b := s.binding p
  if b.state = .bound ∧ b.zone = z then (s.setBinding p { b with state := .stale }).notify p (.bedStale z) else s

/-- R12, R14: every BOUND binding of the zone becomes STALE. -/
def State.staleBindings (z : Nat) (s : State) : State := allPorts.foldl (fun s p => s.staleBinding z p) s

/-- R39, R127: a table and a log come into being, or cease, when the entry starts or stops being BED. -/
def State.remakeBed (z : Nat) (old new : ZoneKind) (s : State) : State :=
  if decide (old = .bed) = decide (new = .bed) then s else (s.setTable z .fresh).setLog z .fresh

def ownZoneSet (w : ZoneWrite) (s : State) : State × Answer :=
  byCases (zoneSetCases w s) (fun s =>
    let old := s.desc w.zone
    let new := writtenDesc w old
    let used := if old.kind = .none then false else (s.zone w.zone).used
    let s := ((s.setZone w.zone ⟨new, used⟩).remakeBed w.zone old.kind new.kind).staleBindings w.zone
    (s, okWith (.rect new.rect))) s

def takeZoneSet (p : Port) (tag : Byte) (w : ZoneWrite) (s : State) : State :=
  s.take p tag planningOnly false (ownZoneSet w)

def execZoneSet (p : Port) (tag : Byte) (w : ZoneWrite) (s : State) : Host.Outcome State Fault Refusal :=
  request (.zoneSet p tag w) p (takeZoneSet p tag w) s

/-! ## ZONE_CLEAR (R13) -/

def zoneClearCases (z : Nat) (s : State) : Cases :=
  zoneCases z ++
  ([(s.restingCount z ≠ 0, .occupied),
   (!(s.bindersOf z).isEmpty, .occupied),
   (s.targeted z, .occupied),
   (!(s.table z).jobs.isEmpty, .occupied),
   (!(s.log z).records.isEmpty, .occupied)] : Cases)

def ownZoneClear (z : Nat) (s : State) : State × Answer :=
  byCases (zoneClearCases z s) (fun s =>
    let old := (s.desc z).kind
    ((s.setZone z .empty).remakeBed z old .none, okWith .nothing)) s

def takeZoneClear (p : Port) (tag : Byte) (z : Nat) (s : State) : State :=
  s.take p tag planningOnly false (ownZoneClear z)

def execZoneClear (p : Port) (tag : Byte) (z : Nat) (s : State) : Host.Outcome State Fault Refusal :=
  request (.zoneClear p tag z) p (takeZoneClear p tag z) s

/-! ## ZONE_SERVICE (R14) -/

/-- R14, R15: the entry must be filled. -/
def filledCases (z : Nat) (s : State) : Cases :=
  zoneCases z ++ ([((s.desc z).kind = .none, .range)] : Cases)

def ownZoneService (z : Nat) (f : Bool) (s : State) : State × Answer :=
  byCases (filledCases z s) (fun s =>
    let d := s.desc z
    let s' := s.setZone z { s.zone z with desc := { d with inService := f } }
    (if d.inService && !f then s'.staleBindings z else s', okWith .nothing)) s

def takeZoneService (p : Port) (tag : Byte) (z : Nat) (f : Bool) (s : State) : State :=
  s.take p tag planningOnly false (ownZoneService z f)

def execZoneService (p : Port) (tag : Byte) (z : Nat) (f : Bool) (s : State) : Host.Outcome State Fault Refusal :=
  request (.zoneService p tag z f) p (takeZoneService p tag z f) s

/-! ## ZONE_USED_CLEAR (R15) -/

def ownZoneUsedClear (z : Nat) (s : State) : State × Answer :=
  byCases (filledCases z s) (fun s => (s.setUsed z false, okWith .nothing)) s

def takeZoneUsedClear (p : Port) (tag : Byte) (z : Nat) (s : State) : State :=
  s.take p tag planningOnly false (ownZoneUsedClear z)

def execZoneUsedClear (p : Port) (tag : Byte) (z : Nat) (s : State) : Host.Outcome State Fault Refusal :=
  request (.zoneUsedClear p tag z) p (takeZoneUsedClear p tag z) s

/-! ## BED_BIND (R17) -/

def bedBindCases (p : Port) (z : Nat) (s : State) : Cases :=
  bedCases s z ++
  ([(!(s.desc z).inService, .absent),
   (!(s.desc z).bind, .rights),
   ((s.bindersOf z).any (fun q => decide (q ≠ p)), .takenElsewhere),
   ((s.heldJob p).isSome ∧ (s.binding p).zone ≠ z, .busy)] : Cases)

def ownBedBind (p : Port) (z : Nat) (s : State) : State × Answer :=
  byCases (bedBindCases p z s) (fun s =>
    ((s.setBinding p ⟨.bound, z, some (s.desc z)⟩).setUsed z true, okWith (.snapshot z (s.desc z)))) s

def takeBedBind (p : Port) (tag : Byte) (z : Nat) (s : State) : State := s.take p tag gantryOnly false (ownBedBind p z)

def execBedBind (p : Port) (tag : Byte) (z : Nat) (s : State) : Host.Outcome State Fault Refusal :=
  request (.bedBind p tag z) p (takeBedBind p tag z) s

/-! ## BED_UNBIND (R18) -/

def ownBedUnbind (p : Port) (s : State) : State × Answer :=
  byCases [((s.binding p).state = .none, .unbound), ((s.heldJob p).isSome, .busy)]
    (fun s => (s.setBinding p .unbound, okWith .nothing)) s

def takeBedUnbind (p : Port) (tag : Byte) (s : State) : State := s.take p tag gantryOnly false (ownBedUnbind p)

def execBedUnbind (p : Port) (tag : Byte) (s : State) : Host.Outcome State Fault Refusal :=
  request (.bedUnbind p tag) p (takeBedUnbind p tag) s

end Sys2Proof.Machine
end

