-- ==== Sys2Proof/Machine/Plates.lean ====
section
/-! DEFINITION. The plate register (chapter 2): PLATE_REGISTER, PLATE_REGISTER_ON_HOOK, PLATE_PARTS_REPLACE,
PLATE_PARTS_APPEND, PLATE_FINISH, PLATE_DROP, PLATE_READ, and the placement test every placement shares (R27). -/

namespace Sys2Proof.Machine

open Sys2Proof

/-! ## The placement test (R27) -/

/-- R3: the record's hall footprint at a place in zone `z`. -/
def State.footprintAt (s : State) (r : Plate) (z offX offY : Nat) (turn : Turn) : Rect :=
  (footprint r.length r.width offX offY turn).moved (s.desc z).originX (s.desc z).originY

/-- R27 steps 1 to 3. -/
def placementCases (s : State) (r : Plate) (z offX offY : Nat) (turn : Turn) : Cases :=
  [(!(s.desc z).inService, .absent),
   ((s.desc z).kind = .keepout ∨ (s.desc z).capacity ≤ s.restingCount z, .full),
   (!(footprint r.length r.width offX offY turn).within (s.desc z).frame, .fit)]

/-- R27 step 4: an overlap with a record resting in the zone, other than a pair R28 exempts. -/
def State.overlaps (s : State) (r : Plate) (z offX offY : Nat) (turn : Turn) : Bool :=
  (s.restingIn z).any fun q =>
    !exemptPair r q && (s.hallFootprint q).any fun f => f.intersects (s.footprintAt r z offX offY turn)

/-! ## PLATE_REGISTER (R29) -/

/-- R29 step 4: the fields outside their values. -/
def badFields (w : PlateWrite) : Bool :=
  decide (63 < w.grade) || decide (w.thickness < 3) || decide (150 < w.thickness) || decide (w.length < 100)
    || decide (24000 < w.length) || decide (w.width < 100) || decide (4500 < w.width) || w.form.isNone || w.turn.isNone
    || match w.kind with
      | none => true
      | some .plate => decide (w.parent ≠ 0) || w.claim
      | some .remnant => decide (w.parent = 0) || decide (w.parent = w.id) || decide (Config.maxId < w.parent)

/-- R29 steps 1 to 5. -/
def registerCases (w : PlateWrite) (s : State) : Cases :=
  [(w.id = 0 ∨ Config.maxId < w.id, .range),
   ((s.record w.id).isSome, .duplicate),
   (Config.maxRecords ≤ s.records.length, .full),
   (badFields w, .range),
   (Config.maxParts < w.parts.length, .full),
   (!listTest (w.form.getD .whole) w.length w.width [] w.parts, .range)]

/-- The record a registration creates. -/
def writtenPlate (w : PlateWrite) (loc : Location) : Plate :=
  ⟨w.id, w.kind.getD .plate, w.grade, w.thickness, w.length, w.width, loc, w.form.getD .whole,
    if w.parent = 0 then none else some w.parent, w.claim, w.parts.map partOf, none⟩

/-- R29 steps 9 to 11: the in-parent claim. -/
def claimCases (w : PlateWrite) (r : Plate) (z offX offY : Nat) (turn : Turn) (s : State) : Cases :=
  [(w.claim && (s.record w.parent).isNone, .unknownId),
   (w.claim && (s.record w.parent).any (fun q => decide (q.form ≠ .skeleton) || !q.restsIn z), .state),
   (w.claim && (s.record w.parent).any (fun q =>
      !(s.hallFootprint q).any fun f => (s.footprintAt r z offX offY turn).within f), .fit)]

def plateRegisterCases (w : PlateWrite) (z offX offY : Nat) (s : State) : Cases :=
  let t := w.turn.getD .deg0
  let r := writtenPlate w (.resting z offX offY t)
  registerCases w s ++ zoneCases z ++ placementCases s r z offX offY t ++ claimCases w r z offX offY t s
    ++ ([(s.overlaps r z offX offY t, .overlap)] : Cases)

def ownPlateRegister (w : PlateWrite) (z offX offY : Nat) (s : State) : State × Answer :=
  byCases (plateRegisterCases w z offX offY s) (fun s =>
    let t := w.turn.getD .deg0
    let r := writtenPlate w (.resting z offX offY t)
    ((s.addRecord r).setUsed z true, okWith (.rect (s.footprintAt r z offX offY t)))) s

def takePlateRegister (p : Port) (tag : Byte) (w : PlateWrite) (z offX offY : Nat) (s : State) : State :=
  s.take p tag planningOnly false (ownPlateRegister w z offX offY)

def execPlateRegister (p : Port) (tag : Byte) (w : PlateWrite) (z offX offY : Nat) (s : State) :
    Host.Outcome State Fault Refusal :=
  request (.plateRegister p tag w z offX offY) p (takePlateRegister p tag w z offX offY) s

/-! ## PLATE_REGISTER_ON_HOOK (R30) -/

/-- R143: the CRANE port with a number, P1 to P5. -/
def State.cranePort (s : State) (n : Nat) : Option Port :=
  (portOf n).filter fun q => decide (q ≠ 0) && decide (s.role q = .crane)

/-- R92, R30: a corridor intersects the rectangle of a hot bed. -/
def State.overHotBed (s : State) (c : Rect) : Bool :=
  (List.range 48).any fun z => s.isHot z && c.intersects (s.desc z).rect

def plateRegisterOnHookCases (w : PlateWrite) (n : Nat) (s : State) : Cases :=
  let c := (s.cranePort n).map s.crane
  [(w.id = 0 ∨ Config.maxId < w.id, .range),
   ((s.record w.id).isSome, .duplicate),
   (Config.maxRecords ≤ s.records.length, .full),
   (badFields w || w.claim, .range),
   (Config.maxParts < w.parts.length, .full),
   (!listTest (w.form.getD .whole) w.length w.width [] w.parts, .range),
   (c.isNone, .range),
   (c.any (·.hook.isSome), .busy),
   (c.any (·.span.isNone), .span),
   (c.any (fun c => c.span.any fun sp => s.overHotBed (spanRect sp)), .hot)]

def ownPlateRegisterOnHook (w : PlateWrite) (n : Nat) (s : State) : State × Answer :=
  byCases (plateRegisterOnHookCases w n s) (fun s =>
    match s.cranePort n with
    | none => (s, refuse .range)
    | some q =>
        let r := spanRect ((s.crane q).span.getD (0, 0))
        ((s.addRecord (writtenPlate w (.onHook q))).setCrane q
          { s.crane q with hook := some w.id, corridor := some r, target := 0, targets := [], origin := .nowhere },
         okWith (.rect r))) s

def takePlateRegisterOnHook (p : Port) (tag : Byte) (w : PlateWrite) (n : Nat) (s : State) : State :=
  s.take p tag planningOnly false (ownPlateRegisterOnHook w n)

def execPlateRegisterOnHook (p : Port) (tag : Byte) (w : PlateWrite) (n : Nat) (s : State) :
    Host.Outcome State Fault Refusal :=
  request (.plateRegisterOnHook p tag w n) p (takePlateRegisterOnHook p tag w n) s

/-! ## PLATE_PARTS_REPLACE (R31) and PLATE_PARTS_APPEND (R32) -/

def partsReplaceCases (id : Nat) (l : List PartWrite) (s : State) : Cases :=
  [((s.record id).isNone, .unknownId),
   (s.refs id ≠ 0, .locked),
   ((s.record id).any (fun r => decide (r.form ≠ .whole)), .state),
   ((s.record id).any (fun r => !listTest r.form r.length r.width [] l), .range)]

def ownPlatePartsReplace (id : Nat) (l : List PartWrite) (s : State) : State × Answer :=
  byCases (partsReplaceCases id l s) (fun s =>
    (s.setRecord id fun r => { r with parts := l.map partOf, hold := none }, okWith (.parts l.length))) s

def takePlatePartsReplace (p : Port) (tag : Byte) (id : Nat) (l : List PartWrite) (s : State) : State :=
  s.take p tag planningOnly false (ownPlatePartsReplace id l)

def execPlatePartsReplace (p : Port) (tag : Byte) (id : Nat) (l : List PartWrite) (s : State) :
    Host.Outcome State Fault Refusal :=
  request (.platePartsReplace p tag id l) p (takePlatePartsReplace p tag id l) s

def partsAppendCases (id : Nat) (l : List PartWrite) (s : State) : Cases :=
  [((s.record id).isNone, .unknownId),
   (s.refs id ≠ 0, .locked),
   ((s.record id).any (fun r => decide (r.form = .skeleton)), .state),
   (l.isEmpty, .range),
   ((s.record id).any (fun r => decide (Config.maxParts < r.parts.length + l.length)), .full),
   ((s.record id).any (fun r => !listTest r.form r.length r.width (r.parts.map (·.number)) l), .range)]

def ownPlatePartsAppend (id : Nat) (l : List PartWrite) (s : State) : State × Answer :=
  byCases (partsAppendCases id l s) (fun s =>
    let count := ((s.record id).map (·.parts.length)).getD 0 + l.length
    (s.setRecord id fun r => { r with parts := r.parts ++ l.map partOf, hold := none },
     okWith (.parts count))) s

def takePlatePartsAppend (p : Port) (tag : Byte) (id : Nat) (l : List PartWrite) (s : State) : State :=
  s.take p tag planningOnly false (ownPlatePartsAppend id l)

def execPlatePartsAppend (p : Port) (tag : Byte) (id : Nat) (l : List PartWrite) (s : State) :
    Host.Outcome State Fault Refusal :=
  request (.platePartsAppend p tag id l) p (takePlatePartsAppend p tag id l) s

/-! ## PLATE_FINISH (R33) -/

def plateFinishCases (id : Nat) (s : State) : Cases :=
  [((s.record id).isNone, .unknownId),
   ((s.record id).any (fun r => decide (r.form = .skeleton)), .state),
   (s.refs id ≠ 0, .locked),
   ((s.record id).any (·.hold.isSome), .reserved)]

def ownPlateFinish (id : Nat) (s : State) : State × Answer :=
  byCases (plateFinishCases id s) (fun s =>
    (s.setRecord id fun r => { r with form := .skeleton }, okWith .nothing)) s

def takePlateFinish (p : Port) (tag : Byte) (id : Nat) (s : State) : State :=
  s.take p tag planningOnly false (ownPlateFinish id)

def execPlateFinish (p : Port) (tag : Byte) (id : Nat) (s : State) : Host.Outcome State Fault Refusal :=
  request (.plateFinish p tag id) p (takePlateFinish p tag id) s

/-! ## PLATE_DROP (R34, R35) -/

def plateDropCases (id : Nat) (s : State) : Cases :=
  [((s.record id).isNone, .unknownId),
   (s.refs id ≠ 0, .locked),
   ((s.record id).any (fun r => !r.isResting), .state),
   ((s.record id).any (·.hold.isSome), .reserved)]

def ownPlateDrop (id : Nat) (s : State) : State × Answer :=
  byCases (plateDropCases id s) (fun s => (s.deleteRecord id, okWith .nothing)) s

def takePlateDrop (p : Port) (tag : Byte) (id : Nat) (s : State) : State :=
  s.take p tag planningOnly false (ownPlateDrop id)

def execPlateDrop (p : Port) (tag : Byte) (id : Nat) (s : State) : Host.Outcome State Fault Refusal :=
  request (.plateDrop p tag id) p (takePlateDrop p tag id) s

/-! ## PLATE_READ (R37) -/

/-- R37: the record with the smallest id above the one given. -/
def State.nextRecord (s : State) (id : Nat) : Option Plate :=
  (s.records.filter fun r => decide (id < r.id)).foldl (fun best r =>
    match best with
    | none => some r
    | some b => if r.id < b.id then some r else some b) none

def State.plateReport (s : State) (r : Plate) (first : Nat) : PlateReport :=
  ⟨{ r with parts := [], hold := none }, s.hallFootprint r, r.parts.length, s.refs r.id, r.isMember,
    r.hold.map Reservation.secondsLeft, s.records.length, (r.parts.drop first).take Config.maxPartsSent⟩

def ownPlateRead (id first : Nat) (next : Bool) (s : State) : State × Answer :=
  (s, match if next then s.nextRecord id else s.record id with
    | none => if next then ⟨.none, .fill s.records.length⟩ else refuse .unknownId
    | some r => if r.parts.length < first then refuse .range else okWith (.plate (s.plateReport r first)))

def takePlateRead (p : Port) (tag : Byte) (id first : Nat) (next : Bool) (s : State) : State :=
  s.take p tag anyRole true (ownPlateRead id first next)

def execPlateRead (p : Port) (tag : Byte) (id first : Nat) (next : Bool) (s : State) :
    Host.Outcome State Fault Refusal :=
  request (.plateRead p tag id first next) p (takePlateRead p tag id first next) s

end Sys2Proof.Machine
end

