-- ==== Sys2Proof/Machine/Jobs.lean ====
section
/-! DEFINITION. The bed job tables (chapter 3): JOB_ADD, JOB_TAKE, JOB_RETURN, JOB_CANCEL, JOB_RESUME, JOB_LIST and
OVERDUE_TIMER_EXPIRY. -/

namespace Sys2Proof.Machine

open Sys2Proof

/-! ## JOB_ADD (R44, R45) -/

/-- R44 case 3. -/
def badJob (w : JobWrite) : Bool :=
  decide (w.number = 0) || decide (65535 < w.number) || decide (255 < w.priority)
    || w.parts.any (fun n => decide (n = 0) || decide (65535 < n)) || !decide w.parts.Nodup || decide (8 < w.parts.length)
    || match w.kind with
      | none => true
      | some .mark => w.parts.isEmpty
      | some .cut => false

/-- R44 case 4. -/
def badCurrent (w : JobWrite) : Bool :=
  match w.kind with
  | some .mark => decide (w.current < 10) || decide (60 < w.current)
  | some .cut => decide (w.current < 30) || decide (400 < w.current)
  | none => false

/-- The parts of a record that a list of numbers names. -/
def Plate.named (r : Plate) (l : List Nat) : List Part := r.parts.filter fun q => l.contains q.number

def jobAddCases (w : JobWrite) (s : State) : Cases :=
  let r := s.record w.plate
  bedCases s w.bed ++
  ([(badJob w, .range),
    (badCurrent w, .range),
    (Config.maxJobs ≤ (s.table w.bed).jobs.length ∨ (s.table w.bed).counter = Config.maxArrival, .full),
    ((s.job w.bed w.number).isSome, .duplicate),
    (r.isNone, .unknownId),
    (r.any (fun r => w.parts.any fun n => !(r.parts.map (·.number)).contains n), .unknownId),
    (r.any (fun r => (r.named w.parts).any fun q => decide (q.status = .separated)), .order),
    (w.kind = some .mark ∧ r.any (fun r => (r.named w.parts).any fun q => decide (q.status = .marked)), .order),
    (s.allJobs.any (fun bj => decide (some bj.2.kind = w.kind) && decide (bj.2.plate = w.plate)
        && w.parts.any fun n => bj.2.parts.contains n), .duplicate)] : Cases)

/-- R45: the job a JOB-ADD enters. -/
def writtenJob (w : JobWrite) (arrival : Nat) : Job :=
  ⟨w.number, w.kind.getD .cut, w.plate, w.parts, w.current, w.priority, min w.limit Config.maxTimeLimit, arrival, .queued,
    none, false, false, 0, none⟩

/-- The place of a job in take order, counted from 0. -/
def State.position (s : State) (b n : Nat) : Nat :=
  (takeOrder (s.table b).jobs).findIdx fun j => decide (j.number = n)

def ownJobAdd (w : JobWrite) (s : State) : State × Answer :=
  byCases (jobAddCases w s) (fun s =>
    let t := s.table w.bed
    let j := writtenJob w t.counter
    let s := s.setTable w.bed ⟨t.jobs ++ [j], t.counter + 1⟩
    (s, ⟨if Config.maxTimeLimit < w.limit then .clamped else .ok,
      .added j.arrival (s.position w.bed w.number) (if Config.maxTimeLimit < w.limit then some j.limit else none)⟩)) s

def takeJobAdd (p : Port) (tag : Byte) (w : JobWrite) (s : State) : State :=
  s.take p tag planningOnly false (ownJobAdd w)

def execJobAdd (p : Port) (tag : Byte) (w : JobWrite) (s : State) : Host.Outcome State Fault Refusal :=
  request (.jobAdd p tag w) p (takeJobAdd p tag w) s

/-! ## JOB_TAKE (R46, R47) -/

def jobTakeCases (p : Port) (s : State) : Cases :=
  [((s.binding p).state = .none, .unbound),
   ((s.binding p).state = .stale, .stale),
   ((s.heldJob p).isSome, .busy),
   (s.hallStop.isSome, .halt)]

/-- R46: a QUEUED job of bed `b` is eligible. -/
def State.eligible (s : State) (b : Nat) (j : Job) : Bool :=
  (s.record j.plate).any fun r =>
    r.restsIn b && (decide (j.kind = .mark)
      || (r.named j.parts).all fun q => !q.markRequired || decide (q.status = .marked))

/-- R47: the job as it is taken. -/
def Job.taken (p : Port) (j : Job) : Job :=
  { j with state := .taken, taker := some p, timer := if j.limit = 0 then none else some (j.limit * 1000) }

/-- R42, R46: the QUEUED jobs of a table in take order. -/
def State.queuedJobs (s : State) (b : Nat) : List Job :=
  takeOrder ((s.table b).jobs.filter fun j => decide (j.state = .queued))

/-- R47: the reply of a take: the job, its plate's place, the jobs skipped. -/
def State.takeReport (s : State) (b : Nat) (j : Job) : TakeReport :=
  let skipped := ((s.queuedJobs b).takeWhile fun k => !s.eligible b k).length
  let place (ox oy : Nat) (t : Turn) : TakeReport :=
    ⟨b, j.number, j.kind, j.plate, j.parts, j.current, j.priority, j.limit, j.drops, j.overdue, ox, oy, t, skipped⟩
  match (s.record j.plate).map Plate.location with
  | some (.resting _ ox oy t) => place ox oy t
  | _ => place 0 0 .deg0

def ownJobTake (p : Port) (s : State) : State × Answer :=
  byCases (jobTakeCases p s) (fun s =>
    let b := (s.binding p).zone
    match (s.queuedJobs b).find? (s.eligible b) with
    | none => (s, ⟨.none, .skipped (s.queuedJobs b).length⟩)
    | some j => (s.setJob b j.number (Job.taken p), okWith (.taken (s.takeReport b j)))) s

def takeJobTake (p : Port) (tag : Byte) (s : State) : State := s.take p tag gantryOnly false (ownJobTake p)

def execJobTake (p : Port) (tag : Byte) (s : State) : Host.Outcome State Fault Refusal :=
  request (.jobTake p tag) p (takeJobTake p tag) s

/-! ## JOB_RETURN (R48) -/

def jobReturnCases (p : Port) (n : Nat) (s : State) : Cases :=
  [(!(s.heldJob p).any (fun bj => decide (bj.2.number = n)), .state),
   ((s.heldJob p).any (fun bj => bj.2.state.lit), .state),
   ((s.torch p).state = .waiting, .busy)]

/-- R48: the job as it goes back to the queue. -/
def Job.requeued (j : Job) : Job := { j with state := .queued, taker := none, timer := none }

def ownJobReturn (p : Port) (n : Nat) (s : State) : State × Answer :=
  byCases (jobReturnCases p n s) (fun s =>
    match s.heldJob p with
    | none => (s, refuse .state)
    | some (b, j) => (s.setJob b j.number Job.requeued, okWith .nothing)) s

def takeJobReturn (p : Port) (tag : Byte) (n : Nat) (s : State) : State := s.take p tag gantryOnly false (ownJobReturn p n)

def execJobReturn (p : Port) (tag : Byte) (n : Nat) (s : State) : Host.Outcome State Fault Refusal :=
  request (.jobReturn p tag n) p (takeJobReturn p tag n) s

/-! ## JOB_CANCEL (R53) -/

/-- R53: a TAKEN job is withdrawn from port `q`; a start that waits leaves the queue, and a walk runs. -/
def State.withdraw (b : Nat) (j : Job) (q : Port) (s : State) : State :=
  let waits := decide ((s.torch q).state = .waiting)
  let s := s.removeJob b j .cancelled
  let s := if waits then (s.unqueue q).idleTorch q else s
  let s := s.notify q (.jobWithdrawn b j.number)
  if waits then s.runWalk else s

def ownJobCancel (b n : Nat) (s : State) : State × Answer :=
  byCases (bedCases s b) (fun s =>
    match s.job b n with
    | none => (s, refuse .unknownId)
    | some j =>
        match j.state with
        | .queued | .held => (s.removeJob b j .cancelled, okWith .nothing)
        | .taken =>
            (match j.taker with
              | some q => s.withdraw b j q
              | none => s.removeJob b j .cancelled, okWith .nothing)
        | .starting | .burning => (s.setJob b n fun j => { j with cancelPending := true }, ⟨.pending, .nothing⟩)) s

def takeJobCancel (p : Port) (tag : Byte) (b n : Nat) (s : State) : State :=
  s.take p tag planningOnly false (ownJobCancel b n)

def execJobCancel (p : Port) (tag : Byte) (b n : Nat) (s : State) : Host.Outcome State Fault Refusal :=
  request (.jobCancel p tag b n) p (takeJobCancel p tag b n) s

/-! ## JOB_RESUME (R55) -/

def jobResumeCases (b n : Nat) (s : State) : Cases :=
  bedCases s b ++
  ([((s.job b n).isNone, .unknownId), ((s.job b n).any (fun j => decide (j.state ≠ .held)), .state)] : Cases)

def ownJobResume (b n : Nat) (s : State) : State × Answer :=
  byCases (jobResumeCases b n s) (fun s =>
    let s := s.setJob b n Job.requeued
    (s, okWith (.position (s.position b n)))) s

def takeJobResume (p : Port) (tag : Byte) (b n : Nat) (s : State) : State :=
  s.take p tag planningOnly false (ownJobResume b n)

def execJobResume (p : Port) (tag : Byte) (b n : Nat) (s : State) : Host.Outcome State Fault Refusal :=
  request (.jobResume p tag b n) p (takeJobResume p tag b n) s

/-! ## JOB_LIST (R58) -/

def State.countJobs (s : State) (b : Nat) (st : JobState) : Nat :=
  ((s.table b).jobs.filter fun j => decide (j.state = st)).length

def ownJobList (b first : Nat) (s : State) : State × Answer :=
  byCases (bedCases s b ++ ([((s.table b).jobs.length < first, .range)] : Cases)) (fun s =>
    (s, okWith (.jobs ⟨(s.table b).jobs.length, s.countJobs b .queued, s.countJobs b .taken, s.countJobs b .starting,
      s.countJobs b .burning, s.countJobs b .held, (s.table b).counter, s.boundTo b,
      ((takeOrder (s.table b).jobs).drop first).take 4⟩))) s

def takeJobList (p : Port) (tag : Byte) (b first : Nat) (s : State) : State := s.take p tag anyRole false (ownJobList b first)

def execJobList (p : Port) (tag : Byte) (b first : Nat) (s : State) : Host.Outcome State Fault Refusal :=
  request (.jobList p tag b first) p (takeJobList p tag b first) s

/-! ## OVERDUE_TIMER_EXPIRY (R56) -/

/-- R56: the flag is set and JOB_OVERDUE is raised, where the overdue timer has run out (log 4). -/
def overdueExpiry (b n : Nat) (s : State) : State :=
  if (s.job b n).any (fun j => runOut j.timer) then
    (s.setJob b n fun j => { j with overdue := true, timer := none }).raise .jobOverdue b
  else s

def execOverdueTimerExpiry (b n : Nat) (s : State) : Host.Outcome State Fault Refusal := event (overdueExpiry b n) s

end Sys2Proof.Machine
end

