-- ==== Sys2Proof/Machine/Arcs.lean ====
section
/-! DEFINITION. Arc admission and the feeder (chapter 4): ARC_START, ARC_ESTABLISHED, ARC_OFF, BUDGET_READ,
FEEDER_READING, STALENESS_TIMER_EXPIRY, ESTABLISH_TIMER_EXPIRY and WAIT_TIMER_EXPIRY. -/

namespace Sys2Proof.Machine

open Sys2Proof

/-! ## ARC_START (R73) -/

def arcStartCases (p : Port) (n : Nat) (s : State) : Cases :=
  [(!(s.heldJob p).any (fun bj => decide (bj.2.state = .taken) && decide (bj.2.number = n)), .state),
   ((s.binding p).state = .stale, .stale),
   ((s.torch p).state ≠ .idle, .busy),
   (s.hallStop.isSome, .halt)]

/-- R73: the torch as it starts to wait. -/
def Torch.forJob (b : Nat) (j : Job) (waitLimit : Nat) : Torch :=
  ⟨.waiting, some (b, j.number), j.current, surgeOf j.current, 0, none, some (waitLimit * 1000)⟩

/-- R73: why the entry was not admitted; `stopped` says whether the walk stopped on the budget. -/
def State.queueReason (s : State) (stopped : Bool) : QueueReason :=
  if s.feeder.stale then .staleFeeder
  else if s.feeder.sag then .sag
  else if stopped then .budget
  else .corridor

/-- R73: the reply by the outcome of the walk. -/
def State.startAnswer (s : State) (p : Port) (stopped : Bool) : Answer :=
  if (s.torch p).state = .starting then ⟨.granted, .granted (s.torch p).seq⟩
  else ⟨.queued, .queued (s.queueReason stopped) (s.startQueue.idxOf p) s.committed s.feeder.capacity⟩

def ownArcStart (p : Port) (n : Nat) (s : State) : State × Answer :=
  byCases (arcStartCases p n s) (fun s =>
    match s.heldJob p with
    | none => (s, refuse .state)
    | some (b, j) =>
        let s := s.setTorch p (.forJob b j s.params.waitLimit)
        let w := { s with startQueue := s.startQueue ++ [p] }.walk (some p)
        (w.1, w.1.startAnswer p w.2)) s

def takeArcStart (p : Port) (tag : Byte) (n : Nat) (s : State) : State := s.take p tag gantryOnly false (ownArcStart p n)

def execArcStart (p : Port) (tag : Byte) (n : Nat) (s : State) : Host.Outcome State Fault Refusal :=
  request (.arcStart p tag n) p (takeArcStart p tag n) s

/-! ## ARC_ESTABLISHED (R75) -/

/-- R49, R75: the torch burns at its set current and its job burns. -/
def State.establish (p : Port) (s : State) : State :=
  let s := s.setTorch p { s.torch p with state := .burning, establish := none }
  match s.heldJob p with
  | some (b, j) => if j.state = .starting then s.setJob b j.number fun j => { j with state := .burning } else s
  | none => s

def ownArcEstablished (p : Port) (s : State) : State × Answer :=
  match (s.torch p).state with
  | .starting => ((s.establish p).runWalk, okWith .nothing)
  | .dropped => (s, ⟨.late, .nothing⟩)
  | .idle | .waiting | .burning => (s, refuse .state)

def takeArcEstablished (p : Port) (tag : Byte) (s : State) : State := s.take p tag gantryOnly false (ownArcEstablished p)

def execArcEstablished (p : Port) (tag : Byte) (s : State) : Host.Outcome State Fault Refusal :=
  request (.arcEstablished p tag) p (takeArcEstablished p tag) s

/-! ## ARC_OFF (R76) -/

/-- R50, R51: the end of a lit arc's job. -/
def State.endJob (p : Port) (o : ArcOutcome) (s : State) : State :=
  match s.heldJob p with
  | some (b, j) =>
      if j.state.lit then
        match o with
        | .complete => s.finishJob b j
        | .interrupted => s.stopJob b j false
      else s
  | none => s

/-- R50: the outcome that a COMPLETE records, which its reply carries. -/
def State.recorded (s : State) (p : Port) (o : ArcOutcome) : Option Completion :=
  match o, s.heldJob p with
  | .complete, some (_, j) => if j.state.lit then some j.finished else none
  | _, _ => none

/-- R76 gives every reply the state the torch was in; R50 adds the outcome recorded. -/
def ownArcOff (p : Port) (o : Option ArcOutcome) (s : State) : State × Answer :=
  match o with
  | none => (s, refuse .range)
  | some o =>
      let was := (s.torch p).state
      match was with
      | .starting | .burning => (((s.idleTorch p).endJob p o).runWalk, okWith (.torch was (s.recorded p o)))
      | .waiting => (((s.unqueue p).idleTorch p).runWalk, okWith (.torch was none))
      | .dropped => (s.idleTorch p, okWith (.torch was none))
      | .idle => (s, refuse .state)

def takeArcOff (p : Port) (tag : Byte) (o : Option ArcOutcome) (s : State) : State :=
  s.take p tag gantryOnly false (ownArcOff p o)

def execArcOff (p : Port) (tag : Byte) (o : Option ArcOutcome) (s : State) : Host.Outcome State Fault Refusal :=
  request (.arcOff p tag o) p (takeArcOff p tag o) s

/-! ## BUDGET_READ (R83) -/

def State.queueEntry (s : State) (p : Port) : QueueEntry :=
  ⟨p, (s.torch p).job, (s.torch p).current, (s.torch p).surge, (s.torch p).wait⟩

def State.torchReport (s : State) (p : Port) : TorchReport :=
  let t := s.torch p
  ⟨p, t.state, t.job, t.current, t.surge, t.load, t.seq, t.establish⟩

/-- R83. The rule gives an order for the start queue only; the torch records stand in ascending port, the model's choice,
DESIGN CHOICE, log 30. -/
def State.budgetReport (s : State) : BudgetReport :=
  ⟨s.params.rating, s.params.reserve, s.feeder.level, s.feeder.capacity, s.committed, s.feeder.stale, s.feeder.sag,
    s.params.sagLevel, s.params.sagMode, s.feeder.discards, s.params.establishLimit, s.params.waitLimit,
    s.startQueue.map s.queueEntry, (allPorts.filter fun p => decide (s.role p = .gantry)).map s.torchReport⟩

def ownBudgetRead (s : State) : State × Answer := (s, okWith (.budget s.budgetReport))

def takeBudgetRead (p : Port) (tag : Byte) (s : State) : State := s.take p tag anyRole true ownBudgetRead

def execBudgetRead (p : Port) (tag : Byte) (s : State) : Host.Outcome State Fault Refusal :=
  request (.budgetRead p tag) p (takeBudgetRead p tag) s

/-! ## FEEDER_READING (R66, R67, R69, R165) -/

/-- R69: the lit torch with the highest admission sequence number. -/
def State.newest (s : State) : Option Port :=
  allPorts.find? fun p => (s.torch p).state.lit
    && allPorts.all fun q => !(s.torch q).state.lit || decide ((s.torch q).seq ≤ (s.torch p).seq)

/-- R69: one shed. -/
def State.shedTorch (p : Port) (s : State) : State :=
  let t := s.torch p
  (((s.dropTorch p).stopHeld p true).notifyJob p t .shed).raise .arcShed p.val

/-- R69: sheds, newest first, while Q > C; each shed puts out one torch, so one for each port is enough. -/
def shed : Nat → State → State
  | 0, s => s
  | n + 1, s =>
      if s.committed ≤ s.feeder.capacity then s
      else match s.newest with
        | none => s
        | some p => shed n (s.shedTorch p)

/-- R67 step 4, R70: the sag flag is evaluated, and FEEDER_SAG is raised when it sets. -/
def State.evaluateSag (s : State) : State :=
  let sag := sagAfter s.feeder.sag s.params.sagLevel s.feeder.level
  let s' := { s with feeder := { s.feeder with sag := sag } }
  if sag && !s.feeder.sag then s'.raise .feederSag 0 else s'

/-- R67: a good reading. -/
def goodReading (raw : Nat) (s : State) : State :=
  let s1 := { s with feeder := { s.feeder with
    level := min raw Config.maxLevel, stale := false, staleTimer := some Config.staleMs } }
  let s2 := s1.recompute.evaluateSag
  let s3 := if s2.params.sagMode = .trip ∧ s2.feeder.sag then shed 6 s2 else s2
  if s.feeder.stale || (s.feeder.sag && !s2.feeder.sag) || decide (s.feeder.capacity < s2.feeder.capacity)
      || decide (s3.committed < s2.committed) then s3.runWalk
  else s3

/-- R66: a discarded reading is counted. -/
def discardReading (s : State) : State :=
  { s with feeder := { s.feeder with discards := countUp Config.maxCount s.feeder.discards } }

/-- What a receiver has met at a byte. -/
inductive FmMet where
  | nothing
  | discard
  | level (n : Nat)
deriving DecidableEq, Repr

/-- R165: a byte met while hunting for 0x5A. R165 gives the missing stop bit for a reading being collected only; that a
0x5A without its stop bit is skipped uncounted is the model's choice, DESIGN CHOICE, log 32. -/
def fmHunt (b : LineByte) : Receiver := if b.stop && decide (b.value = 0x5A#8) then .collecting [] else .hunting

/-- R165: one byte at the FM receiver. -/
def fmByte : Receiver → LineByte → Receiver × FmMet
  | .hunting, b => (fmHunt b, .nothing)
  | .collecting got, b =>
      if b.gap then (fmHunt b, .discard)
      else if !b.stop then (.hunting, .discard)
      else match got with
        | [hi, lo] => (.hunting, if b.value = 0x5A#8 + hi + lo then .level (nat16 hi lo) else .discard)
        | _ => (.collecting (got ++ [b.value]), .nothing)

/-- One byte of the FM line. -/
def feederByte (s : State) (b : LineByte) : State :=
  let r := fmByte s.feeder.receiver b
  let s := { s with feeder := { s.feeder with receiver := r.1 } }
  match r.2 with
  | .nothing => s
  | .discard => discardReading s
  | .level n => goodReading n s

def execFeederReading (bytes : List LineByte) (s : State) : Host.Outcome State Fault Refusal :=
  event (fun s => bytes.foldl feederByte s) s

/-! ## The timers of this chapter -/

/-- R68: the staleness timer expires, where it has run out (log 4). -/
def stalenessExpiry (s : State) : State :=
  if runOut s.feeder.staleTimer then
    { s with feeder := { s.feeder with stale := true, staleTimer := none } }.raise .feederStale 0
  else s

def execStalenessTimerExpiry (s : State) : Host.Outcome State Fault Refusal := event stalenessExpiry s

/-- R77: the establish limit of a STARTING torch expires, where its timer has run out (log 4). -/
def establishExpiry (p : Port) (s : State) : State :=
  let t := s.torch p
  if t.state = .starting ∧ runOut t.establish then
    ((((s.dropTorch p).stopHeld p true).notifyJob p t .startFailed).raise .startFail p.val).runWalk
  else s

def execEstablishTimerExpiry (p : Port) (s : State) : Host.Outcome State Fault Refusal := event (establishExpiry p) s

/-- R78: the wait limit of a WAITING torch expires, where its timer has run out (log 4). -/
def waitExpiry (p : Port) (s : State) : State :=
  let t := s.torch p
  if t.state = .waiting ∧ runOut t.wait then (((s.unqueue p).idleTorch p).notifyJob p t .startTimeout).runWalk else s

def execWaitTimerExpiry (p : Port) (s : State) : Host.Outcome State Fault Refusal := event (waitExpiry p) s

end Sys2Proof.Machine
end

