-- ==== Sys2Proof/Machine/Cranes.lean ====
section
/-! DEFINITION. Cranes (chapter 5): SPAN_SET, SPAN_CLEAR, LIFT, RETARGET, SET_DOWN, LIFT_ABORT, CRANE_READ. -/

namespace Sys2Proof.Machine

open Sys2Proof

/-- R85, R88: the span of the other crane, if there is one and it is not EMPTY. -/
def State.otherSpan (s : State) (p : Port) : Option (Nat × Nat) :=
  (allPorts.find? fun q => decide (q ≠ p) && decide (s.role q = .crane)).bind fun q => (s.crane q).span

/-- R170: the runway side of a crane port. -/
def State.side (s : State) (p : Port) : Side := (s.portParams p).side

/-! ## SPAN_SET (R88) -/

/-- R88 case 4: lo..hi fails the runway order against the other span. -/
def breaksOrder (side : Side) (lo hi : Nat) (other : Nat × Nat) : Bool :=
  match side with
  | .west => decide (other.1 ≤ hi)
  | .east => decide (lo ≤ other.2)

def spanSetCases (p : Port) (lo hi : Nat) (s : State) : Cases :=
  [(hi < lo ∨ Config.lastColumn < hi, .range),
   (s.hallStop.isSome, .halt),
   ((s.crane p).span.any (fun sp => !columnsShare (lo, hi) sp), .disjoint),
   ((s.otherSpan p).any (breaksOrder (s.side p) lo hi), .conflict),
   ((s.crane p).hook.isSome && (s.crane p).corridor.any (fun c => !columnsWithin c.columns (some (lo, hi))), .corridor)]

/-- R88: the data a refusal of SPAN-SET carries. -/
def State.spanRefusal (s : State) (p : Port) : Status → Answer
  | .conflict => ⟨.conflict, match s.otherSpan p with | some sp => .columns sp | none => .nothing⟩
  | .corridor => ⟨.corridor, match (s.crane p).corridor with | some c => .columns c.columns | none => .nothing⟩
  | st => refuse st

def ownSpanSet (p : Port) (lo hi : Nat) (s : State) : State × Answer :=
  match firstCase (spanSetCases p lo hi s) with
  | some st => (s, s.spanRefusal p st)
  | none => (s.setCrane p { s.crane p with span := some (lo, hi) }, okWith (.columns (lo, hi)))

def takeSpanSet (p : Port) (tag : Byte) (lo hi : Nat) (s : State) : State := s.take p tag craneOnly false (ownSpanSet p lo hi)

def execSpanSet (p : Port) (tag : Byte) (lo hi : Nat) (s : State) : Host.Outcome State Fault Refusal :=
  request (.spanSet p tag lo hi) p (takeSpanSet p tag lo hi) s

/-! ## SPAN_CLEAR (R89) -/

def ownSpanClear (p : Port) (s : State) : State × Answer :=
  byCases [((s.crane p).hook.isSome, .busy)]
    (fun s => (s.setCrane p { s.crane p with span := none }, okWith .nothing)) s

def takeSpanClear (p : Port) (tag : Byte) (s : State) : State := s.take p tag craneOnly false (ownSpanClear p)

def execSpanClear (p : Port) (tag : Byte) (s : State) : Host.Outcome State Fault Refusal :=
  request (.spanClear p tag) p (takeSpanClear p tag) s

/-! ## Corridors (R91, R92) -/

/-- R92 case 3: the corridor meets a zone it may not cross. -/
def State.barredBy (s : State) (c : Rect) (exempt : List Nat) : Bool :=
  (List.range 48).any fun z =>
    (s.desc z).inService && decide ((s.desc z).kind ≠ .none) && c.intersects (s.desc z).rect
      && (decide ((s.desc z).kind = .keepout) || (!exempt.contains z && !(s.desc z).pass))

/-- R92: the corridor tests. -/
def corridorCases (p : Port) (c : Rect) (exempt : List Nat) (s : State) : Cases :=
  [(!columnsWithin c.columns (s.crane p).span, .span),
   (s.overHotBed c, .hot),
   (s.barredBy c exempt, .pass)]

/-- R108: the notice CRANE_MOVE goes to P0. -/
def State.reportMove (p : Port) (a : CraneAction) (id z : Nat) (d : MoveData) (s : State) : State :=
  s.notify 0 (.craneMove p a id z d)

/-! ## LIFT (R95, R96) -/

/-- R91: the corridor of a lift into zone `z`. -/
def State.liftCorridor (s : State) (r : Plate) (z : Nat) : Rect :=
  ((s.hallFootprint r).getD (s.desc z).rect).enclose (s.desc z).rect

def liftCases (p : Port) (id z : Nat) (s : State) : Cases :=
  let r := s.record id
  let fromZone := ((r.map Plate.zoneOf).getD 0)
  [((s.crane p).hook.isSome, .busy),
   ((s.crane p).span.isNone, .span),
   (s.hallStop.isSome, .halt),
   (r.isNone, .unknownId),
   (r.any (fun r => !r.isResting), .state),
   (!(s.desc fromZone).inService, .absent),
   (!(s.desc fromZone).lift, .rights),
   (z = 0, .nullZone),
   (Config.lastZone < z, .range),
   (!(s.desc z).inService, .absent),
   ((s.desc z).kind = .keepout ∨ !(s.desc z).place, .rights),
   (s.refs id ≠ 0, .locked)] ++
  (match r with
    | some r => corridorCases p (s.liftCorridor r z) [fromZone, z] s
    | none => [])

/-- R96: the place a record rested at. -/
def Plate.origin (r : Plate) : Origin :=
  match r.location with
  | .resting z ox oy t => ⟨z, ox, oy, t⟩
  | .onHook _ => .nowhere

/-- R96: the changes of a granted lift. -/
def State.grantLift (p : Port) (r : Plate) (z : Nat) (s : State) : State :=
  let c := s.liftCorridor r z
  let s := s.setRecord r.id fun q => { q with location := .onHook p, inParent := false }
  let s := s.clearInParent r.id
  let s := s.setCrane p { s.crane p with hook := some r.id, corridor := some c, target := z, targets := [z], origin := r.origin }
  (s.setUsed r.zoneOf true).reportMove p .lifted r.id z (.corridor c)

def ownLift (p : Port) (id z : Nat) (s : State) : State × Answer :=
  byCases (liftCases p id z s) (fun s =>
    match s.record id with
    | none => (s, refuse .unknownId)
    | some r => (s.grantLift p r z, okWith (.corridor (s.liftCorridor r z) (s.liftCorridor r z).columns))) s

def takeLift (p : Port) (tag : Byte) (id z : Nat) (s : State) : State := s.take p tag craneOnly false (ownLift p id z)

def execLift (p : Port) (tag : Byte) (id z : Nat) (s : State) : Host.Outcome State Fault Refusal :=
  request (.lift p tag id z) p (takeLift p tag id z) s

/-! ## RETARGET (R98, R99) -/

/-- R99: the target list with the zone appended unless it is on it. -/
def withTarget (l : List Nat) (z : Nat) : List Nat := if l.contains z then l else l ++ [z]

/-- R91: the corridor grown to take in zone `z`. -/
def State.grownCorridor (s : State) (p : Port) (z : Nat) : Rect :=
  ((s.crane p).corridor.getD (s.desc z).rect).enclose (s.desc z).rect

def retargetCases (p : Port) (z : Nat) (s : State) : Cases :=
  let c := s.crane p
  [(c.hook.isNone, .state),
   (z = 0, .nullZone),
   (Config.lastZone < z, .range),
   (!(s.desc z).inService, .absent),
   ((s.desc z).kind = .keepout ∨ !(s.desc z).place, .rights),
   (!c.targets.contains z ∧ Config.maxTargets ≤ c.targets.length, .full)] ++
  corridorCases p (s.grownCorridor p z) (c.origin.zone :: withTarget c.targets z) s

/-- R99: the crane after an accepted retarget; one to the present target changes nothing (log 25). -/
def State.retarget (p : Port) (z : Nat) (s : State) : State :=
  let c := s.crane p
  if z = c.target then s
  else s.setCrane p { c with corridor := some (s.grownCorridor p z), target := z, targets := withTarget c.targets z }

/-- R99, R108: the reply and the notice carry the corridor as the retarget leaves it. -/
def ownRetarget (p : Port) (z : Nat) (s : State) : State × Answer :=
  byCases (retargetCases p z s) (fun s =>
    let s' := s.retarget p z
    let g := (s'.crane p).corridor.getD (s.desc z).rect
    (s'.reportMove p .retargeted ((s.crane p).hook.getD 0) z (.corridor g), okWith (.corridor g g.columns))) s

def takeRetarget (p : Port) (tag : Byte) (z : Nat) (s : State) : State := s.take p tag craneOnly false (ownRetarget p z)

def execRetarget (p : Port) (tag : Byte) (z : Nat) (s : State) : Host.Outcome State Fault Refusal :=
  request (.retarget p tag z) p (takeRetarget p tag z) s

/-! ## SET_DOWN (R100, R101, R102) -/

/-- The record on a crane's hook. -/
def State.load (s : State) (p : Port) : Option Plate := (s.crane p).hook.bind s.record

/-- R101: the hook becomes FREE and the corridor is released. -/
def State.freeHook (p : Port) (s : State) : State :=
  s.setCrane p { s.crane p with hook := none, corridor := none, target := 0, targets := [], origin := .nowhere }

/-- The placement test of the load, if there is one. -/
def loadCases (s : State) (p : Port) (z offX offY : Nat) (t : Turn) : Cases :=
  match s.load p with
  | some r => placementCases s r z offX offY t ++ ([(s.overlaps r z offX offY t, .overlap)] : Cases)
  | none => []

def setDownCases (p : Port) (offX offY : Nat) (turn : Option Turn) (s : State) : Cases :=
  let z := (s.crane p).target
  [((s.load p).isNone, .state),
   (turn.isNone ∨ 249999 < offX ∨ 249999 < offY, .range)] ++
  loadCases s p z offX offY (turn.getD .deg0) ++
  ([((s.desc z).kind = .scrap ∧ (s.load p).any (fun r => decide (s.refs r.id ≠ 0)), .locked),
    ((s.desc z).kind = .scrap ∧ (s.load p).any (·.hold.isSome), .reserved)] : Cases)

/-- R101, R103: the record comes to rest, the hook is freed, the used flag is set, P0 is told and a walk runs. -/
def State.land (p : Port) (r : Plate) (z offX offY : Nat) (t : Turn) (a : CraneAction) (s : State) : State :=
  let s := s.setRecord r.id fun q => { q with location := .resting z offX offY t }
  ((((s.freeHook p).setUsed z true).reportMove p a r.id z (.place offX offY t))).runWalk

/-- R102: the record is deleted in place of resting. -/
def State.scrap (p : Port) (r : Plate) (z : Nat) (s : State) : State :=
  (((((s.deleteRecord r.id).freeHook p).setUsed z true).reportMove p .scrapped r.id z .nothing)).runWalk

def ownSetDown (p : Port) (offX offY : Nat) (turn : Option Turn) (s : State) : State × Answer :=
  byCases (setDownCases p offX offY turn s) (fun s =>
    let z := (s.crane p).target
    let t := turn.getD .deg0
    match s.load p with
    | none => (s, refuse .state)
    | some r =>
        if (s.desc z).kind = .scrap then (s.scrap p r z, okWith .deleted)
        else (s.land p r z offX offY t .setDown, okWith (.rect (s.footprintAt r z offX offY t)))) s

def takeSetDown (p : Port) (tag : Byte) (offX offY : Nat) (turn : Option Turn) (s : State) : State :=
  s.take p tag craneOnly false (ownSetDown p offX offY turn)

def execSetDown (p : Port) (tag : Byte) (offX offY : Nat) (turn : Option Turn) (s : State) :
    Host.Outcome State Fault Refusal :=
  request (.setDown p tag offX offY turn) p (takeSetDown p tag offX offY turn) s

/-! ## LIFT_ABORT (R103) -/

def liftAbortCases (p : Port) (s : State) : Cases :=
  let o := (s.crane p).origin
  [((s.load p).isNone, .state)] ++ loadCases s p o.zone o.offX o.offY o.turn

def ownLiftAbort (p : Port) (s : State) : State × Answer :=
  byCases (liftAbortCases p s) (fun s =>
    let o := (s.crane p).origin
    match s.load p with
    | none => (s, refuse .state)
    | some r =>
        (s.land p r o.zone o.offX o.offY o.turn .aborted, okWith .nothing)) s

def takeLiftAbort (p : Port) (tag : Byte) (s : State) : State := s.take p tag craneOnly false (ownLiftAbort p)

def execLiftAbort (p : Port) (tag : Byte) (s : State) : Host.Outcome State Fault Refusal :=
  request (.liftAbort p tag) p (takeLiftAbort p tag) s

/-! ## CRANE_READ (R109) -/

def State.craneReport (s : State) (q : Port) : CraneReport :=
  ⟨s.side q, s.crane q, if (s.crane q).hook.isSome then (s.crane q).corridor.map Rect.columns else none, (s.port q).state,
    s.permitLine q⟩

def ownCraneRead (n : Nat) (s : State) : State × Answer :=
  (s, match s.cranePort n with
    | none => refuse .range
    | some q => okWith (.crane (s.craneReport q)))

def takeCraneRead (p : Port) (tag : Byte) (n : Nat) (s : State) : State := s.take p tag anyRole true (ownCraneRead n)

def execCraneRead (p : Port) (tag : Byte) (n : Nat) (s : State) : Host.Outcome State Fault Refusal :=
  request (.craneRead p tag n) p (takeCraneRead p tag n) s

end Sys2Proof.Machine
end

