-- ==== Sys2Proof/Machine/Remnants.lean ====
section
/-! DEFINITION. Remnant stock (chapter 6): REMNANT_DECLARE, REMNANT_FIT, REMNANT_RELEASE, REMNANT_LIST and
HOLD_TIMER_EXPIRY. -/

namespace Sys2Proof.Machine

open Sys2Proof

/-! ## REMNANT_DECLARE (R111 to R114) -/

/-- The declared rectangle in the record frame; it is formed only after case 5 has tested its corners. -/
def declaredRect (x0 y0 x1 y1 : Nat) : Rect := ⟨x0, y0, x1 - x0, y1 - y0⟩

/-- The box of a part. -/
def Part.box (q : Part) : Rect := ⟨q.x0, q.y0, q.x1 - q.x0, q.y1 - q.y0⟩

def declareCases (pl id x0 y0 x1 y1 : Nat) (s : State) : Cases :=
  let r := s.record pl
  let z := (r.map Plate.zoneOf).getD 0
  [(r.isNone, .unknownId),
   (r.any (fun r => !r.isResting || decide (r.form = .skeleton) || (decide (r.kind = .remnant) && r.inParent)), .state),
   (s.refs pl ≠ 0, .locked),
   (r.any (·.hold.isSome), .reserved),
   (id = 0 ∨ Config.maxId < id ∨ x1 ≤ x0 ∨ y1 ≤ y0
     ∨ r.any (fun r => decide (r.length < x1) || decide (r.width < y1)), .range),
   (r.any (fun r => r.parts.any fun q =>
      decide (q.status ≠ .separated) && (declaredRect x0 y0 x1 y1).intersects q.box), .overlap),
   (min (x1 - x0) (y1 - y0) < s.params.minSide, .small),
   ((x1 - x0) * (y1 - y0) < s.params.minArea, .small),
   ((s.record id).isSome, .duplicate),
   (Config.maxRecords ≤ s.records.length, .full),
   ((s.desc z).capacity ≤ s.restingCount z, .full),
   (!(s.desc z).inService, .absent)]

/-- R113, R114: the new remnant. -/
def Plate.remnantOf (r : Plate) (id x0 y0 x1 y1 : Nat) : Plate :=
  let loc := match r.location with
    | .resting z ox oy .deg0 => .resting z (ox + x0) (oy + y0) .deg0
    | .resting z ox oy .deg90 => .resting z (ox + r.width - y1) (oy + x0) .deg90
    | .onHook q => .onHook q
  ⟨id, .remnant, r.grade, r.thickness, x1 - x0, y1 - y0, loc, .whole, some r.id, true, [], none⟩

/-- The reply of a declaration: the new record's name, size and place. -/
def State.declareAnswer (s : State) (n : Plate) : Answer :=
  match n.location with
  | .resting z ox oy t => okWith (.remnant n.id n.length n.width ox oy t (s.footprintAt n z ox oy t))
  | .onHook _ => refuse .state

def ownRemnantDeclare (pl id x0 y0 x1 y1 : Nat) (s : State) : State × Answer :=
  byCases (declareCases pl id x0 y0 x1 y1 s) (fun s =>
    match s.record pl with
    | none => (s, refuse .unknownId)
    | some r =>
        let n := r.remnantOf id x0 y0 x1 y1
        ((s.setRecord pl fun r => { r with form := .skeleton }).addRecord n, s.declareAnswer n)) s

def takeRemnantDeclare (p : Port) (tag : Byte) (pl id x0 y0 x1 y1 : Nat) (s : State) : State :=
  s.take p tag planningOnly false (ownRemnantDeclare pl id x0 y0 x1 y1)

def execRemnantDeclare (p : Port) (tag : Byte) (pl id x0 y0 x1 y1 : Nat) (s : State) :
    Host.Outcome State Fault Refusal :=
  request (.remnantDeclare p tag pl id x0 y0 x1 y1) p (takeRemnantDeclare p tag pl id x0 y0 x1 y1) s

/-! ## REMNANT_FIT (R118, R119, R120) -/

def fitCases (grade th needL needW : Nat) : Cases :=
  [(63 < grade, .range), (th < 3 ∨ 150 < th, .range), (needL = 0 ∨ 24000 < needL ∨ needW = 0 ∨ 24000 < needW, .range)]

/-- R118: the hold taken, in seconds; 0 asks for the default. -/
def holdTaken (hold : Nat) : Nat :=
  if hold = 0 then Config.defaultHold else clampTo Config.minHold Config.maxHold hold

/-- R119: how a record holds the need, orientation 0 first. -/
def Plate.orientation (r : Plate) (needL needW : Nat) : Option Turn :=
  if needL ≤ r.length ∧ needW ≤ r.width then some .deg0
  else if needL ≤ r.width ∧ needW ≤ r.length then some .deg90
  else none

/-- R119: the members of a stock, in index order. -/
def State.stock (s : State) (grade th : Nat) : List Plate :=
  s.remnantIndex.filter fun r => decide (r.grade = grade) && decide (r.thickness = th)

def State.fitReport (s : State) (r : Plate) (o : Turn) (hold : Nat) : FitReport :=
  let g := r.origin
  ⟨r.id, r.length, r.width, r.area, o, g.zone, g.offX, g.offY, g.turn, s.footprintAt r g.zone g.offX g.offY g.turn,
    (s.desc g.zone).inService, s.refs r.id, hold⟩

/-- R119, R120. The second number of a NONE reply counts every reserved member of the stock, one that is also too small
among them: the model's choice, DESIGN CHOICE, log 31. -/
def ownRemnantFit (grade th needL needW hold : Nat) (s : State) : State × Answer :=
  byCases (fitCases grade th needL needW) (fun s =>
    let stock := s.stock grade th
    match stock.find? fun r => r.hold.isNone && (r.orientation needL needW).isSome with
    | none => (s, ⟨.none, .noFit stock.length (stock.filter (·.hold.isSome)).length⟩)
    | some r =>
        let h := holdTaken hold
        (s.setRecord r.id fun r => { r with hold := some (.start h) },
         ⟨if hold ≠ 0 ∧ h ≠ hold then .clamped else .ok,
          .fit (s.fitReport r ((r.orientation needL needW).getD .deg0) h)⟩)) s

def takeRemnantFit (p : Port) (tag : Byte) (grade th needL needW hold : Nat) (s : State) : State :=
  s.take p tag planningOnly false (ownRemnantFit grade th needL needW hold)

def execRemnantFit (p : Port) (tag : Byte) (grade th needL needW hold : Nat) (s : State) :
    Host.Outcome State Fault Refusal :=
  request (.remnantFit p tag grade th needL needW hold) p (takeRemnantFit p tag grade th needL needW hold) s

/-! ## REMNANT_RELEASE (R123) -/

def remnantReleaseCases (id : Nat) (s : State) : Cases :=
  [((s.record id).isNone, .unknownId), ((s.record id).any (·.hold.isNone), .state)]

def ownRemnantRelease (id : Nat) (s : State) : State × Answer :=
  byCases (remnantReleaseCases id s) (fun s => (s.setRecord id fun r => { r with hold := none }, okWith .nothing)) s

def takeRemnantRelease (p : Port) (tag : Byte) (id : Nat) (s : State) : State :=
  s.take p tag planningOnly false (ownRemnantRelease id)

def execRemnantRelease (p : Port) (tag : Byte) (id : Nat) (s : State) : Host.Outcome State Fault Refusal :=
  request (.remnantRelease p tag id) p (takeRemnantRelease p tag id) s

/-! ## REMNANT_LIST (R117) -/

/-- R117: the members covered; a thickness of 0 covers every thickness. -/
def State.covered (s : State) (grade th : Nat) : List Plate :=
  s.remnantIndex.filter fun r => decide (r.grade = grade) && (decide (th = 0) || decide (r.thickness = th))

def State.remnantEntry (s : State) (r : Plate) : RemnantEntry :=
  let g := r.origin
  ⟨r.id, r.thickness, r.length, r.width, r.area, g.zone, s.footprintAt r g.zone g.offX g.offY g.turn, r.inParent,
    s.refs r.id, r.hold.map Reservation.secondsLeft⟩

def remnantListCases (grade th first : Nat) (s : State) : Cases :=
  [(63 < grade, .range), (th ≠ 0 ∧ (th < 3 ∨ 150 < th), .range), ((s.covered grade th).length < first, .range)]

def ownRemnantList (grade th first : Nat) (s : State) : State × Answer :=
  byCases (remnantListCases grade th first s) (fun s =>
    let l := s.covered grade th
    (s, okWith (.remnants l.length (l.filter (·.hold.isSome)).length (((l.drop first).take 8).map s.remnantEntry)))) s

def takeRemnantList (p : Port) (tag : Byte) (grade th first : Nat) (s : State) : State :=
  s.take p tag anyRole false (ownRemnantList grade th first)

def execRemnantList (p : Port) (tag : Byte) (grade th first : Nat) (s : State) : Host.Outcome State Fault Refusal :=
  request (.remnantList p tag grade th first) p (takeRemnantList p tag grade th first) s

/-! ## HOLD_TIMER_EXPIRY (R122) -/

/-- R122: the reservation is removed and RESERVE_EXPIRED goes to P0, where the hold timer has run out (log 4). -/
def holdExpiry (id : Nat) (s : State) : State :=
  if (s.record id).any (fun r => runOut r.holdTimer) then
    (s.setRecord id fun r => { r with hold := none }).notify 0 (.reserveExpired id)
  else s

def execHoldTimerExpiry (id : Nat) (s : State) : Host.Outcome State Fault Refusal := event (holdExpiry id) s

end Sys2Proof.Machine
end

