-- ==== Sys2Proof/Machine/Logs.lean ====
section
/-! DEFINITION. Completion logs and the alert list (chapter 7): LOG_TAKE, LOG_READ, LOG_CLEAR_LOST, ALERT_CLEAR,
ALERT_ACK_OLDEST, ALERT_CLEAR_ALL, ALERT_READ. Pushes and raises are in Ops. -/

namespace Sys2Proof.Machine

open Sys2Proof

/-! ## LOG_TAKE (R132) -/

/-- R132: n above 16 is taken as 16. -/
def takeCount (n : Nat) : Nat := min n Config.maxLog

def ownLogTake (b n : Nat) (s : State) : State × Answer :=
  byCases (bedCases s b ++ ([(n = 0, .range)] : Cases)) (fun s =>
    let l := s.log b
    if l.records.isEmpty then (s, ⟨.none, .log ⟨b, [], 0, l.lost, s.watermark b⟩⟩)
    else
      let taken := fitting Config.logFixedBytes (takeCount n) l.records
      let left := l.records.drop taken.length
      (s.setLog b { l with records := left },
       ⟨if Config.maxLog < n then .clamped else .ok, .log ⟨b, taken, left.length, l.lost, s.watermark b⟩⟩)) s

def takeLogTake (p : Port) (tag : Byte) (b n : Nat) (s : State) : State := s.take p tag planningOnly false (ownLogTake b n)

def execLogTake (p : Port) (tag : Byte) (b n : Nat) (s : State) : Host.Outcome State Fault Refusal :=
  request (.logTake p tag b n) p (takeLogTake p tag b n) s

/-! ## LOG_READ (R133) -/

def ownLogRead (b first : Nat) (s : State) : State × Answer :=
  byCases (bedCases s b ++ ([((s.log b).records.length < first, .range)] : Cases)) (fun s =>
    let l := s.log b
    (s, okWith (.log ⟨b, fitting Config.logFixedBytes Config.maxLog (l.records.drop first), l.records.length, l.lost,
      s.watermark b⟩))) s

def takeLogRead (p : Port) (tag : Byte) (b first : Nat) (s : State) : State := s.take p tag anyRole false (ownLogRead b first)

def execLogRead (p : Port) (tag : Byte) (b first : Nat) (s : State) : Host.Outcome State Fault Refusal :=
  request (.logRead p tag b first) p (takeLogRead p tag b first) s

/-! ## LOG_CLEAR_LOST (R134) -/

def ownLogClearLost (b : Nat) (s : State) : State × Answer :=
  byCases (bedCases s b) (fun s =>
    (s.setLog b { s.log b with lost := false }, okWith (.fill (s.log b).records.length))) s

def takeLogClearLost (p : Port) (tag : Byte) (b : Nat) (s : State) : State :=
  s.take p tag planningOnly false (ownLogClearLost b)

def execLogClearLost (p : Port) (tag : Byte) (b : Nat) (s : State) : Host.Outcome State Fault Refusal :=
  request (.logClearLost p tag b) p (takeLogClearLost p tag b) s

/-! ## ALERT_CLEAR (R138) -/

/-- R136, section 7.6: the subject lies in the values of the code's subject kind. -/
def subjectValid : AlertCode → Nat → Bool
  | .arcShed, n => decide (n ≤ 5)
  | .startFail, n => decide (n ≤ 5)
  | .portLapsed, n => decide (n ≤ 5)
  | .jobOverdue, n => decide (1 ≤ n) && decide (n ≤ Config.lastZone)
  | .logHigh, n => decide (1 ≤ n) && decide (n ≤ Config.lastZone)
  | .logLost, n => decide (1 ≤ n) && decide (n ≤ Config.lastZone)
  | .feederSag, n => decide (n = 0)
  | .feederStale, n => decide (n = 0)
  | .hallStopped, n => decide (n = 0)
  | .configDefaulted, n => decide (n = 0)
  | .storeFailed, n => decide (n = 0)

def ownAlertClear (code : Option AlertCode) (subject : Nat) (s : State) : State × Answer :=
  match code with
  | none => (s, refuse .range)
  | some c =>
      byCases [(!subjectValid c subject, .range), (!s.alerts.contains ⟨c, subject⟩, .unknownId)] (fun s =>
        let left := s.alerts.erase ⟨c, subject⟩
        ({ s with alerts := left }, okWith (.alertsLeft left.length))) s

def takeAlertClear (p : Port) (tag : Byte) (code : Option AlertCode) (subject : Nat) (s : State) : State :=
  s.take p tag planningOnly false (ownAlertClear code subject)

def execAlertClear (p : Port) (tag : Byte) (code : Option AlertCode) (subject : Nat) (s : State) :
    Host.Outcome State Fault Refusal :=
  request (.alertClear p tag code subject) p (takeAlertClear p tag code subject) s

/-! ## ALERT_ACK_OLDEST, ALERT_CLEAR_ALL (R139) -/

def ownAlertAckOldest (s : State) : State × Answer :=
  match s.alerts with
  | [] => (s, ⟨.none, .nothing⟩)
  | a :: rest => ({ s with alerts := rest }, okWith (.acknowledged a rest.length))

def takeAlertAckOldest (p : Port) (tag : Byte) (s : State) : State := s.take p tag planningOnly false ownAlertAckOldest

def execAlertAckOldest (p : Port) (tag : Byte) (s : State) : Host.Outcome State Fault Refusal :=
  request (.alertAckOldest p tag) p (takeAlertAckOldest p tag) s

def ownAlertClearAll (s : State) : State × Answer :=
  ({ s with alerts := [], overflow := 0 }, okWith (.cleared s.alerts.length s.overflow))

def takeAlertClearAll (p : Port) (tag : Byte) (s : State) : State := s.take p tag planningOnly false ownAlertClearAll

def execAlertClearAll (p : Port) (tag : Byte) (s : State) : Host.Outcome State Fault Refusal :=
  request (.alertClearAll p tag) p (takeAlertClearAll p tag) s

/-! ## ALERT_READ (R140) -/

def ownAlertRead (s : State) : State × Answer :=
  (s, okWith (.alerts s.alerts s.alerts.length s.overflow s.alertLine))

def takeAlertRead (p : Port) (tag : Byte) (s : State) : State := s.take p tag anyRole false ownAlertRead

def execAlertRead (p : Port) (tag : Byte) (s : State) : Host.Outcome State Fault Refusal :=
  request (.alertRead p tag) p (takeAlertRead p tag) s

end Sys2Proof.Machine
end

