-- ==== Sys2Proof/Machine/Ports.lean ====
section
/-! DEFINITION. Ports and master supervision (chapter 8): HELLO, KEEPALIVE, STATUS_READ, PORT_RESTORE, HALL_RESTORE
and KEEPALIVE_TIMER_EXPIRY. The lapse and the latch are in Ops. -/

namespace Sys2Proof.Machine

open Sys2Proof

/-! ## HELLO (R146) -/

def State.setPortState (p : Port) (st : PortState) (s : State) : State := s.setPort p { s.port p with state := st }

/-- R146: the port comes ONLINE and its keepalive timer starts. -/
def State.comeOnline (p : Port) (s : State) : State := (s.setPortState p .online).startKeepalive p

/-- R146: the reply of an accepted HELLO. -/
def State.helloAnswer (s : State) (p : Port) : Answer :=
  okWith (.hello (s.portParams p).period (s.portParams p).window (s.portParams p).mode s.hallStop)

/-- R146: on an AUTO return a DROPPED torch becomes IDLE. -/
def State.returnTorch (p : Port) (s : State) : State :=
  if s.role p = .gantry ∧ (s.torch p).state = .dropped then s.idleTorch p else s

def ownHello (p : Port) (role : Option Role) (s : State) : State × Answer :=
  match role with
  | none => (s, refuse .range)
  | some r =>
      if r ≠ s.role p then (s, refuse .role)
      else match (s.port p).state with
        | .silent => (s.comeOnline p, s.helloAnswer p)
        | .online => (s, refuse .already)
        | .lapsed =>
            if (s.portParams p).mode = .auto then ((s.comeOnline p).returnTorch p, s.helloAnswer p)
            else (s, refuse .barred)

def takeHello (p : Port) (tag : Byte) (role : Option Role) (s : State) : State := s.take p tag anyMaster true (ownHello p role)

def execHello (p : Port) (tag : Byte) (role : Option Role) (s : State) : Host.Outcome State Fault Refusal :=
  request (.hello p tag role) p (takeHello p tag role) s

/-! ## KEEPALIVE (R148) -/

/-- R148: the keepalive comes before the early mark of the running timer. -/
def State.tooEarly (s : State) (p : Port) : Bool := (s.port p).timer.any fun t => decide (t.elapsed < t.early)

/-- R148: a keepalive in time restarts the timer. -/
def ownKeepalive (p : Port) (s : State) : State × Answer :=
  (s.startKeepalive p, okWith (.marks (s.portParams p).period (s.portParams p).window))

/-- R148: an early keepalive is answered EARLY, and the lapse is taken after that (log 11). -/
def takeKeepalive (p : Port) (tag : Byte) (s : State) : State :=
  if (s.admission p anyMaster false).isNone && s.tooEarly p then (s.reply p tag ⟨.early, .nothing⟩).lapse p
  else s.take p tag anyMaster false (ownKeepalive p)

def execKeepalive (p : Port) (tag : Byte) (s : State) : Host.Outcome State Fault Refusal :=
  request (.keepalive p tag) p (takeKeepalive p tag) s

/-! ## STATUS_READ (R158) -/

def State.statusReport (s : State) (q : Port) : StatusReport :=
  let r := s.port q
  let pp := s.portParams q
  ⟨pp.role, pp.pendingRole, r.state, pp.period, pp.window, pp.mode,
    r.timer.map fun t => (t.early - t.elapsed, t.expiry - t.elapsed),
    r.lapses, r.frameErrors, s.permitLine q, s.hallStop,
    if s.role q = .gantry then
      some ⟨s.binding q, (s.torch q).state, (s.heldJob q).map fun bj => (bj.1, bj.2.number)⟩ else none,
    if s.role q = .crane then some ⟨s.side q, (s.crane q).span, (s.crane q).hook⟩ else none⟩

def ownStatusRead (p : Port) (n : Nat) (s : State) : State × Answer :=
  (s, match portOf n with
    | none => refuse .range
    | some q => if p ≠ 0 ∧ q ≠ p then refuse .role else okWith (.status (s.statusReport q)))

def takeStatusRead (p : Port) (tag : Byte) (n : Nat) (s : State) : State := s.take p tag anyRole true (ownStatusRead p n)

def execStatusRead (p : Port) (tag : Byte) (n : Nat) (s : State) : Host.Outcome State Fault Refusal :=
  request (.statusRead p tag n) p (takeStatusRead p tag n) s

/-! ## PORT_RESTORE (R153) -/

def ownPortRestore (n : Nat) (s : State) : State × Answer :=
  match portOf n with
  | none => (s, refuse .range)
  | some q => if (s.port q).state = .lapsed then (s.setPortState q .silent, okWith .nothing) else (s, refuse .state)

def takePortRestore (p : Port) (tag : Byte) (n : Nat) (s : State) : State := s.take p tag planningOnly false (ownPortRestore n)

def execPortRestore (p : Port) (tag : Byte) (n : Nat) (s : State) : Host.Outcome State Fault Refusal :=
  request (.portRestore p tag n) p (takePortRestore p tag n) s

/-! ## HALL_RESTORE (R155) -/

def ownHallRestore (s : State) : State × Answer :=
  if s.hallStop.isNone then (s, refuse .state) else ({ s with hallStop := none }, okWith (.cause s.hallStop))

def takeHallRestore (p : Port) (tag : Byte) (s : State) : State := s.take p tag planningOnly false ownHallRestore

def execHallRestore (p : Port) (tag : Byte) (s : State) : Host.Outcome State Fault Refusal :=
  request (.hallRestore p tag) p (takeHallRestore p tag) s

/-! ## KEEPALIVE_TIMER_EXPIRY (R147) -/

/-- R147: the timer has reached its expiry. -/
def KeepaliveTimer.over (t : KeepaliveTimer) : Bool := decide (t.expiry ≤ t.elapsed)

/-- R147: the expiry is reached with the port ONLINE, and the port lapses. R149: after a keepalive has restarted the timer,
the old expiry does not happen. -/
def keepaliveExpiry (p : Port) (s : State) : State :=
  if (s.port p).state = .online ∧ (s.port p).timer.any KeepaliveTimer.over then s.lapse p else s

def execKeepaliveTimerExpiry (p : Port) (s : State) : Host.Outcome State Fault Refusal := event (keepaliveExpiry p) s

end Sys2Proof.Machine
end

