-- ==== Sys2Proof/Machine/Store.lean ====
section
/-! DEFINITION. Stored configuration (10.1 to 10.3) and the requests about resets: PARAM_SET, PARAM_READ,
CONFIG_STORE, STORE_COMPLETION, RESTART, CAUSE_READ. -/

namespace Sys2Proof.Machine

open Sys2Proof

/-! ## Parameters (R170) -/

/-- R170: the parameters, in the order of their codes 0x01 to 0x0F. -/
inductive ParamCode where
  | role | side | period | window | mode | linkRate | rating | reserve | sagLevel | sagMode | establishLimit | waitLimit
  | minSide | minArea | watermark
deriving DecidableEq, Repr

def paramCodeOf : Nat → Option ParamCode
  | 0x01 => some .role | 0x02 => some .side | 0x03 => some .period | 0x04 => some .window | 0x05 => some .mode
  | 0x06 => some .linkRate | 0x07 => some .rating | 0x08 => some .reserve | 0x09 => some .sagLevel
  | 0x0A => some .sagMode | 0x0B => some .establishLimit | 0x0C => some .waitLimit | 0x0D => some .minSide
  | 0x0E => some .minArea | 0x0F => some .watermark | _ => none

/-- R170: the first and last index of a parameter. -/
def indexRange : ParamCode → Nat × Nat
  | .role => (1, 5) | .side => (1, 5) | .period => (0, 5) | .window => (0, 5) | .mode => (0, 5)
  | .watermark => (1, 47)
  | _ => (0, 0)

/-! The small integers that stand for enumerated values (R170). -/

def roleOfParam : Nat → Option Role
  | 0 => some .gantry | 1 => some .crane | 2 => some .unused | _ => none

def roleParam : Role → Nat
  | .gantry => 0 | .crane => 1 | .unused => 2 | .planning => 3

def sideOfParam : Nat → Option Side
  | 0 => some .west | 1 => some .east | _ => none

def sideParam : Side → Nat
  | .west => 0 | .east => 1

def modeOfParam : Nat → Option ReturnMode
  | 0 => some .auto | 1 => some .manual | 2 => some .hallStop | _ => none

def modeParam : ReturnMode → Nat
  | .auto => 0 | .manual => 1 | .hallStop => 2

def rateOfParam : Nat → Option LinkRate
  | 0 => some .r115200 | 1 => some .r460800 | _ => none

def rateParam : LinkRate → Nat
  | .r115200 => 0 | .r460800 => 1

def sagModeOfParam : Nat → Option SagMode
  | 0 => some .notify | 1 => some .trip | _ => none

def sagModeParam : SagMode → Nat
  | .notify => 0 | .trip => 1

/-- R171 case 4: an enumerated value outside its set, or a return mode other than AUTO for port 0. -/
def badValue (c : ParamCode) (index value : Nat) : Bool :=
  match c with
  | .role => (roleOfParam value).isNone
  | .side => (sideOfParam value).isNone
  | .window => !([25, 50, 75, 100] : List Nat).contains value
  | .mode => (modeOfParam value).isNone || (decide (index = 0) && decide (value ≠ 0))
  | .linkRate => (rateOfParam value).isNone
  | .sagLevel => !([960, 930, 900, 870] : List Nat).contains value
  | .sagMode => (sagModeOfParam value).isNone
  | _ => false

/-- R170, R172: the value taken; `rating` is the feeder rating that stands after the request. -/
def takenValue (rating : Nat) (c : ParamCode) (value : Nat) : Nat :=
  match c with
  | .period => clampTo 100 5000 value
  | .rating => clampTo 100 4000 value
  | .reserve => min value (rating / 2)
  | .establishLimit => clampTo 500 5000 value
  | .waitLimit => clampTo 1 120 value
  | .minSide => clampTo 200 2000 value
  | .minArea => clampTo 40000 4000000 value
  | .watermark => min value 16
  | _ => value

/-- R172: a reset-waiting value that differs from the one in force becomes pending; an equal one removes any pending. -/
def pendingFor {α : Type} [DecidableEq α] (inForce v : α) : Option α := if v = inForce then none else some v

/-- Changes the parameters of the port with a number. -/
def withPort (i : Nat) (f : PortParams → PortParams) (ps : Params) : Params :=
  if h : i < 6 then { ps with ports := ps.ports.set i (f ps.ports[i]) h } else ps

/-- R172: one value written. -/
def writeParam (c : ParamCode) (i v : Nat) (ps : Params) : Params :=
  match c with
  | .role => withPort i (fun q => { q with pendingRole := pendingFor q.role ((roleOfParam v).getD q.role) }) ps
  | .side => withPort i (fun q => { q with pendingSide := pendingFor q.side ((sideOfParam v).getD q.side) }) ps
  | .period => withPort i (fun q => { q with period := v }) ps
  | .window => withPort i (fun q => { q with window := v }) ps
  | .mode => withPort i (fun q => { q with mode := (modeOfParam v).getD q.mode }) ps
  | .linkRate => { ps with pendingRate := pendingFor ps.linkRate ((rateOfParam v).getD ps.linkRate) }
  | .rating => { ps with rating := v }
  | .reserve => { ps with reserve := v }
  | .sagLevel => { ps with sagLevel := v }
  | .sagMode => { ps with sagMode := (sagModeOfParam v).getD ps.sagMode }
  | .establishLimit => { ps with establishLimit := v }
  | .waitLimit => { ps with waitLimit := v }
  | .minSide => { ps with minSide := v }
  | .minArea => { ps with minArea := v }
  | .watermark => { ps with watermarks := ps.watermarks.setIfInBounds i v }

/-! ## PARAM_SET (R171, R172) -/

/-- R172: the feeder rating that stands after the request. -/
def ratingAfter (l : List ParamEntry) (ps : Params) : Nat :=
  match l.find? fun e => decide (paramCodeOf e.code = some .rating) with
  | some e => takenValue 0 .rating e.value
  | none => ps.rating

/-- R172: an entry with the value taken. -/
def takenEntry (rating : Nat) (e : ParamEntry) : ParamEntry :=
  match paramCodeOf e.code with
  | some c => { e with value := takenValue rating c e.value }
  | none => e

/-- R172: an entry written. -/
def writeEntry (ps : Params) (e : ParamEntry) : Params :=
  match paramCodeOf e.code with
  | some c => writeParam c e.index e.value ps
  | none => ps

/-- R172: every entry written in one step. -/
def writeEntries (l : List ParamEntry) (ps : Params) : Params :=
  (l.map (takenEntry (ratingAfter l ps))).foldl writeEntry ps

/-- R170: the role and side of a port as they would stand after a reset that applies them. -/
def PortParams.nextRole (q : PortParams) : Role := q.pendingRole.getD q.role
def PortParams.nextSide (q : PortParams) : Side := q.pendingSide.getD q.side

/-- R143, R171 case 5: the pending set holds at most 4 GANTRY ports, 2 CRANE ports, on different sides. -/
def validSet (ps : Params) : Bool :=
  let l := ps.ports.toList
  let cranes := l.filter fun q => decide (q.nextRole = .crane)
  decide ((l.filter fun q => decide (q.nextRole = .gantry)).length ≤ 4) && decide (cranes.length ≤ 2)
    && decide (cranes.map PortParams.nextSide).Nodup

/-- R171 case 1: an unknown code, or an index out of range other than 0 for a watermark. -/
def badIndex (e : ParamEntry) : Bool :=
  match paramCodeOf e.code with
  | none => true
  | some c =>
      let r := indexRange c
      (decide (e.index < r.1) || decide (r.2 < e.index)) && !(decide (c = .watermark) && decide (e.index = 0))

def paramSetCases (l : List ParamEntry) (s : State) : Cases :=
  [(l.isEmpty || decide (Config.maxParamEntries < l.length) || l.any badIndex, .range),
   (l.any (fun e => decide (paramCodeOf e.code = some .watermark) && decide (e.index = 0)), .nullZone),
   (!decide (l.map fun e => (e.code, e.index)).Nodup, .range),
   (l.any (fun e => (paramCodeOf e.code).any fun c => badValue c e.index e.value), .range),
   (!validSet (writeEntries l s.params), .range)]

/-- R65, R172: the reserve lowered with the rating when the request carries no reserve entry. -/
def lowersReserve (l : List ParamEntry) (ps : Params) : Bool :=
  !l.any (fun e => decide (paramCodeOf e.code = some .reserve)) && decide (ps.rating / 2 < ps.reserve)

/-- R172: the parameters after an accepted request. -/
def paramsAfter (l : List ParamEntry) (ps : Params) : Params :=
  let ps' := writeEntries l ps
  if lowersReserve l ps' then { ps' with reserve := ps'.rating / 2 } else ps'

/-- R172: the entries of the reply, with the further one for a lowered reserve. -/
def entriesAfter (l : List ParamEntry) (ps : Params) : List ParamEntry :=
  let ps' := writeEntries l ps
  l.map (takenEntry (ratingAfter l ps)) ++ if lowersReserve l ps' then [⟨0x08, 0, ps'.rating / 2⟩] else []

/-- R65, R172: C is formed anew when F or R changed and the feeder is not stale, and a walk runs when C rose. -/
def State.reformBudget (old : Params) (s : State) : State :=
  if (s.params.rating ≠ old.rating ∨ s.params.reserve ≠ old.reserve) ∧ !s.feeder.stale then
    if s.feeder.capacity < s.recompute.feeder.capacity then s.recompute.runWalk else s.recompute
  else s

def ownParamSet (l : List ParamEntry) (s : State) : State × Answer :=
  byCases (paramSetCases l s) (fun s =>
    let taken := entriesAfter l s.params
    (State.reformBudget s.params { s with params := paramsAfter l s.params },
     ⟨if taken = l then .ok else .clamped, .paramsTaken taken⟩)) s

def takeParamSet (p : Port) (tag : Byte) (l : List ParamEntry) (s : State) : State :=
  s.take p tag planningOnly false (ownParamSet l)

def execParamSet (p : Port) (tag : Byte) (l : List ParamEntry) (s : State) : Host.Outcome State Fault Refusal :=
  request (.paramSet p tag l) p (takeParamSet p tag l) s

/-! ## PARAM_READ (R173) -/

/-- R173: a parameter's value in force and its pending value at an index. -/
def paramReport (ps : Params) (c : ParamCode) (i : Nat) : ParamReport :=
  let q := if h : i < 6 then ps.ports[i] else .default .unused
  match c with
  | .role => ⟨i, roleParam q.role, q.pendingRole.map roleParam⟩
  | .side => ⟨i, sideParam q.side, q.pendingSide.map sideParam⟩
  | .period => ⟨i, q.period, none⟩
  | .window => ⟨i, q.window, none⟩
  | .mode => ⟨i, modeParam q.mode, none⟩
  | .linkRate => ⟨i, rateParam ps.linkRate, ps.pendingRate.map rateParam⟩
  | .rating => ⟨i, ps.rating, none⟩
  | .reserve => ⟨i, ps.reserve, none⟩
  | .sagLevel => ⟨i, ps.sagLevel, none⟩
  | .sagMode => ⟨i, sagModeParam ps.sagMode, none⟩
  | .establishLimit => ⟨i, ps.establishLimit, none⟩
  | .waitLimit => ⟨i, ps.waitLimit, none⟩
  | .minSide => ⟨i, ps.minSide, none⟩
  | .minArea => ⟨i, ps.minArea, none⟩
  | .watermark => ⟨i, if h : i < 48 then ps.watermarks[i] else 0, none⟩

/-- R174: the state of the image. -/
def ImageStore.state : ImageStore → ImageState
  | .good _ => .good
  | .bad => .bad
  | .writing _ => .writing

def ownParamRead (code first : Nat) (s : State) : State × Answer :=
  (s, match paramCodeOf code with
    | none => refuse .range
    | some c =>
        let r := indexRange c
        if first < r.1 ∨ r.2 < first then refuse .range
        else okWith (.params ((List.range' first (min Config.maxParamRead (r.2 + 1 - first))).map (paramReport s.params c))
          s.image.state))

def takeParamRead (p : Port) (tag : Byte) (code first : Nat) (s : State) : State :=
  s.take p tag anyRole false (ownParamRead code first)

def execParamRead (p : Port) (tag : Byte) (code first : Nat) (s : State) : Host.Outcome State Fault Refusal :=
  request (.paramRead p tag code first) p (takeParamRead p tag code first) s

/-! ## CONFIG_STORE (R174) -/

/-- R179 step 4, R178 step 3: a port's pending role and side in force. -/
def PortParams.applied (q : PortParams) : PortParams :=
  { q with role := q.nextRole, pendingRole := none, side := q.nextSide, pendingSide := none }

/-- R179 step 3: the pending link rate in force. -/
def Params.rateApplied (ps : Params) : Params := { ps with linkRate := ps.pendingRate.getD ps.linkRate, pendingRate := none }

/-- R179 step 4: every pending role and side in force. -/
def Params.rolesApplied (ps : Params) : Params := { ps with ports := onEach PortParams.applied ps.ports }

/-- R174: the copy of the working configuration that a store writes. -/
def State.configCopy (s : State) : Image := ⟨s.params.rateApplied.rolesApplied, onEach Zone.desc s.zones⟩

def ownConfigStore (s : State) : State × Answer :=
  byCases [(s.image.state = .writing, .busy)]
    (fun s => ({ s with image := .writing s.configCopy }, ⟨.pending, .nothing⟩)) s

def takeConfigStore (p : Port) (tag : Byte) (s : State) : State := s.take p tag planningOnly false ownConfigStore

def execConfigStore (p : Port) (tag : Byte) (s : State) : Host.Outcome State Fault Refusal :=
  request (.configStore p tag) p (takeConfigStore p tag) s

/-! ## STORE_COMPLETION (R175) -/

/-- R175: a store in flight completes; the image is read back equal to the copy, or different from it. -/
def storeCompletion (equal : Bool) (s : State) : State :=
  match s.image with
  | .writing copy =>
      if equal then State.notify 0 .stored { s with image := .good copy }
      else State.raise .storeFailed 0 { s with image := .bad }
  | .good _ => s
  | .bad => s

def execStoreCompletion (equal : Bool) (s : State) : Host.Outcome State Fault Refusal := event (storeCompletion equal) s

/-! ## RESTART (R176) and CAUSE_READ (R177) -/

def ownRestart (s : State) : State × Answer :=
  byCases [(s.image.state = .writing, .busy)] (fun s => ({ s with restart := .replying }, okWith .nothing)) s

def takeRestart (p : Port) (tag : Byte) (s : State) : State := s.take p tag planningOnly false ownRestart

def execRestart (p : Port) (tag : Byte) (s : State) : Host.Outcome State Fault Refusal :=
  request (.restart p tag) p (takeRestart p tag) s

def ownCauseRead (s : State) : State × Answer := ({ s with causes := .clear }, okWith (.causes s.causes))

def takeCauseRead (p : Port) (tag : Byte) (s : State) : State := s.take p tag planningOnly false ownCauseRead

def execCauseRead (p : Port) (tag : Byte) (s : State) : Host.Outcome State Fault Refusal :=
  request (.causeRead p tag) p (takeCauseRead p tag) s

end Sys2Proof.Machine
end

