-- ==== Sys2Proof/Machine/Resets.lean ====
section
/-! DEFINITION. Resets and start-up (10.4, 10.5): RESET_HOLD, RESTART_RESET_BEGIN, POWER_START_UP, RESET_RELEASE. -/

namespace Sys2Proof.Machine

open Sys2Proof

/-- R177: the flag of one kind set or cleared. -/
def Causes.put (c : Causes) (k : ResetKind) (f : Bool) : Causes :=
  match k with
  | .power => { c with power := f }
  | .line => { c with line := f }
  | .restart => { c with restart := f }
  | .supply => { c with supply := f }

def Causes.has (c : Causes) : ResetKind → Bool
  | .power => c.power
  | .line => c.line
  | .restart => c.restart
  | .supply => c.supply

/-- Every flag of either record. -/
def Causes.join (a b : Causes) : Causes :=
  ⟨a.power || b.power, a.line || b.line, a.restart || b.restart, a.supply || b.supply⟩

/-! ## RESET_HOLD (R176) -/

/-- R176: a reset of one kind is held, and has occurred. -/
def holdKind (k : ResetKind) (s : State) : State :=
  { s with hold := ⟨s.hold.active.put k true, s.hold.occurred.put k true⟩ }

/-- R176: the RESTART whose reply has been sent has occurred, and is held no longer. -/
def State.restartTaken (s : State) : State :=
  if s.restart = .due then { s with restart := .none, hold := { s.hold with occurred := s.hold.occurred.put .restart true } }
  else s

/-- R176: a reset begins to be held. A RESTART is held from the last byte of its reply, so RESET_HOLD of that kind acts only
where that reset is due, and is otherwise an event that cannot occur (DESIGN CHOICE, log 5). A hold of another kind that
begins in that step outlasts the RESTART, which has occurred. -/
def holdReset (k : ResetKind) (s : State) : State :=
  match k with
  | .restart => if s.restart = .due then holdKind .restart s.restartTaken else s
  | .power => holdKind .power s.restartTaken
  | .line => holdKind .line s.restartTaken
  | .supply => holdKind .supply s.restartTaken

def execResetHold (k : ResetKind) (s : State) : Host.Outcome State Fault Refusal := .next (holdReset k s)

/-! ## Start-up from a POWER reset (R178) -/

/-- R178 steps 2 and 3: the working configuration a power-on starts with. POWER_START_UP has no operand for the outcome of the
check of step 2; that an image the last store left GOOD always passes it is the model's choice, DESIGN CHOICE, log 33. -/
def loadedConfig : ImageStore → Image
  | .good image => image
  | .bad => ⟨.default, Vector.replicate 48 .empty⟩
  | .writing _ => ⟨.default, Vector.replicate 48 .empty⟩

/-- R178 step 2: a store in flight at the loss of supply has left the image BAD. -/
def ImageStore.afterReset : ImageStore → ImageStore
  | .good image => .good image
  | .bad => .bad
  | .writing _ => .bad

/-- R178: start-up. Only the image is kept, and the queue of commands, which is the model's. -/
def powerUp (s : State) : State :=
  let config := loadedConfig s.image
  let fresh : State := {
    zones := onEach (fun d => ⟨d, false⟩) config.zones
    bindings := Vector.replicate 6 .unbound
    records := []
    tables := Vector.replicate 48 .fresh
    logs := Vector.replicate 48 .fresh
    torches := Vector.replicate 6 .idle
    startQueue := []
    committed := 0
    feeder := .afterReset
    cranes := Vector.replicate 6 .powerOn
    ports := Vector.replicate 6 .afterReset
    hallStop := none
    links := Vector.replicate 6 .afterReset
    alerts := []
    overflow := 0
    params := config.params
    image := s.image.afterReset
    causes := ⟨true, false, false, false⟩
    hold := .released
    restart := .none
    pending := s.pending }
  (if s.image.afterReset = .bad then fresh.raise .configDefaulted 0 else fresh).settle

/-! ## Release from a LINE, RESTART or SUPPLY reset (R179) -/

/-- R110: every crane record has an EMPTY span and a FREE hook. -/
def State.cranesIdle (s : State) : Bool :=
  allPorts.all fun p => (s.crane p).span.isNone && (s.crane p).hook.isNone

/-- R59, R51: a job at a reset other than power-on. -/
def resetJob (s : State) (bj : Nat × Job) : State :=
  if bj.2.state.lit then s.stopJob bj.1 bj.2 false
  else if bj.2.state = .taken then s.setJob bj.1 bj.2.number (Job.toHeld bj.2.drops)
  else s

/-- R59: the job tables at a reset other than power-on, beds in ascending order (log 13). -/
def State.resetJobs (s : State) : State := s.allJobs.foldl resetJob s

/-- R179 steps 3 and 4: pending values applied, roles and sides only while every crane is idle. -/
def State.applyPending (s : State) : State :=
  if s.cranesIdle then
    { s with params := s.params.rateApplied.rolesApplied, cranes := Vector.replicate 6 .powerOn }
  else { s with params := s.params.rateApplied }

/-- R179 step 5: every block but the job tables, and the links first of all (log 13). -/
def State.resetBlocks (s : State) : State :=
  { s with
    links := Vector.replicate 6 .afterReset
    ports := Vector.replicate 6 .afterReset
    bindings := Vector.replicate 6 .unbound
    records := s.records.map fun r => { r with hold := none }
    torches := Vector.replicate 6 .idle
    startQueue := []
    committed := 0
    feeder := .afterReset
    hold := .released
    restart := .none }

/-- R179: the changes at release, for the kinds of reset that occurred. -/
def warmUp (s : State) : State :=
  let interrupted := decide (s.image.state = .writing)
  let s := { s with causes := s.causes.join s.hold.occurred, image := s.image.afterReset }
  let s := s.applyPending.resetBlocks.resetJobs
  (if interrupted then s.raise .storeFailed 0 else s).settle

/-! ## RESTART_RESET_BEGIN, POWER_START_UP and RESET_RELEASE (R176) -/

/-- R176: when the last hold has ended the part is released: as from a POWER reset if one was among the holds. -/
def State.endHolds (left : Causes) (s : State) : State :=
  if left.any then { s with hold := { s.hold with active := left } }
  else if s.hold.occurred.power then powerUp s
  else warmUp s

/-- R176: the reset of an accepted RESTART, once its reply has been sent: it occurs, and is released at once. -/
def beginRestart (s : State) : State :=
  if s.restart = .due then s.restartTaken.endHolds s.hold.active else s

def execRestartResetBegin (s : State) : Host.Outcome State Fault Refusal := .next (beginRestart s)

/-- R176: the supply rises through the release level, which ends a POWER hold and a SUPPLY hold (log 16). -/
def powerStartUp (s : State) : State :=
  if s.hold.active.power then s.endHolds ((s.hold.active.put .power false).put .supply false) else s

def execPowerStartUp (s : State) : Host.Outcome State Fault Refusal := .next (powerStartUp s)

/-- R176: the hold of one kind ends. -/
def releaseReset (k : ResetKind) (s : State) : State :=
  if s.hold.active.has k then s.endHolds (s.hold.active.put k false) else s

def execResetRelease (k : ResetKind) (s : State) : Host.Outcome State Fault Refusal := .next (releaseReset k s)

end Sys2Proof.Machine
end

