-- ==== Sys2Proof/Machine/Links.lean ====
section
/-! DEFINITION. The hall-links (chapter 9): FRAME_RECEIVED, FRAME_TAKE, FRAME_SENT. The decoding of a frame is in
Decode; the reply slot, the notice queue and the choice of a transmitter are in Ops. -/

namespace Sys2Proof.Machine

open Sys2Proof

/-! ## FRAME_RECEIVED (R160, R161) -/

/-- What a receiver has met at a byte. -/
inductive LinkMet where
  | nothing
  | discard
  | frame (f : Frame)
deriving DecidableEq, Repr

/-- R160: a byte met while hunting for 0xA5. -/
def rxHunt (b : LineByte) : Receiver := if b.stop && decide (b.value = 0xA5#8) then .collecting [] else .hunting

/-- R160: the check of a frame whose last byte has come: the covered bytes, then the two bytes of the CRC. -/
def rxCheck (len : Byte) (rest : List Byte) : LinkMet :=
  match rest with
  | kind :: tag :: more =>
      let body := more.take len.toNat
      if crcBytes (len :: kind :: tag :: body) = more.drop len.toNat then .frame ⟨kind, tag, body⟩ else .discard
  | _ => .discard

/-- R160: the bytes after the start byte, the newest of them just come. -/
def rxCollect : List Byte → Receiver × LinkMet
  | [] => (.collecting [], .nothing)
  | len :: rest =>
      if Config.maxBody < len.toNat then (.hunting, .discard)
      else if rest.length < len.toNat + 4 then (.collecting (len :: rest), .nothing)
      else (.hunting, rxCheck len rest)

/-- R160: one byte at the receiver of a port. -/
def rxByte : Receiver → LineByte → Receiver × LinkMet
  | .hunting, b => (rxHunt b, .nothing)
  | .collecting got, b =>
      if b.gap then (rxHunt b, .discard)
      else if !b.stop then (.hunting, .discard)
      else rxCollect (got ++ [b.value])

/-- R160, R161: one byte on the link of a port. -/
def linkByte (p : Port) (s : State) (b : LineByte) : State :=
  let r := rxByte (s.link p).receiver b
  let s := s.setLink p { s.link p with receiver := r.1 }
  match r.2 with
  | .nothing => s
  | .discard => s.countFrameError p
  | .frame f => s.offerFrame p f

def execFrameReceived (p : Port) (bytes : List LineByte) (s : State) : Host.Outcome State Fault Refusal :=
  event (fun s => bytes.foldl (linkByte p) s) s

/-! ## FRAME_TAKE (R161, R162) -/

/-- R161: a request that decodes is taken by its own rules. An event is no request, and nothing serves it. -/
def serve (i : Instr) (s : State) : State :=
  match i with
  | .hello p t r => takeHello p t r s
  | .keepalive p t => takeKeepalive p t s
  | .statusRead p t n => takeStatusRead p t n s
  | .portRestore p t n => takePortRestore p t n s
  | .hallRestore p t => takeHallRestore p t s
  | .zoneRead p t z => takeZoneRead p t z s
  | .zoneSet p t w => takeZoneSet p t w s
  | .zoneClear p t z => takeZoneClear p t z s
  | .zoneService p t z f => takeZoneService p t z f s
  | .zoneUsedClear p t z => takeZoneUsedClear p t z s
  | .bedBind p t z => takeBedBind p t z s
  | .bedUnbind p t => takeBedUnbind p t s
  | .plateRegister p t w z ox oy => takePlateRegister p t w z ox oy s
  | .plateRegisterOnHook p t w c => takePlateRegisterOnHook p t w c s
  | .platePartsReplace p t id l => takePlatePartsReplace p t id l s
  | .platePartsAppend p t id l => takePlatePartsAppend p t id l s
  | .plateFinish p t id => takePlateFinish p t id s
  | .plateDrop p t id => takePlateDrop p t id s
  | .plateRead p t id first next => takePlateRead p t id first next s
  | .jobAdd p t w => takeJobAdd p t w s
  | .jobTake p t => takeJobTake p t s
  | .jobReturn p t n => takeJobReturn p t n s
  | .jobCancel p t b n => takeJobCancel p t b n s
  | .jobResume p t b n => takeJobResume p t b n s
  | .jobList p t b first => takeJobList p t b first s
  | .arcStart p t n => takeArcStart p t n s
  | .arcEstablished p t => takeArcEstablished p t s
  | .arcOff p t o => takeArcOff p t o s
  | .budgetRead p t => takeBudgetRead p t s
  | .spanSet p t lo hi => takeSpanSet p t lo hi s
  | .spanClear p t => takeSpanClear p t s
  | .lift p t id z => takeLift p t id z s
  | .retarget p t z => takeRetarget p t z s
  | .setDown p t ox oy turn => takeSetDown p t ox oy turn s
  | .liftAbort p t => takeLiftAbort p t s
  | .craneRead p t n => takeCraneRead p t n s
  | .remnantDeclare p t pl id x0 y0 x1 y1 => takeRemnantDeclare p t pl id x0 y0 x1 y1 s
  | .remnantFit p t g th l w h => takeRemnantFit p t g th l w h s
  | .remnantRelease p t id => takeRemnantRelease p t id s
  | .remnantList p t g th first => takeRemnantList p t g th first s
  | .logTake p t b n => takeLogTake p t b n s
  | .logRead p t b first => takeLogRead p t b first s
  | .logClearLost p t b => takeLogClearLost p t b s
  | .alertClear p t c subj => takeAlertClear p t c subj s
  | .alertAckOldest p t => takeAlertAckOldest p t s
  | .alertClearAll p t => takeAlertClearAll p t s
  | .alertRead p t => takeAlertRead p t s
  | .paramSet p t l => takeParamSet p t l s
  | .paramRead p t c first => takeParamRead p t c first s
  | .configStore p t => takeConfigStore p t s
  | .restart p t => takeRestart p t s
  | .causeRead p t => takeCauseRead p t s
  | .frameReceived _ _ => s
  | .frameTake _ => s
  | .frameSent _ => s
  | .feederReading _ => s
  | .stalenessTimerExpiry => s
  | .establishTimerExpiry _ => s
  | .waitTimerExpiry _ => s
  | .overdueTimerExpiry _ _ => s
  | .holdTimerExpiry _ => s
  | .keepaliveTimerExpiry _ => s
  | .storeCompletion _ => s
  | .resetHold _ => s
  | .restartResetBegin => s
  | .powerStartUp => s
  | .resetRelease _ => s

/-- R162: a taken frame is decoded; CODE and FORMAT answer the frames that decode to no request. -/
def serveFrame (p : Port) (f : Frame) (s : State) : State :=
  match decodeFrame p f with
  | .request i => serve i s
  | .code => s.reply p f.tag (refuse .code)
  | .format => s.reply p f.tag (refuse .format)

/-- R161: the oldest frame of the buffer is taken when the reply slot is empty. -/
def takeFrame (p : Port) (s : State) : State :=
  match (s.link p).slot, (s.link p).buffer with
  | none, f :: rest => serveFrame p f (s.setLink p { s.link p with buffer := rest })
  | _, _ => s

def execFrameTake (p : Port) (s : State) : Host.Outcome State Fault Refusal := event (takeFrame p) s

/-! ## FRAME_SENT (R161, R163, R176) -/

/-- R176: the reply of an accepted RESTART has been sent whole. -/
def State.replySent (p : Port) (s : State) : State :=
  if p = 0 ∧ s.restart = .replying then { s with restart := .due } else s

/-- R161, R163: the last byte of the frame being sent has gone: its reply leaves the slot, or its notice the queue. -/
def frameSent (p : Port) (s : State) : State :=
  let l := s.link p
  match l.sending with
  | .idle => s
  | .reply => (s.setLink p { l with slot := none, sending := .idle, lastSent := .reply }).replySent p
  | .notice => s.setLink p { l with notices := l.notices.tail, sending := .idle, lastSent := .notice }

def execFrameSent (p : Port) (s : State) : Host.Outcome State Fault Refusal := event (frameSent p) s

end Sys2Proof.Machine
end

