-- ==== Sys2Proof/Machine/Dispatch.lean ====
section
/-! DEFINITION. One arm for each command of the table. -/

namespace Sys2Proof.Machine

open Sys2Proof

def exec (i : Instr) (s : State) : Host.Outcome State Fault Refusal :=
  match i with
  | .hello p tag role => Sys2Proof.Machine.execHello p tag role s
  | .keepalive p tag => Sys2Proof.Machine.execKeepalive p tag s
  | .statusRead p tag port => Sys2Proof.Machine.execStatusRead p tag port s
  | .portRestore p tag port => Sys2Proof.Machine.execPortRestore p tag port s
  | .hallRestore p tag => Sys2Proof.Machine.execHallRestore p tag s
  | .zoneRead p tag zone => Sys2Proof.Machine.execZoneRead p tag zone s
  | .zoneSet p tag w => Sys2Proof.Machine.execZoneSet p tag w s
  | .zoneClear p tag zone => Sys2Proof.Machine.execZoneClear p tag zone s
  | .zoneService p tag zone inService => Sys2Proof.Machine.execZoneService p tag zone inService s
  | .zoneUsedClear p tag zone => Sys2Proof.Machine.execZoneUsedClear p tag zone s
  | .bedBind p tag zone => Sys2Proof.Machine.execBedBind p tag zone s
  | .bedUnbind p tag => Sys2Proof.Machine.execBedUnbind p tag s
  | .plateRegister p tag w zone offX offY => Sys2Proof.Machine.execPlateRegister p tag w zone offX offY s
  | .plateRegisterOnHook p tag w crane => Sys2Proof.Machine.execPlateRegisterOnHook p tag w crane s
  | .platePartsReplace p tag id parts => Sys2Proof.Machine.execPlatePartsReplace p tag id parts s
  | .platePartsAppend p tag id parts => Sys2Proof.Machine.execPlatePartsAppend p tag id parts s
  | .plateFinish p tag id => Sys2Proof.Machine.execPlateFinish p tag id s
  | .plateDrop p tag id => Sys2Proof.Machine.execPlateDrop p tag id s
  | .plateRead p tag id first next => Sys2Proof.Machine.execPlateRead p tag id first next s
  | .jobAdd p tag w => Sys2Proof.Machine.execJobAdd p tag w s
  | .jobTake p tag => Sys2Proof.Machine.execJobTake p tag s
  | .jobReturn p tag number => Sys2Proof.Machine.execJobReturn p tag number s
  | .jobCancel p tag bed number => Sys2Proof.Machine.execJobCancel p tag bed number s
  | .jobResume p tag bed number => Sys2Proof.Machine.execJobResume p tag bed number s
  | .jobList p tag bed first => Sys2Proof.Machine.execJobList p tag bed first s
  | .arcStart p tag number => Sys2Proof.Machine.execArcStart p tag number s
  | .arcEstablished p tag => Sys2Proof.Machine.execArcEstablished p tag s
  | .arcOff p tag outcome => Sys2Proof.Machine.execArcOff p tag outcome s
  | .budgetRead p tag => Sys2Proof.Machine.execBudgetRead p tag s
  | .spanSet p tag lo hi => Sys2Proof.Machine.execSpanSet p tag lo hi s
  | .spanClear p tag => Sys2Proof.Machine.execSpanClear p tag s
  | .lift p tag id zone => Sys2Proof.Machine.execLift p tag id zone s
  | .retarget p tag zone => Sys2Proof.Machine.execRetarget p tag zone s
  | .setDown p tag offX offY turn => Sys2Proof.Machine.execSetDown p tag offX offY turn s
  | .liftAbort p tag => Sys2Proof.Machine.execLiftAbort p tag s
  | .craneRead p tag port => Sys2Proof.Machine.execCraneRead p tag port s
  | .remnantDeclare p tag plate id x0 y0 x1 y1 => Sys2Proof.Machine.execRemnantDeclare p tag plate id x0 y0 x1 y1 s
  | .remnantFit p tag grade thickness needL needW hold => Sys2Proof.Machine.execRemnantFit p tag grade thickness needL needW hold s
  | .remnantRelease p tag id => Sys2Proof.Machine.execRemnantRelease p tag id s
  | .remnantList p tag grade thickness first => Sys2Proof.Machine.execRemnantList p tag grade thickness first s
  | .logTake p tag bed n => Sys2Proof.Machine.execLogTake p tag bed n s
  | .logRead p tag bed first => Sys2Proof.Machine.execLogRead p tag bed first s
  | .logClearLost p tag bed => Sys2Proof.Machine.execLogClearLost p tag bed s
  | .alertClear p tag code subject => Sys2Proof.Machine.execAlertClear p tag code subject s
  | .alertAckOldest p tag => Sys2Proof.Machine.execAlertAckOldest p tag s
  | .alertClearAll p tag => Sys2Proof.Machine.execAlertClearAll p tag s
  | .alertRead p tag => Sys2Proof.Machine.execAlertRead p tag s
  | .paramSet p tag entries => Sys2Proof.Machine.execParamSet p tag entries s
  | .paramRead p tag code first => Sys2Proof.Machine.execParamRead p tag code first s
  | .configStore p tag => Sys2Proof.Machine.execConfigStore p tag s
  | .restart p tag => Sys2Proof.Machine.execRestart p tag s
  | .causeRead p tag => Sys2Proof.Machine.execCauseRead p tag s
  | .frameReceived p bytes => Sys2Proof.Machine.execFrameReceived p bytes s
  | .frameTake p => Sys2Proof.Machine.execFrameTake p s
  | .frameSent p => Sys2Proof.Machine.execFrameSent p s
  | .feederReading bytes => Sys2Proof.Machine.execFeederReading bytes s
  | .stalenessTimerExpiry => Sys2Proof.Machine.execStalenessTimerExpiry s
  | .establishTimerExpiry p => Sys2Proof.Machine.execEstablishTimerExpiry p s
  | .waitTimerExpiry p => Sys2Proof.Machine.execWaitTimerExpiry p s
  | .overdueTimerExpiry bed number => Sys2Proof.Machine.execOverdueTimerExpiry bed number s
  | .holdTimerExpiry id => Sys2Proof.Machine.execHoldTimerExpiry id s
  | .keepaliveTimerExpiry p => Sys2Proof.Machine.execKeepaliveTimerExpiry p s
  | .storeCompletion readBackEqual => Sys2Proof.Machine.execStoreCompletion readBackEqual s
  | .resetHold kind => Sys2Proof.Machine.execResetHold kind s
  | .restartResetBegin => Sys2Proof.Machine.execRestartResetBegin s
  | .powerStartUp => Sys2Proof.Machine.execPowerStartUp s
  | .resetRelease kind => Sys2Proof.Machine.execResetRelease kind s

end Sys2Proof.Machine
end

