-- ==== Sys2Proof/Machine/Ticks.lean ====
section
/-! DEFINITION. What the part does by itself while no command waits (log 3): one millisecond passes for every running
timer, and what has come due is put in the queue: the frames the part can take (R161), the reset of a RESTART whose reply
has gone (R176), and the expiries reached. While a reset is held no time passes, and the release of a RESTART comes at once
(R176). -/

namespace Sys2Proof.Machine

open Sys2Proof

/-- A running timer counted in the ms that are left. -/
def countDown (t : Option Nat) : Option Nat := t.map (· - 1)

/-- Such a timer expires within this ms. -/
def expiresNow (t : Option Nat) : Bool := t.any fun r => decide (r ≤ 1)

/-- R147: the keepalive timer counts up to its expiry. -/
def KeepaliveTimer.aged (t : KeepaliveTimer) : KeepaliveTimer := { t with elapsed := min (t.elapsed + 1) t.expiry }

def PortRecord.expiresNow (r : PortRecord) : Bool := r.timer.any fun t => decide (t.expiry ≤ t.elapsed + 1)

def PortRecord.aged (r : PortRecord) : PortRecord := { r with timer := r.timer.map KeepaliveTimer.aged }

def Torch.aged (t : Torch) : Torch := { t with establish := countDown t.establish, wait := countDown t.wait }

def Job.aged (j : Job) : Job := { j with timer := countDown j.timer }

def JobTable.aged (t : JobTable) : JobTable := { t with jobs := t.jobs.map Job.aged }

/-- R120: the hold taken stays as it is. -/
def Reservation.aged (h : Reservation) : Reservation := { h with left := h.left - 1 }

def Plate.aged (r : Plate) : Plate := { r with hold := r.hold.map Reservation.aged }

/-- One ms for every timer of the part: R147, R77, R78, R56, R122, R68. -/
def State.aged (s : State) : State :=
  { s with
    ports := onEach PortRecord.aged s.ports
    torches := onEach Torch.aged s.torches
    tables := onEach JobTable.aged s.tables
    records := s.records.map Plate.aged
    feeder := { s.feeder with staleTimer := countDown s.feeder.staleTimer } }

/-- R161: a frame of the port can be taken. -/
def State.takable (s : State) (p : Port) : Bool := (s.link p).slot.isNone && !(s.link p).buffer.isEmpty

/-- What is due without waiting for a timer. -/
def State.dueNow (s : State) : List Instr := (allPorts.filter s.takable).map .frameTake

/-- R176: a RESTART is released at once. -/
def State.dueRelease (s : State) : List Instr :=
  if s.restart = .due then [.restartResetBegin] else if s.hold.active.restart then [.resetRelease .restart] else []

/-- The expiries of this ms, in the order the model fixes (log 3). -/
def State.dueExpiries (s : State) : List Instr :=
  (allPorts.filter fun p => (s.port p).expiresNow).map .keepaliveTimerExpiry
    ++ (allPorts.filter fun p => expiresNow (s.torch p).establish).map .establishTimerExpiry
    ++ (allPorts.filter fun p => expiresNow (s.torch p).wait).map .waitTimerExpiry
    ++ (s.allJobs.filter fun bj => expiresNow bj.2.timer).map (fun bj => .overdueTimerExpiry bj.1 bj.2.number)
    ++ (s.records.filter fun r => expiresNow r.holdTimer).map (fun r => .holdTimerExpiry r.id)
    ++ if expiresNow s.feeder.staleTimer then [.stalenessTimerExpiry] else []

/-- One step with no command waiting. -/
def tick (s : State) : State :=
  if s.held then { s with pending := s.dueRelease } else { s.aged with pending := s.dueNow ++ s.dueExpiries }

end Sys2Proof.Machine
end

