-- ==== Sys2Proof/Machine/Wire.lean ====
section
/-! DEFINITION. The part's own frames on the line: the status codes (section 9.7), the notices (9.8, R168), the record
layouts of R169, and the frame of a reply (R160, R162): its two opening bytes and its data. Where R167 and R169 do not lay
out a reply's data or the width of a notice's field, its layout is the model's choice (DESIGN CHOICE, log 9). -/

namespace Sys2Proof.Machine

open Sys2Proof

/-- Section 9.7. -/
def Status.value : Status → Nat
  | .ok => 0x00 | .clamped => 0x01 | .pending => 0x02 | .granted => 0x03 | .queued => 0x04 | .none => 0x05
  | .late => 0x06 | .early => 0x07
  | .nullZone => 0x10 | .range => 0x11 | .full => 0x12 | .duplicate => 0x13 | .unknownId => 0x14 | .state => 0x15
  | .busy => 0x16 | .locked => 0x17 | .reserved => 0x18 | .absent => 0x19 | .rights => 0x1A | .fit => 0x1B
  | .overlap => 0x1C | .occupied => 0x1D | .hot => 0x1E | .pass => 0x1F | .span => 0x20 | .disjoint => 0x21
  | .conflict => 0x22 | .corridor => 0x23 | .unbound => 0x24 | .stale => 0x25 | .takenElsewhere => 0x26
  | .order => 0x27 | .halt => 0x28 | .small => 0x29 | .role => 0x2A | .offline => 0x2B | .already => 0x2C
  | .barred => 0x2D | .code => 0x2E | .format => 0x2F

/-- Section 9.7: the two classes of status; a refusal changes no state. -/
def Status.isRefusal (st : Status) : Bool := decide (0x10 ≤ st.value)

/-- R167: the reason byte of a QUEUED reply. -/
def QueueReason.code : QueueReason → Nat
  | .budget => 1 | .corridor => 2 | .sag => 3 | .staleFeeder => 4

/-- R162: the two bytes that open every reply body. -/
def Reply.head (r : Reply) : List Byte := [byteOf r.status.value, byteOf (flagBit 1 r.noticesLost)]

/-- R168. -/
def CraneAction.code : CraneAction → Nat
  | .lifted => 1 | .retargeted => 2 | .setDown => 3 | .scrapped => 4 | .aborted => 5

/-- A rectangle of the hall, with the widths of R169 and extents wide enough for a corridor. -/
def Rect.bytes (r : Rect) : List Byte := bytes32 r.x ++ bytes16 r.y ++ bytes32 r.w ++ bytes16 r.h

/-- R168: the 12 further bytes of a CRANE_MOVE; the fields take the widths of R169. -/
def MoveData.bytes : MoveData → List Byte
  | .corridor r => r.bytes
  | .place ox oy t => bytes32 ox ++ bytes16 oy ++ [byteOf t.code, 0, 0, 0, 0, 0]
  | .nothing => List.replicate 12 0

/-- A bed and a job number. -/
def bedJobBytes (bed job : Nat) : List Byte := byteOf bed :: bytes16 job

/-- Section 9.8: the body of a notice: its code and its fields. -/
def Notice.body : Notice → List Byte
  | .grant b n surge => 0x01#8 :: bedJobBytes b n ++ bytes16 surge
  | .shed b n => 0x02#8 :: bedJobBytes b n
  | .startFailed b n => 0x03#8 :: bedJobBytes b n
  | .startTimeout b n => 0x04#8 :: bedJobBytes b n
  | .halted b n => 0x05#8 :: bedJobBytes b n
  | .jobWithdrawn b n => 0x06#8 :: bedJobBytes b n
  | .bedStale z => [0x07#8, byteOf z]
  | .craneMove p a id z d => [0x08#8, byteOf p.val, byteOf a.code] ++ bytes32 id ++ [byteOf z] ++ d.bytes
  | .reserveExpired id => 0x09#8 :: bytes32 id
  | .alert c subj n => [0x0A#8, byteOf c.code, byteOf subj, byteOf n]
  | .stored => [0x0B#8]

/-- R164: the frame that carries a notice. -/
def Notice.frame (n : Notice) : Frame := ⟨0x81, 0, n.body⟩

/-! ## Record layouts (R169) -/

/-- A zone descriptor, 15 bytes. -/
def zoneBytes (z : Nat) (d : ZoneDesc) (used : Bool) : List Byte :=
  [byteOf z, byteOf d.kind.code] ++ bytes32 d.originX ++ bytes16 d.originY ++ bytes16 d.extX ++ bytes16 d.extY
    ++ [byteOf (flagBit 128 d.coarse + flagBit 64 d.inService + flagBit 32 used + flagBit 16 d.bind), byteOf d.capacity,
        byteOf (flagBit 4 d.lift + flagBit 2 d.place + flagBit 1 d.pass)]

/-- A part entry, 11 bytes. -/
def Part.bytes (q : Part) : List Byte :=
  bytes16 q.number ++ bytes16 q.x0 ++ bytes16 q.y0 ++ bytes16 q.x1 ++ bytes16 q.y1
    ++ [byteOf (flagBit 128 q.markRequired + q.status.code)]

/-- The location bytes of a plate record: the zone or the crane port, and the offsets. -/
def Location.bytes : Location → List Byte
  | .resting z ox oy _ => byteOf z :: bytes32 ox ++ bytes16 oy
  | .onHook p => byteOf p.val :: bytes32 0 ++ bytes16 0

/-- The flag bits of a location: bit 4 ON_HOOK, bit 3 the turn. -/
def Location.flags : Location → Nat
  | .resting _ _ _ t => 8 * t.code
  | .onHook _ => 16

/-- A plate record, 23 bytes, and the part entries that follow it. -/
def plateBytes (r : Plate) (reserved : Bool) (entries : List Part) : List Byte :=
  bytes32 r.id
    ++ [byteOf (128 * r.kind.code + 32 * r.form.code + r.location.flags + flagBit 4 r.inParent + flagBit 2 reserved),
        byteOf r.grade, byteOf r.thickness]
    ++ bytes16 r.length ++ bytes16 r.width ++ r.location.bytes ++ bytes32 (r.parent.getD 0) ++ [byteOf entries.length]
    ++ entries.flatMap Part.bytes

def JobState.code : JobState → Nat
  | .queued => 0 | .taken => 1 | .starting => 2 | .burning => 3 | .held => 4

/-- A job record, 19 bytes and 2 for each part number. -/
def Job.bytes (j : Job) : List Byte :=
  bytes16 j.number
    ++ [byteOf (128 * j.kind.code + 16 * j.state.code + flagBit 2 j.cancelPending + flagBit 1 j.overdue)]
    ++ bytes32 j.plate ++ [byteOf j.priority] ++ bytes16 j.limit ++ bytes16 j.current ++ bytes32 j.arrival
    ++ [byteOf ((j.taker.map (·.val)).getD 0xFF), byteOf j.drops, byteOf j.parts.length] ++ j.parts.flatMap bytes16

def Completion.code : Completion → Nat
  | .done => 0 | .doneThenCancel => 1 | .cancelled => 2

/-- A completion record, 11 bytes and 2 for each part number. -/
def LogRecord.bytes (r : LogRecord) : List Byte :=
  bytes16 r.number ++ [byteOf (128 * r.kind.code + 32 * r.outcome.code + flagBit 1 r.overdue)] ++ bytes32 r.plate
    ++ [byteOf r.drops] ++ bytes16 r.current ++ [byteOf r.parts.length] ++ r.parts.flatMap bytes16

/-- R169: a LOG-TAKE or LOG-READ reply after its two opening bytes. -/
def LogReport.bytes (r : LogReport) : List Byte :=
  [byteOf r.bed, byteOf r.records.length, byteOf r.fill, byteOf (flagBit 128 r.lost + r.watermark)]
    ++ r.records.flatMap LogRecord.bytes

/-! ## The data of the other replies (log 9)

Every layout of this section is a DESIGN CHOICE but for the records of R169 in it, the reason byte and the alert codes of
R167, and the two sizes R169 gives (PLATE-READ and JOB-LIST). An absent port is sent as 0xFF, as R169 sends the taking port
of a job; an absent job as bed 0 and number 0; another absent number as 0. So is the width of each field for which neither R169
nor section 9.9 gives one. -/

def PortState.code : PortState → Nat
  | .silent => 0 | .online => 1 | .lapsed => 2

def BindState.code : BindState → Nat
  | .none => 0 | .bound => 1 | .stale => 2

def TorchState.code : TorchState → Nat
  | .idle => 0 | .waiting => 1 | .starting => 2 | .burning => 3 | .dropped => 4

def ImageState.code : ImageState → Nat
  | .good => 0 | .bad => 1 | .writing => 2

def portByte (p : Option Port) : Byte := byteOf ((p.map (·.val)).getD 0xFF)

/-- A span; an EMPTY one as two bytes 0xFF. -/
def spanBytes : Option (Nat × Nat) → List Byte
  | some c => [byteOf c.1, byteOf c.2]
  | none => [0xFF, 0xFF]

def heldJobBytes : Option (Nat × Nat) → List Byte
  | some j => bedJobBytes j.1 j.2
  | none => bedJobBytes 0 0

def boundBytes : Option (Port × BindState) → List Byte
  | some b => [byteOf b.1.val, byteOf b.2.code]
  | none => [0xFF, 0]

/-- The footprint of a record, whose extents fit the widths R169 gives lengths and widths. -/
def Rect.footBytes (r : Rect) : List Byte := bytes32 r.x ++ bytes16 r.y ++ bytes16 r.w ++ bytes16 r.h

/-- R16: a snapshot as a zone descriptor; it holds no used flag, whose bit is sent 0. -/
def snapshotBytes (z : Nat) : Option ZoneDesc → List Byte
  | some d => zoneBytes z d false
  | none => zoneBytes z .empty false

def GantryStatus.bytes (g : GantryStatus) : List Byte :=
  byteOf g.binding.state.code :: snapshotBytes g.binding.zone g.binding.snapshot ++ [byteOf g.torch.code]
    ++ heldJobBytes g.held

def CraneStatus.bytes (c : CraneStatus) : List Byte :=
  byteOf (sideParam c.side) :: spanBytes c.span ++ bytes32 (c.hook.getD 0)

/-- R158. -/
def StatusReport.bytes (r : StatusReport) : List Byte :=
  [byteOf (roleParam r.role), byteOf ((r.pendingRole.map roleParam).getD 0xFF), byteOf r.state.code] ++ bytes16 r.period
    ++ [byteOf r.window, byteOf (modeParam r.mode), byteOf (flagBit 128 r.permit + flagBit 64 r.marks.isSome)]
    ++ bytes16 ((r.marks.map (·.1)).getD 0) ++ bytes16 ((r.marks.map (·.2)).getD 0) ++ bytes16 r.lapses
    ++ bytes16 r.frameErrors ++ [portByte r.latch] ++ (r.gantry.map GantryStatus.bytes).getD []
    ++ (r.crane.map CraneStatus.bytes).getD []

/-- R10: the zone descriptor of R169, and the derived state. -/
def ZoneReport.bytes (r : ZoneReport) : List Byte :=
  zoneBytes r.zone r.desc r.used ++ r.rect.bytes ++ [byteOf r.resting] ++ boundBytes r.bound
    ++ [byteOf (flagBit 1 r.targeted)]

/-- R37: 15 bytes of derived state, then the plate record of R169 with the part entries; with 12 of them the body takes the
172 bytes that R169 gives. -/
def PlateReport.bytes (r : PlateReport) : List Byte :=
  (r.footprint.getD ⟨0, 0, 0, 0⟩).footBytes ++ [byteOf (flagBit 128 r.inIndex + r.partCount), byteOf r.refs]
    ++ bytes16 (r.holdSeconds.getD 0) ++ [byteOf r.fill] ++ plateBytes r.record r.holdSeconds.isSome r.entries

/-- R47. -/
def TakeReport.bytes (r : TakeReport) : List Byte :=
  bedJobBytes r.bed r.number ++ [byteOf (128 * r.kind.code + flagBit 1 r.overdue)] ++ bytes32 r.plate
    ++ [byteOf r.priority] ++ bytes16 r.limit ++ bytes16 r.current ++ [byteOf r.drops] ++ bytes32 r.offX ++ bytes16 r.offY
    ++ [byteOf r.turn.code, byteOf r.skipped, byteOf r.parts.length] ++ r.parts.flatMap bytes16

/-- R58: 13 bytes, then job records of R169; with 4 of 8 part numbers each the body takes the 155 bytes that R169 gives. -/
def JobListReport.bytes (r : JobListReport) : List Byte :=
  [byteOf r.count, byteOf r.queued, byteOf r.taken, byteOf r.starting, byteOf r.burning, byteOf r.held]
    ++ bytes32 r.counter ++ boundBytes r.bound ++ [byteOf r.jobs.length] ++ r.jobs.flatMap Job.bytes

def QueueEntry.bytes (e : QueueEntry) : List Byte :=
  byteOf e.port.val :: heldJobBytes e.job ++ bytes16 e.current ++ bytes16 e.surge ++ bytes32 (e.waitMs.getD 0)

def TorchReport.bytes (t : TorchReport) : List Byte :=
  [byteOf t.port.val, byteOf t.state.code] ++ heldJobBytes t.job ++ bytes16 t.current ++ bytes16 t.surge ++ bytes16 t.load
    ++ [byteOf t.seq] ++ bytes16 (t.establishMs.getD 0)

/-- R83. -/
def BudgetReport.bytes (r : BudgetReport) : List Byte :=
  bytes16 r.rating ++ bytes16 r.reserve ++ bytes16 r.level ++ bytes16 r.capacity ++ bytes16 r.committed
    ++ [byteOf (flagBit 128 r.stale + flagBit 64 r.sag + sagModeParam r.sagMode)] ++ bytes16 r.sagLevel
    ++ bytes16 r.discards ++ bytes16 r.establishLimit ++ bytes16 r.waitLimit ++ [byteOf r.queue.length]
    ++ r.queue.flatMap QueueEntry.bytes ++ [byteOf r.torches.length] ++ r.torches.flatMap TorchReport.bytes

/-- R109. -/
def CraneReport.bytes (r : CraneReport) : List Byte :=
  [byteOf (sideParam r.side), byteOf r.state.code, byteOf (flagBit 128 r.permit + flagBit 64 r.crane.hook.isSome)]
    ++ spanBytes r.crane.span ++ bytes32 (r.crane.hook.getD 0) ++ (r.crane.corridor.getD ⟨0, 0, 0, 0⟩).bytes
    ++ spanBytes r.columns
    ++ [byteOf r.crane.target, byteOf r.crane.targets.length] ++ r.crane.targets.map byteOf
    ++ [byteOf r.crane.origin.zone] ++ bytes32 r.crane.origin.offX ++ bytes16 r.crane.origin.offY
    ++ [byteOf r.crane.origin.turn.code]

/-- R120. -/
def FitReport.bytes (r : FitReport) : List Byte :=
  bytes32 r.id ++ bytes16 r.length ++ bytes16 r.width ++ bytes32 r.area ++ [byteOf r.orientation.code, byteOf r.zone]
    ++ bytes32 r.offX ++ bytes16 r.offY ++ [byteOf r.turn.code] ++ r.footprint.footBytes
    ++ [byteOf (flagBit 128 r.inService), byteOf r.refs] ++ bytes16 r.hold

/-- R117: 24 bytes, so that 8 entries fit the body. The footprint is told by its corner and by the turn bit: its extents are
the length and the width, exchanged where the bit is set. -/
def RemnantEntry.bytes (e : RemnantEntry) : List Byte :=
  bytes32 e.id ++ [byteOf e.thickness] ++ bytes16 e.length ++ bytes16 e.width ++ bytes32 e.area ++ [byteOf e.zone]
    ++ bytes32 e.footprint.x ++ bytes16 e.footprint.y
    ++ [byteOf (flagBit 128 e.inParent + flagBit 8 (decide (e.footprint.w ≠ e.length))), byteOf e.refs]
    ++ bytes16 (e.holdSeconds.getD 0)

/-- R173. -/
def ParamReport.bytes (r : ParamReport) : List Byte :=
  byteOf r.index :: bytes32 r.value ++ [byteOf (flagBit 1 r.pending.isSome)] ++ bytes32 (r.pending.getD 0)

/-- R136, R167: an alert's code and subject. -/
def Alert.bytes (a : Alert) : List Byte := [byteOf a.code.code, byteOf a.subject]

/-- R162: the data of a reply, after its two opening bytes. -/
def ReplyData.bytes : ReplyData → List Byte
  | .nothing => []
  | .hello t w m latch => bytes16 t ++ [byteOf w, byteOf (modeParam m), portByte latch]
  | .marks t w => bytes16 t ++ [byteOf w]
  | .status r => r.bytes
  | .cause p => [portByte p]
  | .zone r => r.bytes
  | .rect r => r.bytes
  | .snapshot z d => snapshotBytes z (some d)
  | .parts n => [byteOf n]
  | .plate r => r.bytes
  | .fill n => [byteOf n]
  | .added arrival place limit => bytes32 arrival ++ [byteOf place] ++ (limit.map bytes16).getD []
  | .taken r => r.bytes
  | .skipped n => [byteOf n]
  | .position n => [byteOf n]
  | .jobs r => r.bytes
  | .granted n => [byteOf n]
  | .queued reason place q c => [byteOf reason.code, byteOf place] ++ bytes16 q ++ bytes16 c
  | .torch was recorded => [byteOf was.code, byteOf ((recorded.map Completion.code).getD 0xFF)]
  | .budget r => r.bytes
  | .columns c => spanBytes (some c)
  | .corridor r c => r.bytes ++ spanBytes (some c)
  | .deleted => []
  | .crane r => r.bytes
  | .remnant id l w ox oy t f => bytes32 id ++ bytes16 l ++ bytes16 w ++ bytes32 ox ++ bytes16 oy ++ [byteOf t.code] ++ f.footBytes
  | .fit r => r.bytes
  | .noFit members reserved => [byteOf members, byteOf reserved]
  | .remnants covered reserved entries =>
      [byteOf covered, byteOf reserved, byteOf entries.length] ++ entries.flatMap RemnantEntry.bytes
  | .log r => r.bytes
  | .alertsLeft n => [byteOf n]
  | .acknowledged a left => a.bytes ++ [byteOf left]
  | .cleared removed overflow => [byteOf removed, byteOf overflow]
  | .alerts entries count overflow line =>
      [byteOf count, byteOf overflow, byteOf (flagBit 128 line)] ++ entries.flatMap Alert.bytes
  | .paramsTaken entries => byteOf entries.length :: entries.flatMap ParamEntry.bytes
  | .params entries image => [byteOf image.code, byteOf entries.length] ++ entries.flatMap ParamReport.bytes
  | .causes c => [byteOf (flagBit 8 c.power + flagBit 4 c.line + flagBit 2 c.restart + flagBit 1 c.supply)]

/-! ## The frame of a reply -/

/-- R162: the body of a reply: the status, the header flags, the data its request's rule names. -/
def Reply.body (r : Reply) : List Byte := r.head ++ r.data.bytes

/-- R160, R162: the frame that carries a reply: kind 0x80 and the tag of the request it answers. -/
def Reply.frame (r : Reply) : Frame := ⟨0x80, r.tag, r.body⟩

/-- R163: the frame a transmitter is sending. -/
def Link.onLine (l : Link) : Option Frame :=
  match l.sending with
  | .idle => none
  | .reply => l.slot.map Reply.frame
  | .notice => l.notices.head?.map Notice.frame

end Sys2Proof.Machine
end

