-- ==== Sys2Proof/Safety.lean ====
section
/-! DEFINITION. What a safe run keeps: the laws the spec states of the whole part, and the words the statements use for
a request that is heard and answered. -/

namespace Sys2Proof.Machine

open Sys2Proof

/-! ## Requests -/

/-- The port and the tag of a request; an event has none. -/
def requestOf : Instr → Option (Port × Byte)
  | .hello p t _ => some (p, t)
  | .keepalive p t => some (p, t)
  | .statusRead p t _ => some (p, t)
  | .portRestore p t _ => some (p, t)
  | .hallRestore p t => some (p, t)
  | .zoneRead p t _ => some (p, t)
  | .zoneSet p t _ => some (p, t)
  | .zoneClear p t _ => some (p, t)
  | .zoneService p t _ _ => some (p, t)
  | .zoneUsedClear p t _ => some (p, t)
  | .bedBind p t _ => some (p, t)
  | .bedUnbind p t => some (p, t)
  | .plateRegister p t _ _ _ _ => some (p, t)
  | .plateRegisterOnHook p t _ _ => some (p, t)
  | .platePartsReplace p t _ _ => some (p, t)
  | .platePartsAppend p t _ _ => some (p, t)
  | .plateFinish p t _ => some (p, t)
  | .plateDrop p t _ => some (p, t)
  | .plateRead p t _ _ _ => some (p, t)
  | .jobAdd p t _ => some (p, t)
  | .jobTake p t => some (p, t)
  | .jobReturn p t _ => some (p, t)
  | .jobCancel p t _ _ => some (p, t)
  | .jobResume p t _ _ => some (p, t)
  | .jobList p t _ _ => some (p, t)
  | .arcStart p t _ => some (p, t)
  | .arcEstablished p t => some (p, t)
  | .arcOff p t _ => some (p, t)
  | .budgetRead p t => some (p, t)
  | .spanSet p t _ _ => some (p, t)
  | .spanClear p t => some (p, t)
  | .lift p t _ _ => some (p, t)
  | .retarget p t _ => some (p, t)
  | .setDown p t _ _ _ => some (p, t)
  | .liftAbort p t => some (p, t)
  | .craneRead p t _ => some (p, t)
  | .remnantDeclare p t _ _ _ _ _ _ => some (p, t)
  | .remnantFit p t _ _ _ _ _ => some (p, t)
  | .remnantRelease p t _ => some (p, t)
  | .remnantList p t _ _ _ => some (p, t)
  | .logTake p t _ _ => some (p, t)
  | .logRead p t _ _ => some (p, t)
  | .logClearLost p t _ => some (p, t)
  | .alertClear p t _ _ => some (p, t)
  | .alertAckOldest p t => some (p, t)
  | .alertClearAll p t => some (p, t)
  | .alertRead p t => some (p, t)
  | .paramSet p t _ => some (p, t)
  | .paramRead p t _ _ => some (p, t)
  | .configStore p t => some (p, t)
  | .restart p t => some (p, t)
  | .causeRead p t => some (p, t)
  | .frameReceived _ _ => none
  | .frameTake _ => none
  | .frameSent _ => none
  | .feederReading _ => none
  | .stalenessTimerExpiry => none
  | .establishTimerExpiry _ => none
  | .waitTimerExpiry _ => none
  | .overdueTimerExpiry _ _ => none
  | .holdTimerExpiry _ => none
  | .keepaliveTimerExpiry _ => none
  | .storeCompletion _ => none
  | .resetHold _ => none
  | .restartResetBegin => none
  | .powerStartUp => none
  | .resetRelease _ => none

/-- The part is not held, and a request of port `p` that arrives now is taken at once (R161, R176). -/
abbrev State.listens (s : State) (p : Port) : Prop :=
  s.held = false ∧ (s.link p).slot = none ∧ (s.link p).buffer = []

/-- A request of port `p` that arrives now is taken at once and passes both tests of R145, its roles being `roles`. -/
abbrev State.hears (s : State) (p : Port) (roles : List Role) : Prop :=
  s.listens p ∧ s.role p ∈ roles ∧ (s.port p).state = .online

/-- The same for one of the five requests that R145 hears from a port in any state. -/
abbrev State.hearsOffline (s : State) (p : Port) (roles : List Role) : Prop := s.listens p ∧ s.role p ∈ roles

/-- The state in which the step of a taken request ends: `s` is what the owning block has left, the reply is built last
and the transmitters choose (R161, R163). -/
def State.answered (p : Port) (tag : Byte) (st : Status) (d : ReplyData) (s : State) : State :=
  (s.reply p tag ⟨st, d⟩).settle

/-- R42: a job that ranks ahead of another in take order. -/
def Job.before (k j : Job) : Bool :=
  decide (k.priority < j.priority) || (decide (k.priority = j.priority) && decide (k.arrival < j.arrival))

/-- R62, R63: a lit torch goes out and becomes `t`: its load leaves Q, and the higher numbers close up. -/
def State.putOut (p : Port) (t : Torch) (s : State) : State :=
  { s with
    committed := s.committed - (s.torch p).load
    torches := Vector.ofFn fun q : Port =>
      if q = p then t
      else if (s.torch p).seq < (s.torch q).seq then { s.torch q with seq := (s.torch q).seq - 1 }
      else s.torch q }

/-! ## Tables the statements are made with -/

/-- Section 9.6: the roles a request is accepted from. -/
def allowedRoles : Instr → List Role
  | .hello _ _ _ => [.planning, .gantry, .crane]
  | .keepalive _ _ => [.planning, .gantry, .crane]
  | .statusRead _ _ _ => [.planning, .gantry, .crane, .unused]
  | .portRestore _ _ _ => [.planning]
  | .hallRestore _ _ => [.planning]
  | .zoneRead _ _ _ => [.planning, .gantry, .crane, .unused]
  | .zoneSet _ _ _ => [.planning]
  | .zoneClear _ _ _ => [.planning]
  | .zoneService _ _ _ _ => [.planning]
  | .zoneUsedClear _ _ _ => [.planning]
  | .bedBind _ _ _ => [.gantry]
  | .bedUnbind _ _ => [.gantry]
  | .plateRegister _ _ _ _ _ _ => [.planning]
  | .plateRegisterOnHook _ _ _ _ => [.planning]
  | .platePartsReplace _ _ _ _ => [.planning]
  | .platePartsAppend _ _ _ _ => [.planning]
  | .plateFinish _ _ _ => [.planning]
  | .plateDrop _ _ _ => [.planning]
  | .plateRead _ _ _ _ _ => [.planning, .gantry, .crane, .unused]
  | .jobAdd _ _ _ => [.planning]
  | .jobTake _ _ => [.gantry]
  | .jobReturn _ _ _ => [.gantry]
  | .jobCancel _ _ _ _ => [.planning]
  | .jobResume _ _ _ _ => [.planning]
  | .jobList _ _ _ _ => [.planning, .gantry, .crane, .unused]
  | .arcStart _ _ _ => [.gantry]
  | .arcEstablished _ _ => [.gantry]
  | .arcOff _ _ _ => [.gantry]
  | .budgetRead _ _ => [.planning, .gantry, .crane, .unused]
  | .spanSet _ _ _ _ => [.crane]
  | .spanClear _ _ => [.crane]
  | .lift _ _ _ _ => [.crane]
  | .retarget _ _ _ => [.crane]
  | .setDown _ _ _ _ _ => [.crane]
  | .liftAbort _ _ => [.crane]
  | .craneRead _ _ _ => [.planning, .gantry, .crane, .unused]
  | .remnantDeclare _ _ _ _ _ _ _ _ => [.planning]
  | .remnantFit _ _ _ _ _ _ _ => [.planning]
  | .remnantRelease _ _ _ => [.planning]
  | .remnantList _ _ _ _ _ => [.planning, .gantry, .crane, .unused]
  | .logTake _ _ _ _ => [.planning]
  | .logRead _ _ _ _ => [.planning, .gantry, .crane, .unused]
  | .logClearLost _ _ _ => [.planning]
  | .alertClear _ _ _ _ => [.planning]
  | .alertAckOldest _ _ => [.planning]
  | .alertClearAll _ _ => [.planning]
  | .alertRead _ _ => [.planning, .gantry, .crane, .unused]
  | .paramSet _ _ _ => [.planning]
  | .paramRead _ _ _ _ => [.planning, .gantry, .crane, .unused]
  | .configStore _ _ => [.planning]
  | .restart _ _ => [.planning]
  | .causeRead _ _ => [.planning]
  | .frameReceived _ _ => []
  | .frameTake _ => []
  | .frameSent _ => []
  | .feederReading _ => []
  | .stalenessTimerExpiry => []
  | .establishTimerExpiry _ => []
  | .waitTimerExpiry _ => []
  | .overdueTimerExpiry _ _ => []
  | .holdTimerExpiry _ => []
  | .keepaliveTimerExpiry _ => []
  | .storeCompletion _ => []
  | .resetHold _ => []
  | .restartResetBegin => []
  | .powerStartUp => []
  | .resetRelease _ => []

/-- R145: the five requests that are heard from a port in any state. -/
def heardOffline : Instr → Bool
  | .hello _ _ _ => true
  | .statusRead _ _ _ => true
  | .plateRead _ _ _ _ _ => true
  | .budgetRead _ _ => true
  | .craneRead _ _ _ => true
  | _ => false

/-- The pieces of state, the queue of commands apart. -/
inductive Piece where
  | zones | bindings | records | tables | logs | torches | startQueue | committed | feeder | cranes | ports | hallStop
  | links | alerts | overflow | params | image | causes | hold | restart
deriving DecidableEq, Repr

/-- The pieces that a command may change, as the rules of its chapter give them; every other piece is in its frame. -/
def mayChange : Instr → List Piece
  | .hello _ _ _ => [.torches, .committed, .ports, .links]
  | .keepalive _ _ => [.tables, .logs, .torches, .startQueue, .committed, .ports, .hallStop, .links, .alerts,
      .overflow]
  | .statusRead _ _ _ => [.links]
  | .portRestore _ _ _ => [.ports, .links]
  | .hallRestore _ _ => [.hallStop, .links]
  | .zoneRead _ _ _ => [.links]
  | .zoneSet _ _ _ => [.zones, .bindings, .tables, .logs, .links]
  | .zoneClear _ _ _ => [.zones, .tables, .logs, .links]
  | .zoneService _ _ _ _ => [.zones, .bindings, .links]
  | .zoneUsedClear _ _ _ => [.zones, .links]
  | .bedBind _ _ _ => [.zones, .bindings, .links]
  | .bedUnbind _ _ => [.bindings, .links]
  | .plateRegister _ _ _ _ _ _ => [.zones, .records, .links]
  | .plateRegisterOnHook _ _ _ _ => [.records, .cranes, .links]
  | .platePartsReplace _ _ _ _ => [.records, .links]
  | .platePartsAppend _ _ _ _ => [.records, .links]
  | .plateFinish _ _ _ => [.records, .links]
  | .plateDrop _ _ _ => [.records, .links]
  | .plateRead _ _ _ _ _ => [.links]
  | .jobAdd _ _ _ => [.tables, .links]
  | .jobTake _ _ => [.tables, .links]
  | .jobReturn _ _ _ => [.tables, .links]
  | .jobCancel _ _ _ _ => [.tables, .logs, .torches, .startQueue, .committed, .links, .alerts, .overflow]
  | .jobResume _ _ _ _ => [.tables, .links]
  | .jobList _ _ _ _ => [.links]
  | .arcStart _ _ _ => [.tables, .torches, .startQueue, .committed, .links]
  | .arcEstablished _ _ => [.tables, .torches, .startQueue, .committed, .links]
  | .arcOff _ _ _ => [.records, .tables, .logs, .torches, .startQueue, .committed, .links, .alerts, .overflow]
  | .budgetRead _ _ => [.links]
  | .spanSet _ _ _ _ => [.cranes, .links]
  | .spanClear _ _ => [.cranes, .links]
  | .lift _ _ _ _ => [.zones, .records, .cranes, .links]
  | .retarget _ _ _ => [.cranes, .links]
  | .setDown _ _ _ _ _ => [.zones, .records, .tables, .torches, .startQueue, .committed, .cranes, .links]
  | .liftAbort _ _ => [.zones, .records, .tables, .torches, .startQueue, .committed, .cranes, .links]
  | .craneRead _ _ _ => [.links]
  | .remnantDeclare _ _ _ _ _ _ _ _ => [.records, .links]
  | .remnantFit _ _ _ _ _ _ _ => [.records, .links]
  | .remnantRelease _ _ _ => [.records, .links]
  | .remnantList _ _ _ _ _ => [.links]
  | .logTake _ _ _ _ => [.logs, .links]
  | .logRead _ _ _ _ => [.links]
  | .logClearLost _ _ _ => [.logs, .links]
  | .alertClear _ _ _ _ => [.links, .alerts]
  | .alertAckOldest _ _ => [.links, .alerts]
  | .alertClearAll _ _ => [.links, .alerts, .overflow]
  | .alertRead _ _ => [.links]
  | .paramSet _ _ _ => [.tables, .torches, .startQueue, .committed, .feeder, .links, .params]
  | .paramRead _ _ _ _ => [.links]
  | .configStore _ _ => [.links, .image]
  | .restart _ _ => [.links, .restart]
  | .causeRead _ _ => [.links, .causes]
  | .frameReceived _ _ => [.ports, .links]
  | .frameTake _ => [.zones, .bindings, .records, .tables, .logs, .torches, .startQueue, .committed, .feeder,
      .cranes, .ports, .hallStop, .links, .alerts, .overflow, .params, .image, .causes, .restart]
  | .frameSent _ => [.links, .restart]
  | .feederReading _ => [.tables, .logs, .torches, .startQueue, .committed, .feeder, .links, .alerts, .overflow]
  | .stalenessTimerExpiry => [.feeder, .links, .alerts, .overflow]
  | .establishTimerExpiry _ => [.tables, .logs, .torches, .startQueue, .committed, .links, .alerts, .overflow]
  | .waitTimerExpiry _ => [.tables, .torches, .startQueue, .committed, .links]
  | .overdueTimerExpiry _ _ => [.tables, .links, .alerts, .overflow]
  | .holdTimerExpiry _ => [.records, .links]
  | .keepaliveTimerExpiry _ => [.tables, .logs, .torches, .startQueue, .committed, .ports, .hallStop, .links,
      .alerts, .overflow]
  | .storeCompletion _ => [.links, .alerts, .overflow, .image]
  | .resetHold _ => [.hold, .restart]
  | .restartResetBegin => [.zones, .bindings, .records, .tables, .logs, .torches, .startQueue, .committed, .feeder,
      .cranes, .ports, .hallStop, .links, .alerts, .overflow, .params, .image, .causes, .hold, .restart]
  | .powerStartUp => [.zones, .bindings, .records, .tables, .logs, .torches, .startQueue, .committed, .feeder,
      .cranes, .ports, .hallStop, .links, .alerts, .overflow, .params, .image, .causes, .hold, .restart]
  | .resetRelease _ => [.zones, .bindings, .records, .tables, .logs, .torches, .startQueue, .committed, .feeder,
      .cranes, .ports, .hallStop, .links, .alerts, .overflow, .params, .image, .causes, .hold, .restart]

/-- Section 9.6: the kind bytes assigned to a request. -/
def requestCodes : List Nat :=
  [0x01, 0x02, 0x03, 0x04, 0x05, 0x10, 0x11, 0x12, 0x13, 0x14, 0x15, 0x16, 0x20, 0x21, 0x22, 0x23, 0x24, 0x30, 0x31,
   0x32, 0x33, 0x34, 0x35, 0x40, 0x41, 0x42, 0x43, 0x50, 0x51, 0x52, 0x53, 0x54, 0x55, 0x56, 0x60, 0x61, 0x62, 0x63,
   0x70, 0x71, 0x72, 0x73, 0x74, 0x75, 0x76, 0x78, 0x79, 0x7A, 0x7B, 0x7C]

/-- Bytes that come with their stop bits and without a gap. -/
def clean (l : List Byte) : List LineByte := l.map fun b => ⟨b, true, false⟩

/-- R165: the four bytes of a feeder reading. -/
def readingBytes (level : Nat) : List Byte :=
  [0x5A#8] ++ bytes16 level ++ [0x5A#8 + byteOf (level / 256) + byteOf level]

/-! ## The laws -/

/-- R136: at most 8 entries, no two with the same code and subject; the overflow count stops at 255. -/
abbrev State.AlertLaw (s : State) : Prop :=
  s.alerts.length ≤ Config.maxAlerts ∧ s.alerts.Nodup ∧ s.overflow ≤ Config.maxOverflow

/-- R161, R164, R163: at most 2 frames and 8 notices wait, what is being sent is there, and a transmitter is idle only
when nothing waits. -/
abbrev State.LinkLaw (s : State) : Prop :=
  ∀ p : Port, (s.link p).buffer.length ≤ Config.maxFrames ∧ (s.link p).notices.length ≤ Config.maxNotices
    ∧ ((s.link p).sending = .reply → (s.link p).slot ≠ none)
    ∧ ((s.link p).sending = .notice → (s.link p).notices ≠ [])
    ∧ ((s.link p).sending = .idle → (s.link p).slot = none ∧ (s.link p).notices = [])

/-- R63: committed load is the sum of the loads of the torches. -/
abbrev State.LoadLaw (s : State) : Prop := s.committed = (allPorts.map fun p => (s.torch p).load).sum

/-- R62: a torch has a number exactly while it is lit, no number is above the count of lit torches, and none is used
twice. -/
abbrev State.NumberLaw (s : State) : Prop :=
  (∀ p : Port, ((s.torch p).state.lit = true ↔ 1 ≤ (s.torch p).seq) ∧ (s.torch p).seq ≤ s.litCount)
    ∧ ∀ p q : Port, (s.torch p).state.lit = true → (s.torch p).seq = (s.torch q).seq → p = q

/-- R72: a torch stands in the start queue, once, exactly while it is WAITING. -/
abbrev State.QueueLaw (s : State) : Prop :=
  s.startQueue.Nodup ∧ ∀ p : Port, p ∈ s.startQueue ↔ (s.torch p).state = .waiting

/-- R156: a torch is lit, or waits to be, only on an ONLINE gantry port and under a clear latch. -/
abbrev State.PermitLaw (s : State) : Prop :=
  ∀ p : Port, (s.torch p).state.lit = true ∨ (s.torch p).state = .waiting →
    (s.port p).state = .online ∧ s.role p = .gantry ∧ s.hallStop = none

/-- R21: at most 128 records, no two with one id; the model holds them in ascending id (log 22). -/
abbrev State.RegisterLaw (s : State) : Prop :=
  s.records.Pairwise (fun a b => a.id < b.id) ∧ s.records.length ≤ Config.maxRecords

/-- R6: the resting count of a zone never exceeds its capacity. -/
abbrev State.CapacityLaw (s : State) : Prop := ∀ z : Fin 48, s.restingCount z.val ≤ (s.desc z.val).capacity

/-- R27, R28: the floor. Every resting record lies within its zone. No two records that rest in one zone intersect, but for a
remnant and the parent it lies on. While a remnant's in-parent flag is set, its parent is a SKELETON that rests in the same zone
and holds the remnant's footprint. -/
abbrev State.FloorLaw (s : State) : Prop :=
  (∀ r ∈ s.records, ∀ f ∈ r.zoneFootprint, f.within (s.desc r.zoneOf).frame = true)
    ∧ (∀ a ∈ s.records, ∀ b ∈ s.records, a.id ≠ b.id → exemptPair a b = false → a.zoneOf = b.zoneOf →
        ∀ f ∈ a.zoneFootprint, ∀ g ∈ b.zoneFootprint, f.intersects g = false)
    ∧ ∀ a ∈ s.records, a.inParent = true → a.kind = .remnant ∧ ∃ b ∈ s.records, a.parent = some b.id
        ∧ b.form = .skeleton ∧ a.isResting = true ∧ b.isResting = true ∧ a.zoneOf = b.zoneOf
        ∧ ∀ f ∈ a.zoneFootprint, ∀ g ∈ b.zoneFootprint, f.within g = true

/-- R86: a hook is LOADED with a record exactly when that record is ON_HOOK of that crane. The crane of a FREE hook has no
corridor, target, target list or lift origin zone. A LOADED crane has its record, a span that holds its corridor's columns, and
its target on its target list, or 0 with an empty list. R88: a span is a range of columns up to 124. -/
abbrev State.HookLaw (s : State) : Prop :=
  (∀ r ∈ s.records, ∀ p : Port, r.location = .onHook p ↔ (s.crane p).hook = some r.id)
    ∧ ∀ p : Port,
      ((s.crane p).span.all fun a => decide (a.1 ≤ a.2) && decide (a.2 ≤ Config.lastColumn)) = true
      ∧ ((s.crane p).hook = none → (s.crane p).corridor = none ∧ (s.crane p).target = 0 ∧ (s.crane p).targets = []
          ∧ (s.crane p).origin.zone = 0)
      ∧ ((s.crane p).hook ≠ none →
          ((s.crane p).hook.bind s.record).isSome ∧ (s.crane p).span.isSome ∧ (s.crane p).corridor.isSome
          ∧ ((s.crane p).corridor.all fun c => columnsWithin c.columns (s.crane p).span) = true
          ∧ ((s.crane p).target ∈ (s.crane p).targets ∨ (s.crane p).target = 0 ∧ (s.crane p).targets = []))

/-- R49, R52: the state of the job that a torch waits or burns for. -/
def TorchState.serves : TorchState → Option JobState
  | .waiting => some .taken
  | .starting => some .starting
  | .burning => some .burning
  | .idle => none
  | .dropped => none

/-- R43: a port holds at most one job in TAKEN, STARTING or BURNING, and it lies in the table of the port's bound bed, which
is a BED. R49, R52, R60: a torch that waits or is lit serves that job, whose state follows the torch's. -/
abbrev State.ArcLaw (s : State) : Prop :=
  ∀ p : Port,
    (∀ x ∈ s.allJobs, ∀ y ∈ s.allJobs, x.2.taker = some p → x.2.state.active = true → y.2.taker = some p →
      y.2.state.active = true → x = y)
    ∧ (∀ x ∈ s.allJobs, x.2.taker = some p → x.2.state.active = true →
        (s.binding p).state ≠ .none ∧ (s.binding p).zone = x.1)
    ∧ ((s.binding p).state ≠ .none → (s.desc (s.binding p).zone).kind = .bed)
    ∧ ((s.torch p).state.serves.all fun st => (s.heldJob p).any fun bj =>
        decide (bj.2.state = st) && decide ((s.torch p).job = some (bj.1, bj.2.number))) = true

/-- R72, R93: no hot bed intersects an active corridor. -/
abbrev State.ClearLaw (s : State) : Prop :=
  ∀ z : Fin 48, s.isHot z.val = true → s.underCorridor (s.desc z.val).rect = false

/-- R87: every column of the WEST crane's span is below every column of the EAST crane's span. -/
abbrev State.RunwayLaw (s : State) : Prop :=
  ∀ p q : Port, s.role p = .crane → s.role q = .crane → s.side p = .west → s.side q = .east →
    ∀ a ∈ (s.crane p).span, ∀ b ∈ (s.crane q).span, a.2 < b.1

/-- R128: a completion log holds at most 16 records. -/
abbrev State.LogLaw (s : State) : Prop := ∀ b : Fin 48, (s.log b.val).records.length ≤ Config.maxLog

/-- R39, R40, R41: a table holds at most 16 jobs, no two with one number, and every arrival number was given before the
counter's, and once. -/
abbrev State.TableLaw (s : State) : Prop :=
  ∀ b : Fin 48, (s.table b.val).jobs.length ≤ Config.maxJobs ∧ ((s.table b.val).jobs.map Job.number).Nodup
    ∧ ((s.table b.val).jobs.map Job.arrival).Nodup ∧ ∀ j ∈ (s.table b.val).jobs, j.arrival < (s.table b.val).counter

/-- R143: the roles and sides in force make a valid configuration. -/
def validInForce (ps : Params) : Bool :=
  let l := ps.ports.toList
  let cranes := l.filter fun q => decide (q.role = .crane)
  decide ((l.filter fun q => decide (q.role = .gantry)).length ≤ 4) && decide (cranes.length ≤ 2)
    && decide (cranes.map PortParams.side).Nodup

/-- R142, R143: P0 is PLANNING, waits for no other role, and returns by AUTO. -/
def planningAtP0 (ps : Params) : Bool :=
  decide (ps.ports[0].role = .planning) && decide (ps.ports[0].pendingRole = none) && decide (ps.ports[0].mode = .auto)

/-- R65, R143: a parameter set is valid as it stands and as it would stand once its pending values are applied, and its
reserve is at most half its rating. -/
def validParams (ps : Params) : Bool :=
  validInForce ps && validSet ps && planningAtP0 ps && decide (ps.reserve ≤ ps.rating / 2)

/-- R174: the configuration an image holds is valid. -/
def validImage : ImageStore → Bool
  | .good image => validParams image.params
  | .bad => true
  | .writing copy => validParams copy.params

/-- R5, R6, R11: a filled entry lies within the hall and holds at most 16 records; a KEEPOUT has no capacity and no rights; only a
BED has the BIND right. -/
def validZone (d : ZoneDesc) : Bool :=
  decide (d.kind = .none) || (d.rect.within hallRect && decide (d.capacity ≤ Config.maxCapacity)
    && (decide (d.kind = .bed) || !d.bind)
    && (decide (d.kind ≠ .keepout) || (decide (d.capacity = 0) && !d.bind && !d.lift && !d.place && !d.pass)))

/-- R6: the entries of a zone table are valid, and at most 8 of them are BED. -/
def validZones (l : List ZoneDesc) : Bool :=
  l.all validZone && decide (l.countP (fun d => decide (d.kind = .bed)) ≤ Config.maxBeds)

/-- R6: the zone table is valid, and so is the one of an image that is stored or being written. -/
abbrev State.ZoneLaw (s : State) : Prop :=
  validZones (s.zones.toList.map Zone.desc) = true
    ∧ (match s.image with
      | .good image | .writing image => validZones image.zones.toList
      | .bad => true) = true

/-- R143: every configuration the part holds is valid: in force, pending, and stored. -/
abbrev State.ConfigLaw (s : State) : Prop := validParams s.params = true ∧ validImage s.image = true

end Sys2Proof.Machine
end

