-- ==== Sys2Proof/Certificates/Slice0/Obligations.lean ====
section
/-! DEFINITION. The statements for the provers. Each docstring names the rules its statement formalises. -/

open Sys2Proof Sys2Proof.Machine

/-! ## The machine -/

/-- The command at the front of the queue is executed with the queue's rest (log 1). -/
def Obligations.StepExecutesFrontCommand : Prop :=
  ∀ (c : Instr) (rest : List Instr) (s : State),
    step { s with pending := c :: rest } = exec c { s with pending := rest }

/-- Log 3, the model's choice: with no command waiting and no reset held, one ms passes for every running timer, nothing else
changes, and what is due enters the queue: the frames that can be taken (R161), then the expiry of each timer that is at its
last ms (R147, R77, R78, R56, R122, R68). A held part lets no time pass; a RESTART begins and is released at once (R176). -/
def Obligations.IdleStepIsOneMillisecond : Prop :=
  ∀ s : State, s.pending = [] →
    let down (t : Option Nat) : Option Nat := t.map (· - 1)
    let ends (t : Option Nat) : Bool := t = some 0 ∨ t = some 1
    (s.held = true → step s = .next { s with pending :=
      if s.restart = .due then [.restartResetBegin]
      else if s.hold.active.restart = true then [.resetRelease .restart] else [] })
    ∧ (s.held = false → step s = .next { s with
      pending :=
        (allPorts.filter fun p => (s.link p).slot = none ∧ (s.link p).buffer ≠ []).map .frameTake
        ++ (allPorts.filter fun p => (s.port p).timer.any fun k => k.expiry ≤ k.elapsed + 1).map .keepaliveTimerExpiry
        ++ (allPorts.filter fun p => ends (s.torch p).establish).map .establishTimerExpiry
        ++ (allPorts.filter fun p => ends (s.torch p).wait).map .waitTimerExpiry
        ++ (List.range 48).flatMap (fun b =>
            ((s.table b).jobs.filter fun j => ends j.timer).map fun j => .overdueTimerExpiry b j.number)
        ++ (s.records.filter fun r => r.hold.any fun h => h.left ≤ 1).map (fun r => .holdTimerExpiry r.id)
        ++ if ends s.feeder.staleTimer = true then [.stalenessTimerExpiry] else []
      ports := s.ports.map fun r => { r with
        timer := r.timer.map fun k => { k with elapsed := min (k.elapsed + 1) k.expiry } }
      torches := s.torches.map fun t => { t with establish := down t.establish, wait := down t.wait }
      tables := s.tables.map fun t => { t with jobs := t.jobs.map fun j => { j with timer := down j.timer } }
      records := s.records.map fun r => { r with hold := r.hold.map fun h => { h with left := h.left - 1 } }
      feeder := { s.feeder with staleTimer := down s.feeder.staleTimer } })

/-- R156, R140, R176: when a permit line and ALERT are high, and when the part is held: under a hold of any kind, and from the
last byte of the reply to an accepted RESTART (log 17). A held part takes no frame, no reading and no expiry. -/
def Obligations.HeldPartDoesNothing : Prop :=
  ∀ s : State,
    (∀ p, s.permitLine p = true ↔
      s.held = false ∧ p ≠ 0 ∧ (s.port p).state = .online ∧ s.hallStop = none
      ∧ ((s.role p = .gantry ∧ ((s.torch p).state = .starting ∨ (s.torch p).state = .burning))
        ∨ (s.role p = .crane ∧ (s.crane p).span ≠ none)))
    ∧ (s.alertLine = true ↔ s.held = false ∧ s.alerts ≠ [])
    ∧ (s.held = true ↔ s.restart = .due ∨ s.hold.active ≠ ⟨false, false, false, false⟩)
    ∧ ∀ i : Instr, s.held = true →
        (∀ k, i ≠ .resetHold k) → i ≠ .restartResetBegin → i ≠ .powerStartUp → (∀ k, i ≠ .resetRelease k) →
        exec i s = .next s

/-- The frame of every command, piece by piece: what `mayChange` does not name stays as it was. A request that finds a
frame ahead of it, or a reply not yet sent, waits or is lost, and only its port's link and counters change (log 2). -/
def Obligations.CommandsKeepTheirFrames : Prop :=
  ∀ (i : Instr) (s t : State), exec i s = .next t → (∀ p tag, requestOf i = some (p, tag) → s.listens p) →
    t.pending = s.pending
    ∧ (.zones ∉ mayChange i → t.zones = s.zones) ∧ (.bindings ∉ mayChange i → t.bindings = s.bindings)
    ∧ (.records ∉ mayChange i → t.records = s.records) ∧ (.tables ∉ mayChange i → t.tables = s.tables)
    ∧ (.logs ∉ mayChange i → t.logs = s.logs) ∧ (.torches ∉ mayChange i → t.torches = s.torches)
    ∧ (.startQueue ∉ mayChange i → t.startQueue = s.startQueue) ∧ (.committed ∉ mayChange i → t.committed = s.committed)
    ∧ (.feeder ∉ mayChange i → t.feeder = s.feeder) ∧ (.cranes ∉ mayChange i → t.cranes = s.cranes)
    ∧ (.ports ∉ mayChange i → t.ports = s.ports) ∧ (.hallStop ∉ mayChange i → t.hallStop = s.hallStop)
    ∧ (.links ∉ mayChange i → t.links = s.links) ∧ (.alerts ∉ mayChange i → t.alerts = s.alerts)
    ∧ (.overflow ∉ mayChange i → t.overflow = s.overflow) ∧ (.params ∉ mayChange i → t.params = s.params)
    ∧ (.image ∉ mayChange i → t.image = s.image) ∧ (.causes ∉ mayChange i → t.causes = s.causes)
    ∧ (.hold ∉ mayChange i → t.hold = s.hold) ∧ (.restart ∉ mayChange i → t.restart = s.restart)

/-! ## Frames on the links -/

/-- The frame that carries a well-formed request decodes to it, every operand at every value its layout admits (R162,
R169). The layouts that section 9.9 does not give are the model's choice, log 7. -/
def Obligations.FrameOfRequestDecodesToIt : Prop :=
  ∀ (i : Instr) (p : Port) (tag : Byte), requestOf i = some (p, tag) → i.wellFormed = true →
    decodeFrame p (frameOf i) = .request i

/-- R162: a frame decodes to a request only with that request's kind byte, its own tag and port, and a body of the length
the request's layout requires; CODE answers exactly the kinds that section 9.6 assigns to no request. -/
def Obligations.DecodedFramesHaveTheirKindTagAndLength : Prop :=
  ∀ (p : Port) (f : Frame),
    (∀ i : Instr, decodeFrame p f = .request i →
      requestOf i = some (p, f.tag) ∧ (frameOf i).kind = f.kind ∧ (frameOf i).body.length = f.body.length)
    ∧ (decodeFrame p f = .code ↔ f.kind.toNat ∉ requestCodes)

/-- A few words of the encoding, written out from sections 9.6 and 9.9 (R160, R169), among them a ZONE-SET with the bits it ignores
set; the check value of R160; and the two sizes R169 gives for the largest bodies. The model's choices: the bodies of ARC-START
and LIFT and what stands around and is ignored in the record of JOB-ADD (log 7), the ignored offsets of a hook registration
(log 24), and the layout around the records in the two sizes (log 9). -/
def Obligations.SampleFramesDecode : Prop :=
  decodeFrame 2 ⟨0x40, 0x07, [0x01, 0x0B]⟩ = .request (.arcStart 2 0x07 267)
  ∧ decodeFrame 4 ⟨0x52, 0x09, [0x00, 0x00, 0x13, 0x8A, 0x04]⟩ = .request (.lift 4 0x09 5002 4)
  ∧ decodeFrame 0 ⟨0x11, 0x01, [0x06, 0x01, 0x00, 0x00, 0x9C, 0x40, 0x07, 0xD0, 0x00, 0x28, 0x00, 0x96, 0x90, 0x02,
      0x00]⟩ = .request (.zoneSet 0 0x01 ⟨6, some .bed, 40000, 2000, 40, 150, true, 2, true, false, false, false⟩)
  ∧ decodeFrame 0 ⟨0x11, 0x01, [0x06, 0x01, 0x00, 0x00, 0x9C, 0x40, 0x07, 0xD0, 0x00, 0x28, 0x00, 0x96, 0xF0, 0x02,
      0x00]⟩ = .request (.zoneSet 0 0x01 ⟨6, some .bed, 40000, 2000, 40, 150, true, 2, true, false, false, false⟩)
  ∧ decodeFrame 0 ⟨0x30, 0x05, [0x04, 0x00, 0x02, 0xF3, 0x00, 0x00, 0x23, 0x29, 0x00, 0x04, 0xB0, 0x01, 0x04, 0xFF, 0xFF,
      0xFF, 0xFF, 0x03, 0x09, 0x02, 0x00, 0x01, 0x00, 0x03]⟩ =
      .request (.jobAdd 0 0x05 ⟨4, 2, some .cut, 9001, [1, 3], 260, 0, 1200⟩)
  ∧ decodeFrame 0 ⟨0x20, 0x05, [0x00, 0x00, 0x23, 0x8D, 0x90, 0x0C, 0x14, 0x0D, 0xAC, 0x0B, 0xB8, 0x04, 0x00, 0x00, 0x25,
      0x1C, 0x01, 0xF4, 0x00, 0x00, 0x23, 0x29, 0x00]⟩ = .request (.plateRegisterOnHook 0 0x05
        ⟨9101, some .remnant, 12, 20, 3500, 3000, some .whole, some .deg0, 9001, false, []⟩ 4)
  ∧ decodeFrame 0 ⟨0x11, 0x01, [0x06]⟩ = .format
  ∧ decodeFrame 0 ⟨0x80, 0x01, []⟩ = .code
  ∧ crc16 [0x31, 0x32, 0x33, 0x34, 0x35, 0x36, 0x37, 0x38, 0x39] = 0x29B1
  ∧ (∀ r : PlateReport, r.entries.length = 12 → ∀ tag st lost, (Reply.mk tag st lost (.plate r)).frame.body.length = 172)
  ∧ (∀ r : JobListReport, r.jobs.length = 4 → (∀ j ∈ r.jobs, j.parts.length = 8) →
      ∀ tag st lost, (Reply.mk tag st lost (.jobs r)).frame.body.length = 155)

/-- R160, R161, R157: the bytes of a frame, met by a hunting receiver with their stop bits and no gap, are received as that
frame, which is offered to the receive buffer. A hunting receiver skips every other byte uncounted. In each of the four cases
of R160 the frame is discarded and counted once, and the receiver hunts, or collects anew where the byte after a gap is a start
byte with its stop bit. A gap is met with the byte that ends it, the model's choice, log 23. -/
def Obligations.FramesAreReceivedOrCounted : Prop :=
  ∀ (s : State) (p : Port), s.held = false →
    let counted := s.setPort p { s.port p with frameErrors := min 65535 ((s.port p).frameErrors + 1) }
    ((s.link p).receiver = .hunting →
      (∀ f : Frame, f.body.length ≤ 200 → exec (.frameReceived p (clean (frameBytes f))) s = .next (State.settle (
        if (s.link p).buffer.length < 2 then s.setLink p { s.link p with buffer := (s.link p).buffer ++ [f] }
        else counted)))
      ∧ (∀ len : Byte, 200 < len.toNat → exec (.frameReceived p (clean [0xA5, len])) s = .next counted.settle)
      ∧ (∀ (f : Frame) (crc : List Byte), f.body.length ≤ 200 → crc.length = 2 →
          crc ≠ crcBytes (byteOf f.body.length :: f.kind :: f.tag :: f.body) →
          exec (.frameReceived p (clean (0xA5#8 :: byteOf f.body.length :: f.kind :: f.tag :: f.body ++ crc))) s =
            .next counted.settle)
      ∧ (∀ b : LineByte, b.value ≠ 0xA5#8 ∨ b.stop = false → exec (.frameReceived p [b]) s = .next s.settle))
    ∧ (∀ (got : List Byte) (b : Byte), (s.link p).receiver = .collecting got →
        (∀ gap, exec (.frameReceived p [⟨b, false, gap⟩]) s =
          .next (State.settle (counted.setLink p { s.link p with receiver := .hunting })))
        ∧ exec (.frameReceived p [⟨b, true, true⟩]) s =
          .next (State.settle (counted.setLink p { s.link p with
            receiver := if b = 0xA5#8 then .collecting [] else .hunting })))

/-- R161, R162: with an empty reply slot the oldest frame leaves the buffer; whatever request it decodes to is served, its ignored
bits and fields set or not, so the frame of a well-formed request brings that request; and a frame that does not decode is
answered CODE or FORMAT. -/
def Obligations.FrameTakeServesOldestFrame : Prop :=
  ∀ (s : State) (p : Port) (f : Frame) (rest : List Frame),
    s.held = false → (s.link p).slot = none → (s.link p).buffer = f :: rest →
    let taken := s.setLink p { s.link p with buffer := rest }
    (∀ i : Instr, decodeFrame p f = .request i → exec (.frameTake p) s = .next (serve i taken).settle)
    ∧ (∀ (i : Instr) (tag : Byte), requestOf i = some (p, tag) → i.wellFormed = true → f = frameOf i →
      exec (.frameTake p) s = .next (serve i taken).settle)
    ∧ (f.kind.toNat ∉ requestCodes → exec (.frameTake p) s = .next (taken.answered p f.tag .code .nothing))
    ∧ (decodeFrame p f = .format → exec (.frameTake p) s = .next (taken.answered p f.tag .format .nothing))

/-- Log 2, the model's choice of what a request command is: its frame arrives whole, is taken at once when nothing stands
ahead of it, and otherwise joins the receive buffer or finds it full (R161). -/
def Obligations.RequestIsTakenWaitsOrIsLost : Prop :=
  ∀ (i : Instr) (p : Port) (tag : Byte) (s : State), requestOf i = some (p, tag) → s.held = false →
    exec i s = .next (State.settle (
      if (s.link p).slot = none ∧ (s.link p).buffer = [] then serve i s
      else if (s.link p).buffer.length < 2 then
        s.setLink p { s.link p with buffer := (s.link p).buffer ++ [frameOf i] }
      else s.setPort p { s.port p with frameErrors := min 65535 ((s.port p).frameErrors + 1) }))

/-- R161, R162, R164 and section 9.7: a taken request gets exactly one reply, with its tag; the reply carries the
notices-lost flag as it stood or as the request itself set it, and the flag is clear after it, but for a notice that the lapse
after an EARLY loses (R148). A status of the refusal class means that the request changed no state. The reply's frame has kind
0x80 and the request's tag, and its body opens with the status's value of section 9.7 and the header flags; in a QUEUED reply
R167's reason byte follows. -/
def Obligations.TakenRequestGetsOneReply : Prop :=
  ∀ (i : Instr) (p : Port) (tag : Byte) (s : State), requestOf i = some (p, tag) → s.listens p →
    ∃ t r, exec i s = .next t ∧ (t.link p).slot = some r ∧ r.tag = tag
      ∧ (r.status ≠ .early → (t.link p).lost = false)
      ∧ (t.link p).buffer = [] ∧ ((s.link p).lost = true → r.noticesLost = true)
      ∧ (r.status.isRefusal = true → t = s.answered p tag r.status r.data)
      ∧ r.frame.kind = 0x80 ∧ r.frame.tag = tag
      ∧ (∃ v : Byte, (r.status, v) ∈ [(Status.ok, 0x00#8), (.clamped, 0x01#8), (.pending, 0x02#8), (.granted, 0x03#8),
            (.queued, 0x04#8), (.none, 0x05#8), (.late, 0x06#8), (.early, 0x07#8), (.nullZone, 0x10#8), (.range, 0x11#8),
            (.full, 0x12#8), (.duplicate, 0x13#8), (.unknownId, 0x14#8), (.state, 0x15#8), (.busy, 0x16#8), (.locked, 0x17#8),
            (.reserved, 0x18#8), (.absent, 0x19#8), (.rights, 0x1A#8), (.fit, 0x1B#8), (.overlap, 0x1C#8), (.occupied, 0x1D#8),
            (.hot, 0x1E#8), (.pass, 0x1F#8), (.span, 0x20#8), (.disjoint, 0x21#8), (.conflict, 0x22#8), (.corridor, 0x23#8),
            (.unbound, 0x24#8), (.stale, 0x25#8), (.takenElsewhere, 0x26#8), (.order, 0x27#8), (.halt, 0x28#8),
            (.small, 0x29#8), (.role, 0x2A#8), (.offline, 0x2B#8), (.already, 0x2C#8), (.barred, 0x2D#8), (.code, 0x2E#8),
            (.format, 0x2F#8)]
          ∧ (r.status.isRefusal = true ↔ 0x10 ≤ v.toNat)
          ∧ r.frame.body = v :: (if r.noticesLost = true then 1 else 0) :: r.data.bytes)
      ∧ ∀ (reason : QueueReason) (place q c : Nat), r.data = .queued reason place q c →
          ∃ k : Byte, (reason, k) ∈ [(QueueReason.budget, 1#8), (.corridor, 2#8), (.sag, 3#8), (.staleFeeder, 4#8)]
            ∧ r.frame.body[2]? = some k

/-- R145: a request not allowed to the port's role is refused with ROLE; one from a port that is not ONLINE, but for the
five exempt requests, with OFFLINE. -/
def Obligations.AdmissionTestsComeFirst : Prop :=
  ∀ (i : Instr) (p : Port) (tag : Byte) (s : State), requestOf i = some (p, tag) → s.listens p →
    (s.role p ∉ allowedRoles i → exec i s = .next (s.answered p tag .role .nothing))
    ∧ (s.role p ∈ allowedRoles i → (s.port p).state ≠ .online → heardOffline i = false →
        exec i s = .next (s.answered p tag .offline .nothing))

/-- R161, R163, R176: at the end of a frame its reply leaves the slot or its notice the queue; the end of the reply to an
accepted RESTART makes its reset due. R163: what an idle transmitter sends next; one that is sending goes on.
That it chooses at the step's end (log 6) and that the end of no frame does nothing (log 5) are the model's choices. -/
def Obligations.TransmitterAlternates : Prop :=
  ∀ (s : State) (p : Port),
    let l := s.link p
    s.settle.link p = { l with sending :=
      if l.sending ≠ .idle then l.sending
      else if l.slot = none ∧ l.notices = [] then .idle
      else if l.notices = [] then .reply
      else if l.slot = none then .notice
      else if l.lastSent = .notice then .reply else .notice }
    ∧ (s.held = false →
      (l.sending = .reply →
        exec (.frameSent p) s = .next (State.settle { s.setLink p { l with
            slot := none, sending := .idle, lastSent := .reply } with
          restart := if p = 0 ∧ s.restart = .replying then .due else s.restart }))
      ∧ (l.sending = .notice →
        exec (.frameSent p) s = .next (State.settle (s.setLink p { l with
            notices := l.notices.drop 1, sending := .idle, lastSent := .notice })))
      ∧ (l.sending = .idle → exec (.frameSent p) s = .next s.settle))

/-- R164: an offered notice joins the newest end of a queue below 8 and is otherwise dropped with the notices-lost flag set; the
building of a reply copies the flag and clears it; a notice's frame has kind 0x81, tag 0, and a body of its code and its fields,
with the codes of section 9.8, R167 and R168, R168's 12 further bytes, and the widths of R169. R137: a raise appends and tells P0,
finds its entry present, or is counted. One byte for a notice's bed, zone or crane port and for the entries of ALERT, and the
widths within the 12 further bytes of CRANE_MOVE, are the model's choice, log 9. -/
def Obligations.NoticeOffersAndRaises : Prop :=
  (∀ (s : State) (p : Port) (n : Notice),
    s.notify p n = s.setLink p (if (s.link p).notices.length < 8 then
      { s.link p with notices := (s.link p).notices ++ [n] } else { s.link p with lost := true }))
  ∧ (∀ (s : State) (p : Port) (tag : Byte) (a : Answer),
    s.reply p tag a = s.setLink p { s.link p with slot := some ⟨tag, a.status, (s.link p).lost, a.data⟩, lost := false })
  ∧ (∀ b n v : Nat,
    (Notice.grant b n v).frame = ⟨0x81, 0, [0x01, byteOf b] ++ bytes16 n ++ bytes16 v⟩
    ∧ (Notice.shed b n).frame = ⟨0x81, 0, [0x02, byteOf b] ++ bytes16 n⟩
    ∧ (Notice.startFailed b n).frame = ⟨0x81, 0, [0x03, byteOf b] ++ bytes16 n⟩
    ∧ (Notice.startTimeout b n).frame = ⟨0x81, 0, [0x04, byteOf b] ++ bytes16 n⟩
    ∧ (Notice.halted b n).frame = ⟨0x81, 0, [0x05, byteOf b] ++ bytes16 n⟩
    ∧ (Notice.jobWithdrawn b n).frame = ⟨0x81, 0, [0x06, byteOf b] ++ bytes16 n⟩
    ∧ (Notice.bedStale b).frame = ⟨0x81, 0, [0x07, byteOf b]⟩
    ∧ (Notice.reserveExpired n).frame = ⟨0x81, 0, [0x09] ++ bytes32 n⟩
    ∧ Notice.stored.frame = ⟨0x81, 0, [0x0B]⟩
    ∧ (∀ (c : AlertCode) (k : Byte), (c, k) ∈ [(AlertCode.feederSag, 1#8), (.feederStale, 2#8), (.arcShed, 3#8),
          (.startFail, 4#8), (.portLapsed, 5#8), (.hallStopped, 6#8), (.jobOverdue, 7#8), (.logHigh, 8#8), (.logLost, 9#8),
          (.configDefaulted, 10#8), (.storeFailed, 11#8)] →
        (Notice.alert c b n).frame = ⟨0x81, 0, [0x0A, k, byteOf b, byteOf n]⟩)
    ∧ ∀ (q : Port) (act : CraneAction) (k : Byte), (act, k) ∈ [(CraneAction.lifted, 1#8), (.retargeted, 2#8),
          (.setDown, 3#8), (.scrapped, 4#8), (.aborted, 5#8)] →
        let moved (d : MoveData) (more : List Byte) : Prop := (Notice.craneMove q act n b d).frame =
          ⟨0x81, 0, [0x08, byteOf q.val, k] ++ bytes32 n ++ [byteOf b] ++ more⟩
        (∀ r : Rect, moved (.corridor r) (bytes32 r.x ++ bytes16 r.y ++ bytes32 r.w ++ bytes16 r.h))
        ∧ (∀ (x y : Nat) (t : Turn), moved (.place x y t)
            (bytes32 x ++ bytes16 y ++ [match t with | .deg0 => 0#8 | .deg90 => 1#8] ++ [0, 0, 0, 0, 0]))
        ∧ moved .nothing [0, 0, 0, 0, 0, 0, 0, 0, 0, 0, 0, 0])
  ∧ ∀ (s : State) (c : AlertCode) (subject : Nat),
    s.raise c subject =
      if ⟨c, subject⟩ ∈ s.alerts then s
      else if s.alerts.length < 8 then
        State.notify 0 (.alert c subject (s.alerts.length + 1)) { s with alerts := s.alerts ++ [⟨c, subject⟩] }
      else { s with overflow := min 255 (s.overflow + 1) }

/-! ## Resets and start-up -/

/-- R178: a power-on with a BAD image ends, whatever the state was, in the state the model calls reset (its choice, log 15), and one
with a GOOD image in the same state with the image's configuration and an empty alert list. That an image the last store left GOOD
passes the check of start-up step 2 is the model's choice, log 33. -/
def Obligations.PowerOnValues : Prop :=
  ∀ s : State, s.hold.active = ⟨true, false, false, false⟩ → s.hold.occurred.power = true →
    ((s.image = .bad ∨ ∃ copy, s.image = .writing copy) →
      exec .powerStartUp s = .next { State.reset with pending := s.pending })
    ∧ (∀ image, s.image = .good image →
      exec .powerStartUp s = .next { State.reset with
        zones := image.zones.map (fun d => ⟨d, false⟩), params := image.params, image := .good image, alerts := [],
        links := Vector.replicate 6 .afterReset, pending := s.pending })

/-- R179 with R20, R38, R59, R84, R110, R126, R141, R159, R166: the release from a LINE, RESTART or SUPPLY reset: the end of the
last hold, or the RESTART that is released at once (R176). QUEUED and HELD jobs stay as they are; TAKEN and lit ones become HELD,
or leave with a CANCELLED record where a cancel was pending. The model's choices: the order of the links
and the beds (log 13), the counter of a table that the reset itself empties back at 1 (log 14), and the begin and release of a
RESTART as one step (log 17). -/
def Obligations.ReleaseValues : Prop :=
  ∀ (s : State) (c : Instr) (occurred : Causes),
    (∃ k, k ≠ .power ∧ c = .resetRelease k ∧ s.hold.active = Causes.clear.put k true ∧ occurred = s.hold.occurred)
      ∨ (c = .restartResetBegin ∧ s.restart = .due ∧ s.hold.active = .clear
        ∧ occurred = { s.hold.occurred with restart := true }) →
    occurred.power = false →
    let idle : Prop := ∀ p, (s.crane p).span = none ∧ (s.crane p).hook = none
    let gone (j : Job) : Bool := j.state.lit && j.cancelPending
    ∃ t, exec c s = .next t
      ∧ t.causes = ⟨s.causes.power, s.causes.line || occurred.line, s.causes.restart || occurred.restart,
          s.causes.supply || occurred.supply⟩
      ∧ t.hold = .released ∧ t.restart = .none ∧ t.pending = s.pending
      ∧ t.zones = s.zones ∧ t.bindings = Vector.replicate 6 .unbound
      ∧ t.records = s.records.map (fun r => { r with hold := none })
      ∧ (s.TableLaw → ∀ b < 48, t.table b =
          ⟨((s.table b).jobs.filter fun j => !gone j).map fun j =>
              if j.state = .queued ∨ j.state = .held then j else { j with state := .held, taker := none, timer := none },
            if (s.table b).jobs ≠ [] ∧ (s.table b).jobs.all gone = true then 1 else (s.table b).counter⟩)
      ∧ (s.LogLaw → ∀ b < 48, t.log b =
          let all := (s.log b).records ++ ((s.table b).jobs.filter gone).map fun j =>
            ⟨j.number, j.kind, j.plate, j.parts, .cancelled, j.overdue, j.drops, j.current⟩
          ⟨all.take 16, (s.log b).lost || decide (16 < all.length)⟩)
      ∧ t.torches = Vector.replicate 6 .idle ∧ t.startQueue = [] ∧ t.committed = 0
      ∧ t.feeder = ⟨0, 0, true, false, some 500, 0, .hunting⟩
      ∧ (¬ idle → t.cranes = s.cranes ∧ t.params = s.params.rateApplied)
      ∧ (idle → t.cranes = Vector.replicate 6 .powerOn ∧ t.params = s.params.rateApplied.rolesApplied)
      ∧ t.ports = Vector.replicate 6 ⟨.silent, none, 0, 0⟩ ∧ t.hallStop = s.hallStop
      ∧ (∀ image, s.image = .good image → t.image = s.image) ∧ (s.image = .bad → t.image = .bad)
      ∧ (∀ copy, s.image = .writing copy →
          t.image = .bad ∧ (⟨.storeFailed, 0⟩ ∈ t.alerts ∨ 8 ≤ t.alerts.length))
      ∧ (∀ p, t.permitLine p = false) ∧ (t.alertLine = true ↔ t.alerts ≠ [])
      ∧ (s.overflow ≤ 255 → s.overflow ≤ t.overflow)
      ∧ ((∀ b < 48, (s.table b).jobs.any gone = false) → (∀ copy, s.image ≠ .writing copy) →
          t.alerts = s.alerts ∧ t.overflow = s.overflow)
      ∧ (∀ p, p ≠ 0 → t.link p = ⟨.hunting, [], none, [], false, .idle, .notice⟩)
      ∧ ∃ raised : List Alert, t.alerts = s.alerts ++ raised
          ∧ t.link 0 = ⟨.hunting, [], none, raised.mapIdx fun i a => .alert a.code a.subject (s.alerts.length + i + 1), false,
              if raised = [] then .idle else .notice, .notice⟩

/-- R176: a reset begins to be held; the last hold to end releases the part, and a POWER hold among those that occurred decides
the values. The RESTART whose reply has gone is held from then: a hold that begins in that step outlasts it, and it has
occurred. POWER_START_UP ends a POWER hold, and a SUPPLY hold beside it. The model's choices: that step (log 17), the SUPPLY hold
and the release of a kind not held (log 16), a RESTART not due and a POWER_START_UP without its hold (log 5). -/
def Obligations.HoldsBeginAndEnd : Prop :=
  ∀ s : State,
    let taken : State := if s.restart = .due then
      { s with restart := .none, hold := ⟨s.hold.active, { s.hold.occurred with restart := true }⟩ } else s
    (∀ k, k ≠ .restart → exec (.resetHold k) s =
      .next { taken with hold := ⟨s.hold.active.put k true, taken.hold.occurred.put k true⟩ })
    ∧ exec (.resetHold .restart) s = .next (if s.restart = .due then
        { taken with hold := ⟨{ s.hold.active with restart := true }, taken.hold.occurred⟩ } else s)
    ∧ (s.restart ≠ .due → exec .restartResetBegin s = .next s)
    ∧ (s.restart = .due → s.hold.active.any = true → exec .restartResetBegin s = .next taken)
    ∧ (∀ k, s.hold.active.has k = true → (s.hold.active.put k false).any = true →
        exec (.resetRelease k) s = .next { s with hold := { s.hold with active := s.hold.active.put k false } })
    ∧ (∀ k, s.hold.active.has k = true → (s.hold.active.put k false).any = false → s.hold.occurred.power = true →
        exec (.resetRelease k) s = exec .powerStartUp { s with hold := ⟨⟨true, false, false, false⟩, s.hold.occurred⟩ })
    ∧ (∀ k, s.hold.active.has k = false → exec (.resetRelease k) s = .next s)
    ∧ (s.hold.active.power = false → exec .powerStartUp s = .next s)
    ∧ (s.hold.active.power = true → s.hold.active.line = true ∨ s.hold.active.restart = true →
        exec .powerStartUp s =
          .next { s with hold := { s.hold with active := { s.hold.active with power := false, supply := false } } })
    ∧ (s.hold.active = ⟨true, false, false, true⟩ →
        exec .powerStartUp s = exec .powerStartUp { s with hold := ⟨⟨true, false, false, false⟩, s.hold.occurred⟩ })

/-! ## The laws every step keeps -/

/-- Every law holds of the reset state. -/
def Obligations.LawsHoldAtReset : Prop :=
  State.reset.AlertLaw ∧ State.reset.LinkLaw ∧ State.reset.LoadLaw ∧ State.reset.NumberLaw ∧ State.reset.QueueLaw
  ∧ State.reset.PermitLaw ∧ State.reset.RegisterLaw ∧ State.reset.CapacityLaw ∧ State.reset.HookLaw
  ∧ State.reset.RunwayLaw ∧ State.reset.LogLaw ∧ State.reset.TableLaw ∧ State.reset.ConfigLaw
  ∧ State.reset.ArcLaw ∧ State.reset.ClearLaw ∧ State.reset.FloorLaw ∧ State.reset.ZoneLaw

/-- R136 and R128: the alert list and the completion logs keep their bounds, and no alert stands twice. -/
def Obligations.StepKeepsAlertAndLogLaws : Prop :=
  ∀ s t : State, s.AlertLaw → s.LogLaw → step s = .next t → t.AlertLaw ∧ t.LogLaw

/-- R161, R163, R164: the links keep their bounds, and no transmitter idles while something waits. -/
def Obligations.StepKeepsLinkLaw : Prop := ∀ s t : State, s.LinkLaw → step s = .next t → t.LinkLaw

/-- R63: committed load always equals the sum of the loads. -/
def Obligations.StepKeepsLoadLaw : Prop := ∀ s t : State, s.LoadLaw → step s = .next t → t.LoadLaw

/-- R72: a torch stands in the queue exactly while it is WAITING. R62: the numbers of the lit torches are 1 to n, each used
once. -/
def Obligations.StepKeepsQueueAndNumberLaws : Prop :=
  ∀ s t : State, s.QueueLaw → step s = .next t → t.QueueLaw ∧ (s.NumberLaw → t.NumberLaw)

/-- R156: a torch cannot be lit while its port is not ONLINE or while the latch is set. -/
def Obligations.StepKeepsPermitLaw : Prop :=
  ∀ s t : State, s.QueueLaw → s.PermitLaw → step s = .next t → t.PermitLaw

/-- R21: at most 128 records, each under its own id. R6: the resting count of a zone never exceeds its capacity. R27, R28: every
resting record lies within its zone, and no two that rest in one zone intersect, but for a remnant on its own SKELETON parent.
R6, R11: at most 8 entries are BED, and every filled entry is valid, in the table and in the stored image. -/
def Obligations.StepKeepsRegisterAndCapacityLaws : Prop :=
  ∀ s t : State, step s = .next t →
    (s.RegisterLaw → t.RegisterLaw ∧ (s.CapacityLaw → t.CapacityLaw) ∧ (s.HookLaw → s.FloorLaw → t.FloorLaw))
    ∧ (s.ZoneLaw → t.ZoneLaw)

/-- R86: hooks and the locations of the records agree, a FREE hook has no corridor, target or target list, and a LOADED one a
span that holds its corridor. R72, R93: no hot bed intersects an active corridor. -/
def Obligations.StepKeepsHookLaw : Prop :=
  ∀ s t : State, s.RegisterLaw → s.HookLaw → step s = .next t →
    t.HookLaw ∧ (s.TableLaw → s.QueueLaw → s.ArcLaw → s.ClearLaw → t.ClearLaw)

/-- R87: the WEST span stays below the EAST span. -/
def Obligations.StepKeepsRunwayLaw : Prop :=
  ∀ s t : State, s.ConfigLaw → s.RunwayLaw → step s = .next t → t.RunwayLaw

/-- R39, R40, R41: the job tables keep their bounds, their numbers and their arrival numbers. R43, R49: a port holds at most one
job, in the table of its bound bed, and a torch that waits or is lit serves it. -/
def Obligations.StepKeepsTableLaw : Prop :=
  ∀ s t : State, s.TableLaw → step s = .next t → t.TableLaw ∧ (s.QueueLaw → s.ArcLaw → t.ArcLaw)

/-- R65, R142, R143: the configuration stays valid: in force, pending and stored. -/
def Obligations.StepKeepsConfigLaw : Prop := ∀ s t : State, s.ConfigLaw → step s = .next t → t.ConfigLaw

/-! ## The floor (chapter 1) -/

/-- R1: intersection is symmetric, every rectangle of positive extents meets itself, and rectangles that only touch do not
meet. R2: the enclosing rectangle holds both, and lies in every rectangle that holds both. R3: a rectangle of the record
frame that lies within the record is placed, at either turn, by the table of R3, within the record's footprint. R4: the columns
of a rectangle; rectangles that share a position in X share a column, and those of a rectangle within the hall end at 124. -/
def Obligations.FloorArithmetic : Prop :=
  (∀ a b c : Rect,
    a.intersects b = b.intersects a
    ∧ (0 < a.w → 0 < a.h → a.intersects a = true)
    ∧ (a.x + a.w ≤ b.x ∨ a.y + a.h ≤ b.y → a.intersects b = false)
    ∧ a.within (a.enclose b) = true ∧ b.within (a.enclose b) = true
    ∧ (a.within c = true → b.within c = true → (a.enclose b).within c = true)
    ∧ (a.enclose b).enclose c = a.enclose (b.enclose c)
    ∧ (a.intersects b = true → columnsShare a.columns b.columns = true)
    ∧ (0 < a.w → a.within hallRect = true → a.columns.1 ≤ a.columns.2 ∧ a.columns.2 ≤ 124)
    ∧ a.columns = (a.x / 2000, (a.x + a.w - 1) / 2000))
  ∧ (∀ (len wd ox oy u0 v0 u1 v1 : Nat) (t : Turn), u0 < u1 → u1 ≤ len → v0 < v1 → v1 ≤ wd →
      (placeRect wd ox oy t u0 v0 u1 v1).within (footprint len wd ox oy t) = true
      ∧ placeRect wd ox oy t u0 v0 u1 v1 = (match t with
        | .deg0 => ⟨ox + u0, oy + v0, u1 - u0, v1 - v0⟩
        | .deg90 => ⟨ox + wd - v1, oy + u0, v1 - v0, u1 - u0⟩))
  ∧ (∀ len wd ox oy x y : Nat,
    (footprint len wd ox oy .deg0).moved x y = ⟨x + ox, y + oy, len, wd⟩
    ∧ (footprint len wd ox oy .deg90).moved x y = ⟨x + ox, y + oy, wd, len⟩)

/-- R11, R12: ZONE-SET, its ordered refusals and its effects. -/
def Obligations.ZoneSetWritesEntry : Prop :=
  ∀ (s : State) (p : Port) (tag : Byte) (w : ZoneWrite), s.hears p [.planning] →
    let z := w.zone
    let old := s.desc z
    let kind := w.kind.getD .none
    let new : ZoneDesc := ⟨kind, w.originX, w.originY, w.extX, w.extY, w.coarse, w.capacity, w.bind, w.lift, w.place,
      w.pass, old.kind = .none || old.inService⟩
    let makes := decide (old.kind = .bed) != decide (kind = .bed)
    exec (.zoneSet p tag w) s = .next (
      if z = 0 then s.answered p tag .nullZone .nothing
      else if 47 < z then s.answered p tag .range .nothing
      else if kind = .none then s.answered p tag .range .nothing
      else if 250000 ≤ w.originX ∨ 48000 ≤ w.originY ∨ w.extX = 0 ∨ w.extY = 0 ∨ 65535 < w.extX ∨ 65535 < w.extY
          ∨ new.rect.within hallRect = false then s.answered p tag .range .nothing
      else if 16 < w.capacity
          ∨ (kind = .keepout ∧ (w.capacity ≠ 0 ∨ w.bind = true ∨ w.lift = true ∨ w.place = true ∨ w.pass = true))
          ∨ (kind ≠ .bed ∧ w.bind = true) then s.answered p tag .range .nothing
      else if old.kind ≠ .bed ∧ kind = .bed ∧ 8 ≤ s.zones.toList.countP (fun e => e.desc.kind = .bed) then
        s.answered p tag .full .nothing
      else if old.kind = .bed ∧ s.isHot z = true then s.answered p tag .hot .nothing
      else if old.kind ≠ kind ∧ (s.restingIn z ≠ [] ∨ (s.table z).jobs ≠ [] ∨ s.targeted z = true ∨ s.bindersOf z ≠ []
          ∨ (s.log z).records ≠ []) then s.answered p tag .occupied .nothing
      else if (s.restingIn z).any (fun r => r.zoneFootprint.any fun f => !f.within new.frame) then
        s.answered p tag .fit .nothing
      else if w.capacity < s.restingCount z then s.answered p tag .occupied .nothing
      else State.answered p tag .ok (.rect new.rect) (State.staleBindings z { s with
        zones := s.zones.setIfInBounds z ⟨new, old.kind ≠ .none && (s.zone z).used⟩
        tables := if makes then s.tables.setIfInBounds z .fresh else s.tables
        logs := if makes then s.logs.setIfInBounds z .fresh else s.logs }))

/-- R19: the bindings of a zone that go STALE, and their notices; every other binding and link is left alone. -/
def Obligations.StaleBindingsAreNoticed : Prop :=
  ∀ (s : State) (z : Nat) (p : Port),
    let hit : Prop := (s.binding p).state = .bound ∧ (s.binding p).zone = z
    (hit → (s.staleBindings z).binding p = { s.binding p with state := .stale }
      ∧ (s.staleBindings z).link p = (s.link p).offer (.bedStale z))
    ∧ (¬ hit → (s.staleBindings z).binding p = s.binding p ∧ (s.staleBindings z).link p = s.link p)

/-- R13: ZONE-CLEAR, its ordered refusals and its effects. -/
def Obligations.ZoneClearEmptiesEntry : Prop :=
  ∀ (s : State) (p : Port) (tag : Byte) (z : Nat), s.hears p [.planning] →
    exec (.zoneClear p tag z) s = .next (
      if z = 0 then s.answered p tag .nullZone .nothing
      else if 47 < z then s.answered p tag .range .nothing
      else if s.restingIn z ≠ [] ∨ s.bindersOf z ≠ [] ∨ s.targeted z = true ∨ (s.table z).jobs ≠ []
          ∨ (s.log z).records ≠ [] then s.answered p tag .occupied .nothing
      else State.answered p tag .ok .nothing { s with
        zones := s.zones.setIfInBounds z ⟨⟨.none, 0, 0, 0, 0, false, 0, false, false, false, false, false⟩, false⟩
        tables := if (s.desc z).kind = .bed then s.tables.setIfInBounds z ⟨[], 1⟩ else s.tables
        logs := if (s.desc z).kind = .bed then s.logs.setIfInBounds z ⟨[], false⟩ else s.logs })

/-- R14, R15: ZONE-SERVICE and ZONE-USED-CLEAR. -/
def Obligations.ZoneFlagsAreSetAndCleared : Prop :=
  ∀ (s : State) (p : Port) (tag : Byte) (z : Nat), s.hears p [.planning] →
    let bad : Option Status :=
      if z = 0 then some .nullZone else if 47 < z ∨ (s.desc z).kind = .none then some .range else none
    let served (f : Bool) : State :=
      { s with zones := s.zones.setIfInBounds z ⟨{ s.desc z with inService := f }, (s.zone z).used⟩ }
    (∀ st, bad = some st →
      (∀ f, exec (.zoneService p tag z f) s = .next (s.answered p tag st .nothing))
      ∧ exec (.zoneUsedClear p tag z) s = .next (s.answered p tag st .nothing))
    ∧ (bad = none →
      exec (.zoneService p tag z true) s = .next ((served true).answered p tag .ok .nothing)
      ∧ exec (.zoneService p tag z false) s = .next (State.answered p tag .ok .nothing
          (if (s.desc z).inService = true then (served false).staleBindings z else served false))
      ∧ exec (.zoneUsedClear p tag z) s = .next (State.answered p tag .ok .nothing
          { s with zones := s.zones.setIfInBounds z ⟨s.desc z, false⟩ }))

/-- R17, R18: BED-BIND and BED-UNBIND. -/
def Obligations.BedsAreBoundAndUnbound : Prop :=
  ∀ (s : State) (p : Port) (tag : Byte), s.hears p [.gantry] →
    (∀ z, exec (.bedBind p tag z) s = .next (
      if z = 0 then s.answered p tag .nullZone .nothing
      else if 47 < z ∨ (s.desc z).kind ≠ .bed then s.answered p tag .range .nothing
      else if (s.desc z).inService = false then s.answered p tag .absent .nothing
      else if (s.desc z).bind = false then s.answered p tag .rights .nothing
      else if ∃ q, q ≠ p ∧ (s.binding q).state ≠ .none ∧ (s.binding q).zone = z then
        s.answered p tag .takenElsewhere .nothing
      else if s.heldJob p ≠ none ∧ (s.binding p).zone ≠ z then s.answered p tag .busy .nothing
      else State.answered p tag .ok (.snapshot z (s.desc z)) { s with
        bindings := s.bindings.set p.val ⟨.bound, z, some (s.desc z)⟩
        zones := s.zones.setIfInBounds z ⟨s.desc z, true⟩ }))
    ∧ exec (.bedUnbind p tag) s = .next (
      if (s.binding p).state = .none then s.answered p tag .unbound .nothing
      else if s.heldJob p ≠ none then s.answered p tag .busy .nothing
      else State.answered p tag .ok .nothing { s with bindings := s.bindings.set p.val ⟨.none, 0, none⟩ })

/-! ## The plate register (chapter 2) -/

/-- R29, R9: PLATE-REGISTER of a resting record, its twelve ordered refusals and the record it enters; `PlatePartsRewriteLists`
states the test of one entry (R26). The model's choices: the register is held in ascending id (log 22), and a parent id above the
largest id is refused at step 4 (log 20). -/
def Obligations.PlateRegisterRestsRecord : Prop :=
  (∀ (s : State) (r : Plate), s.RegisterLaw → ∃ before after, s.records = before ++ after
    ∧ (∀ q ∈ before, q.id < r.id) ∧ (∀ q ∈ after, r.id ≤ q.id)
    ∧ s.addRecord r = { s with records := before ++ r :: after })
  ∧ ∀ (s : State) (p : Port) (tag : Byte) (w : PlateWrite) (z ox oy : Nat), s.hears p [.planning] →
    let t := w.turn.getD .deg0
    let f := w.form.getD .whole
    let r : Plate := ⟨w.id, w.kind.getD .plate, w.grade, w.thickness, w.length, w.width, .resting z ox oy t, f,
      if w.parent = 0 then none else some w.parent, w.claim, w.parts.map partOf, none⟩
    exec (.plateRegister p tag w z ox oy) s = .next (
      if w.id = 0 ∨ 2147483647 < w.id then s.answered p tag .range .nothing
      else if s.record w.id ≠ none then s.answered p tag .duplicate .nothing
      else if 128 ≤ s.records.length then s.answered p tag .full .nothing
      else if w.kind = none ∨ w.form = none ∨ w.turn = none ∨ 63 < w.grade ∨ w.thickness < 3 ∨ 150 < w.thickness
          ∨ w.length < 100 ∨ 24000 < w.length ∨ w.width < 100 ∨ 4500 < w.width
          ∨ (w.kind = some .remnant ∧ (w.parent = 0 ∨ 2147483647 < w.parent ∨ w.parent = w.id))
          ∨ (w.kind = some .plate ∧ (w.parent ≠ 0 ∨ w.claim = true)) then s.answered p tag .range .nothing
      else if 32 < w.parts.length then s.answered p tag .full .nothing
      else if 12 < w.parts.length ∨ (∃ e ∈ w.parts, entryValid f w.length w.width e = false)
          ∨ ¬ (w.parts.map (·.number)).Nodup then s.answered p tag .range .nothing
      else if z = 0 then s.answered p tag .nullZone .nothing
      else if 47 < z then s.answered p tag .range .nothing
      else if (s.desc z).inService = false then s.answered p tag .absent .nothing
      else if (s.desc z).kind = .keepout ∨ (s.desc z).capacity ≤ s.restingCount z then s.answered p tag .full .nothing
      else if (footprint w.length w.width ox oy t).within ⟨0, 0, (s.desc z).rect.w, (s.desc z).rect.h⟩ = false then
        s.answered p tag .fit .nothing
      else if w.claim = true ∧ s.record w.parent = none then s.answered p tag .unknownId .nothing
      else if w.claim = true ∧ (s.record w.parent).any (fun q => q.form ≠ .skeleton ∨ q.restsIn z = false) = true then
        s.answered p tag .state .nothing
      else if w.claim = true ∧ (s.record w.parent).any (fun q =>
          (s.hallFootprint q).all fun g => !(s.footprintAt r z ox oy t).within g) = true then s.answered p tag .fit .nothing
      else if ∃ q ∈ s.records, q.restsIn z = true ∧ exemptPair r q = false
          ∧ (s.hallFootprint q).any (fun g => g.intersects (s.footprintAt r z ox oy t)) = true then
        s.answered p tag .overlap .nothing
      else State.answered p tag .ok (.rect (s.footprintAt r z ox oy t))
        { s.addRecord r with zones := s.zones.setIfInBounds z ⟨s.desc z, true⟩ })

/-- R27: the placement test, made of its four steps in order, as PLATE-REGISTER meets it after its own cases. -/
def Obligations.PlacementTestOrder : Prop :=
  ∀ (s : State) (r : Plate) (z ox oy : Nat) (t : Turn),
    firstCase (placementCases s r z ox oy t ++ [(s.overlaps r z ox oy t, .overlap)]) =
      if (s.desc z).inService = false then some .absent
      else if (s.desc z).kind = .keepout ∨ (s.desc z).capacity ≤ s.restingCount z then some .full
      else if (footprint r.length r.width ox oy t).within ⟨0, 0, (s.desc z).rect.w, (s.desc z).rect.h⟩ = false then
        some .fit
      else if ∃ q ∈ s.records, q.restsIn z = true ∧ exemptPair r q = false
          ∧ ∃ g, s.hallFootprint q = some g ∧ g.intersects (s.footprintAt r z ox oy t) = true then some .overlap
      else none

/-- R30: PLATE-REGISTER in the hook form, its ordered refusals, the record and the loaded crane. The model's choices: the offsets
and the turn of the lift origin at zone 0 (log 29), a parent id above the largest id at step 4 (log 20), no offset read (log 24). -/
def Obligations.PlateRegisterOnHookLoadsCrane : Prop :=
  ∀ (s : State) (p : Port) (tag : Byte) (w : PlateWrite), s.hears p [.planning] →
    let tested (t : State) : State :=
      if w.id = 0 ∨ 2147483647 < w.id then s.answered p tag .range .nothing
      else if s.record w.id ≠ none then s.answered p tag .duplicate .nothing
      else if 128 ≤ s.records.length then s.answered p tag .full .nothing
      else if w.kind = none ∨ w.form = none ∨ w.turn = none ∨ w.claim = true ∨ 63 < w.grade ∨ w.thickness < 3
          ∨ 150 < w.thickness ∨ w.length < 100 ∨ 24000 < w.length ∨ w.width < 100 ∨ 4500 < w.width
          ∨ (w.kind = some .remnant ∧ (w.parent = 0 ∨ 2147483647 < w.parent ∨ w.parent = w.id))
          ∨ (w.kind = some .plate ∧ w.parent ≠ 0) then s.answered p tag .range .nothing
      else if 32 < w.parts.length then s.answered p tag .full .nothing
      else if 12 < w.parts.length ∨ (∃ e ∈ w.parts, entryValid (w.form.getD .whole) w.length w.width e = false)
          ∨ ¬ (w.parts.map (·.number)).Nodup then s.answered p tag .range .nothing
      else t
    (∀ n, 5 < n → exec (.plateRegisterOnHook p tag w n) s = .next (tested (s.answered p tag .range .nothing)))
    ∧ ∀ q : Port, exec (.plateRegisterOnHook p tag w q.val) s = .next (tested (
      if q = 0 ∨ s.role q ≠ .crane then s.answered p tag .range .nothing
      else if (s.crane q).hook ≠ none then s.answered p tag .busy .nothing
      else match (s.crane q).span with
        | none => s.answered p tag .span .nothing
        | some (lo, hi) =>
          let c : Rect := ⟨2000 * lo, 0, 2000 * (hi - lo + 1), 48000⟩
          if ∃ k : Fin 48, s.isHot k.val = true ∧ c.intersects (s.desc k.val).rect = true then
            s.answered p tag .hot .nothing
          else State.answered p tag .ok (.rect c)
            { s.addRecord ⟨w.id, w.kind.getD .plate, w.grade, w.thickness, w.length, w.width, .onHook q, w.form.getD .whole,
                if w.parent = 0 then none else some w.parent, false, w.parts.map partOf, none⟩ with
              cranes := s.cranes.set q.val ⟨some (lo, hi), some w.id, some c, 0, [], ⟨0, 0, 0, .deg0⟩⟩ }))

/-- R31, R32: PLATE-PARTS in both modes. R26: the test of one entry. A change of one record leaves every other as it was. -/
def Obligations.PlatePartsRewriteLists : Prop :=
  (∀ (form : Form) (length width : Nat) (e : PartWrite), entryValid form length width e = true ↔
    1 ≤ e.number ∧ e.number ≤ 65535 ∧ e.x0 < e.x1 ∧ e.x1 ≤ length ∧ e.y0 < e.y1 ∧ e.y1 ≤ width
    ∧ (e.status = some .unmarked ∨ e.status = some .marked ∨ (e.status = some .separated ∧ form ≠ .whole)))
  ∧ (∀ (s : State) (id : Nat) (f : Plate → Plate),
    s.setRecord id f = { s with records := s.records.map fun r => if r.id = id then f r else r })
  ∧ ∀ (s : State) (p : Port) (tag : Byte) (id : Nat) (l : List PartWrite), s.hears p [.planning] →
    let valid (r : Plate) (already : List Nat) : Prop :=
      l.length ≤ 12 ∧ (∀ e ∈ l, entryValid r.form r.length r.width e = true) ∧ (already ++ l.map (·.number)).Nodup
    (s.record id = none →
      exec (.platePartsReplace p tag id l) s = .next (s.answered p tag .unknownId .nothing)
      ∧ exec (.platePartsAppend p tag id l) s = .next (s.answered p tag .unknownId .nothing))
    ∧ ∀ r, s.record id = some r →
      (s.refs id ≠ 0 →
        exec (.platePartsReplace p tag id l) s = .next (s.answered p tag .locked .nothing)
        ∧ exec (.platePartsAppend p tag id l) s = .next (s.answered p tag .locked .nothing))
      ∧ (s.refs id = 0 →
        (r.form ≠ .whole → exec (.platePartsReplace p tag id l) s = .next (s.answered p tag .state .nothing))
        ∧ (r.form = .whole → ¬ valid r [] →
          exec (.platePartsReplace p tag id l) s = .next (s.answered p tag .range .nothing))
        ∧ (r.form = .whole → valid r [] →
          exec (.platePartsReplace p tag id l) s = .next (State.answered p tag .ok (.parts l.length)
            (s.setRecord id fun r => { r with parts := l.map partOf, hold := none })))
        ∧ (r.form = .skeleton → exec (.platePartsAppend p tag id l) s = .next (s.answered p tag .state .nothing))
        ∧ (r.form ≠ .skeleton → l = [] → exec (.platePartsAppend p tag id l) s = .next (s.answered p tag .range .nothing))
        ∧ (r.form ≠ .skeleton → l ≠ [] → 32 < r.parts.length + l.length →
          exec (.platePartsAppend p tag id l) s = .next (s.answered p tag .full .nothing))
        ∧ (r.form ≠ .skeleton → l ≠ [] → r.parts.length + l.length ≤ 32 → ¬ valid r (r.parts.map (·.number)) →
          exec (.platePartsAppend p tag id l) s = .next (s.answered p tag .range .nothing))
        ∧ (r.form ≠ .skeleton → l ≠ [] → r.parts.length + l.length ≤ 32 → valid r (r.parts.map (·.number)) →
          exec (.platePartsAppend p tag id l) s = .next (State.answered p tag .ok (.parts (r.parts.length + l.length))
            (s.setRecord id fun r => { r with parts := r.parts ++ l.map partOf, hold := none }))))

/-- R33, R34, R35: PLATE-FINISH and PLATE-DROP, whose deletion clears the in-parent flags of the record's remnants. -/
def Obligations.PlatesFinishAndDrop : Prop :=
  ∀ (s : State) (p : Port) (tag : Byte) (id : Nat), s.hears p [.planning] →
    (s.record id = none →
      exec (.plateFinish p tag id) s = .next (s.answered p tag .unknownId .nothing)
      ∧ exec (.plateDrop p tag id) s = .next (s.answered p tag .unknownId .nothing))
    ∧ ∀ r, s.record id = some r →
      exec (.plateFinish p tag id) s = .next (
        if r.form = .skeleton then s.answered p tag .state .nothing
        else if s.refs id ≠ 0 then s.answered p tag .locked .nothing
        else if r.hold ≠ none then s.answered p tag .reserved .nothing
        else State.answered p tag .ok .nothing (s.setRecord id fun r => { r with form := .skeleton }))
      ∧ exec (.plateDrop p tag id) s = .next (
        if s.refs id ≠ 0 then s.answered p tag .locked .nothing
        else if r.isResting = false then s.answered p tag .state .nothing
        else if r.hold ≠ none then s.answered p tag .reserved .nothing
        else State.answered p tag .ok .nothing { s with
          records := (s.records.filter fun q => q.id ≠ id).map fun q =>
            if q.parent = some id then { q with inParent := false } else q })

/-! ## Job tables (chapter 3) -/

/-- R44, R45: JOB-ADD, its ordered refusals and the job it enters, by which its plate's job reference count rises by one. -/
def Obligations.JobAddEntersJob : Prop :=
  (∀ (s : State) (b : Nat) (j : Job), b < 48 → State.refs { s with
      tables := s.tables.setIfInBounds b ⟨(s.table b).jobs ++ [j], (s.table b).counter + 1⟩ } j.plate = s.refs j.plate + 1)
  ∧ ∀ (s : State) (p : Port) (tag : Byte) (w : JobWrite), s.hears p [.planning] →
    let t := s.table w.bed
    exec (.jobAdd p tag w) s = .next (
      if w.bed = 0 then s.answered p tag .nullZone .nothing
      else if 47 < w.bed ∨ (s.desc w.bed).kind ≠ .bed then s.answered p tag .range .nothing
      else if w.number = 0 ∨ 65535 < w.number ∨ w.kind = none ∨ 8 < w.parts.length ∨ (w.kind = some .mark ∧ w.parts = [])
          ∨ ¬ w.parts.Nodup ∨ (∃ n ∈ w.parts, n = 0 ∨ 65535 < n) ∨ 255 < w.priority then
        s.answered p tag .range .nothing
      else if (w.kind = some .mark ∧ (w.current < 10 ∨ 60 < w.current))
          ∨ (w.kind = some .cut ∧ (w.current < 30 ∨ 400 < w.current)) then s.answered p tag .range .nothing
      else if 16 ≤ t.jobs.length ∨ t.counter = 4294967295 then s.answered p tag .full .nothing
      else if ∃ j ∈ t.jobs, j.number = w.number then s.answered p tag .duplicate .nothing
      else match s.record w.plate with
        | none => s.answered p tag .unknownId .nothing
        | some r =>
          if ∃ n ∈ w.parts, ∀ q ∈ r.parts, q.number ≠ n then s.answered p tag .unknownId .nothing
          else if ∃ q ∈ r.parts, q.number ∈ w.parts ∧ q.status = .separated then s.answered p tag .order .nothing
          else if w.kind = some .mark ∧ ∃ q ∈ r.parts, q.number ∈ w.parts ∧ q.status = .marked then
            s.answered p tag .order .nothing
          else if ∃ bj ∈ s.allJobs, some bj.2.kind = w.kind ∧ bj.2.plate = w.plate ∧ ∃ n ∈ w.parts, n ∈ bj.2.parts then
            s.answered p tag .duplicate .nothing
          else State.answered p tag (if 7200 < w.limit then .clamped else .ok)
            (.added t.counter (t.jobs.countP fun j =>
              j.priority < w.priority ∨ (j.priority = w.priority ∧ j.arrival ≤ t.counter))
              (if 7200 < w.limit then some 7200 else none))
            { s with tables := s.tables.setIfInBounds w.bed ⟨t.jobs ++ [⟨w.number, w.kind.getD .cut, w.plate, w.parts,
                w.current, w.priority, min w.limit 7200, t.counter, .queued, none, false, false, 0, none⟩],
              t.counter + 1⟩ })

/-- R46, R47, R42: JOB-TAKE, its ordered refusals, and its selection of the first eligible QUEUED job in take order. -/
def Obligations.JobTakeSelectsFirstEligible : Prop :=
  ∀ (s : State) (p : Port) (tag : Byte), s.hears p [.gantry] →
    let b := (s.binding p).zone
    let queued := (s.table b).jobs.filter fun j => j.state = .queued
    let eligible (j : Job) : Prop := ∃ r, s.record j.plate = some r ∧ r.restsIn b = true
      ∧ (j.kind = .cut → ∀ q ∈ r.parts, q.number ∈ j.parts → q.markRequired = true → q.status = .marked)
    ((s.binding p).state = .none → exec (.jobTake p tag) s = .next (s.answered p tag .unbound .nothing))
    ∧ ((s.binding p).state = .stale → exec (.jobTake p tag) s = .next (s.answered p tag .stale .nothing))
    ∧ ((s.binding p).state = .bound →
      (s.heldJob p ≠ none → exec (.jobTake p tag) s = .next (s.answered p tag .busy .nothing))
      ∧ (s.heldJob p = none → s.hallStop ≠ none → exec (.jobTake p tag) s = .next (s.answered p tag .halt .nothing))
      ∧ (s.heldJob p = none → s.hallStop = none →
        ((∀ j ∈ queued, ¬ eligible j) →
          exec (.jobTake p tag) s = .next (s.answered p tag .none (.skipped queued.length)))
        ∧ ∀ j ∈ queued, ∀ r ox oy t, s.TableLaw → eligible j → s.record j.plate = some r →
          r.location = .resting b ox oy t → (∀ k ∈ queued, k.before j = true → ¬ eligible k) →
          let taken : Job := { j with
            state := .taken, taker := some p, timer := if j.limit = 0 then none else some (j.limit * 1000) }
          exec (.jobTake p tag) s = .next (State.answered p tag .ok
            (.taken ⟨b, j.number, j.kind, j.plate, j.parts, j.current, j.priority, j.limit, j.drops, j.overdue, ox, oy, t,
              queued.countP (·.before j)⟩)
            { s with tables := s.tables.setIfInBounds b { s.table b with
              jobs := (s.table b).jobs.map fun k => if k.number = j.number then taken else k } })))

/-- R48, R53, R55: JOB-RETURN, JOB-CANCEL and JOB-RESUME. R57, R41: a job leaves its table with one completion record, and
an emptied table's counter returns to 1. A change of one job leaves every other as it was. -/
def Obligations.JobsReturnCancelAndResume : Prop :=
  (∀ (s : State) (p : Port) (tag : Byte) (n : Nat), s.hears p [.gantry] →
    exec (.jobReturn p tag n) s = .next (match s.heldJob p with
      | none => s.answered p tag .state .nothing
      | some (b, j) =>
        if j.number ≠ n ∨ j.state.lit = true then s.answered p tag .state .nothing
        else if (s.torch p).state = .waiting then s.answered p tag .busy .nothing
        else State.answered p tag .ok .nothing
          (s.setJob b n fun k => { k with state := .queued, taker := none, timer := none })))
  ∧ (∀ (s : State) (p : Port) (tag : Byte) (b n : Nat), s.hears p [.planning] →
    let both (st : Status) : Prop := exec (.jobCancel p tag b n) s = .next (s.answered p tag st .nothing)
      ∧ exec (.jobResume p tag b n) s = .next (s.answered p tag st .nothing)
    (b = 0 → both .nullZone)
    ∧ (47 < b ∨ b ≠ 0 ∧ (s.desc b).kind ≠ .bed → both .range)
    ∧ (b ≠ 0 → b ≤ 47 → (s.desc b).kind = .bed →
      (s.job b n = none → both .unknownId)
      ∧ ∀ j, s.job b n = some j →
        (j.state ≠ .held → exec (.jobResume p tag b n) s = .next (s.answered p tag .state .nothing))
        ∧ (j.state = .held → s.TableLaw → exec (.jobResume p tag b n) s = .next (State.answered p tag .ok
            (.position ((s.table b).jobs.countP (·.before j)))
            (s.setJob b n fun k => { k with state := .queued, taker := none, timer := none })))
        ∧ (j.state = .queued ∨ j.state = .held → exec (.jobCancel p tag b n) s =
            .next (State.answered p tag .ok .nothing (s.removeJob b j .cancelled)))
        ∧ (j.state.lit = true → exec (.jobCancel p tag b n) s = .next (State.answered p tag .pending .nothing
            (s.setJob b n fun k => { k with cancelPending := true })))
        ∧ ∀ q, j.state = .taken → j.taker = some q →
          let gone := s.removeJob b j .cancelled
          ((s.torch q).state ≠ .waiting → exec (.jobCancel p tag b n) s =
            .next (State.answered p tag .ok .nothing (gone.notify q (.jobWithdrawn b n))))
          ∧ ((s.torch q).state = .waiting → exec (.jobCancel p tag b n) s =
            .next (State.answered p tag .ok .nothing (State.runWalk (State.notify q (.jobWithdrawn b n) { gone with
              torches := gone.torches.set q.val .idle, startQueue := s.startQueue.filter (· ≠ q) }))))))
  ∧ (∀ (s : State) (b : Nat) (j : Job) (o : Completion),
    let left := (s.table b).jobs.filter fun k => k.number ≠ j.number
    s.removeJob b j o = { s.push b ⟨j.number, j.kind, j.plate, j.parts, o, j.overdue, j.drops, j.current⟩ with
      tables := s.tables.setIfInBounds b ⟨left, if left = [] then 1 else (s.table b).counter⟩ })
  ∧ ∀ (s : State) (b n : Nat) (f : Job → Job), s.setJob b n f = { s with
      tables := s.tables.setIfInBounds b ⟨(s.table b).jobs.map fun j => if j.number = n then f j else j, (s.table b).counter⟩ }

/-! ## Arcs and the feeder (chapter 4) -/

/-- R73, R60: ARC-START, its ordered refusals, the waiting torch at the tail of the queue, and the reply by the walk. -/
def Obligations.ArcStartIsGrantedOrQueued : Prop :=
  ∀ (s : State) (p : Port) (tag : Byte) (n : Nat), s.hears p [.gantry] →
    (s.heldJob p = none → exec (.arcStart p tag n) s = .next (s.answered p tag .state .nothing))
    ∧ ∀ b j, s.heldJob p = some (b, j) →
      let w := State.walk (some p) { s with
        torches := s.torches.set p.val
          ⟨.waiting, some (b, n), j.current, (3 * j.current + 1) / 2, 0, none, some (s.params.waitLimit * 1000)⟩
        startQueue := s.startQueue ++ [p] }
      (j.state ≠ .taken ∨ j.number ≠ n → exec (.arcStart p tag n) s = .next (s.answered p tag .state .nothing))
      ∧ (j.state = .taken → j.number = n →
        exec (.arcStart p tag n) s = .next (
          if (s.binding p).state = .stale then s.answered p tag .stale .nothing
          else if (s.torch p).state ≠ .idle then s.answered p tag .busy .nothing
          else if s.hallStop ≠ none then s.answered p tag .halt .nothing
          else if (w.1.torch p).state = .starting then w.1.answered p tag .granted (.granted (w.1.torch p).seq)
          else w.1.answered p tag .queued (.queued
            (if s.feeder.stale = true then .staleFeeder else if s.feeder.sag = true then .sag
              else if w.2 = true then .budget else .corridor)
            (w.1.startQueue.idxOf p) w.1.committed s.feeder.capacity)))

/-- R72, R62, R93: what a walk of the start queue does. Under the stale flag, the sag flag or the latch it does nothing. It
admits entries in queue order, none of them under an active corridor, and never lets Q pass C; it ends at the first entry
that does not fit, and leaves every other entry, torch and job alone. `own` is the port whose ARC-START runs the walk. -/
def Obligations.WalkAdmitsInOrderWithinBudget : Prop :=
  ∀ (s : State) (own : Option Port),
    let w := s.walk own
    let closed : Prop := s.feeder.stale = true ∨ s.feeder.sag = true ∨ s.hallStop ≠ none
    let under (p : Port) : Prop := s.underCorridor (s.torchBed (s.torch p)) = true
    let admitted (p : Port) : Prop := p ∈ s.startQueue ∧ p ∉ w.1.startQueue
    (closed → w = (s, false))
    ∧ (¬ closed → s.QueueLaw →
      w.1.startQueue.Sublist s.startQueue
      ∧ ((∃ p, admitted p) → w.1.committed ≤ s.feeder.capacity)
      ∧ w.1.committed = s.committed
        + ((s.startQueue.filter fun p => p ∉ w.1.startQueue).map fun p => (s.torch p).surge).sum
      ∧ (∀ p, ¬ admitted p → w.1.torch p = s.torch p ∧ w.1.link p = s.link p)
      ∧ (∀ p, admitted p → ¬ under p
        ∧ w.1.torch p = { s.torch p with
            state := .starting, establish := some s.params.establishLimit, wait := none
            seq := s.litCount + 1 + (s.startQueue.takeWhile (· ≠ p)).countP fun q => q ∉ w.1.startQueue }
        ∧ (own = some p → w.1.link p = s.link p)
        ∧ (∀ b n, own ≠ some p → (s.torch p).job = some (b, n) →
            w.1.link p = (s.link p).offer (.grant b n (s.torch p).surge))
        ∧ ∀ b j, s.TableLaw → s.heldJob p = some (b, j) → { j with state := .starting } ∈ (w.1.table b).jobs)
      ∧ (s.TableLaw → ∀ b, w.1.table b = ⟨(s.table b).jobs.map fun j =>
            if (s.startQueue.any fun p => decide (p ∉ w.1.startQueue) && decide (s.heldJob p = some (b, j))) = true then
              { j with state := .starting } else j,
          (s.table b).counter⟩)
      ∧ (w.2 = false → ∀ p ∈ w.1.startQueue, under p)
      ∧ (w.2 = true → ∃ ahead p behind, s.startQueue = ahead ++ p :: behind ∧ ¬ under p
          ∧ s.feeder.capacity < w.1.committed + (s.torch p).surge
          ∧ w.1.startQueue = ahead.filter (fun q => q ∈ w.1.startQueue) ++ p :: behind
          ∧ ∀ q ∈ ahead, q ∈ w.1.startQueue → under q)
      ∧ w.1 = { s with
          tables := w.1.tables, torches := w.1.torches, startQueue := w.1.startQueue, committed := w.1.committed
          links := w.1.links })

/-- R75, R76, R49, R50: ARC-ESTABLISHED and ARC-OFF, by the torch's state. Log 8, the model's choice: an outcome code
outside its set is refused first. -/
def Obligations.ArcsAreEstablishedAndEnded : Prop :=
  ∀ (s : State) (p : Port) (tag : Byte), s.hears p [.gantry] →
    let t := s.torch p
    let burns : State := { s with
      torches := s.torches.set p.val { t with state := .burning, establish := none }
      committed := s.committed + t.current - t.surge }
    let out := s.putOut p .idle
    (t.state = .dropped → exec (.arcEstablished p tag) s = .next (s.answered p tag .late .nothing))
    ∧ (t.state = .idle ∨ t.state = .waiting ∨ t.state = .burning →
      exec (.arcEstablished p tag) s = .next (s.answered p tag .state .nothing))
    ∧ (t.state = .starting → exec (.arcEstablished p tag) s = .next (State.answered p tag .ok .nothing
        (State.runWalk (match s.heldJob p with
          | some (b, j) => if j.state = .starting then burns.setJob b j.number fun k => { k with state := .burning }
            else burns
          | none => burns))))
    ∧ exec (.arcOff p tag none) s = .next (s.answered p tag .range .nothing)
    ∧ (∀ o, t.state = .idle → exec (.arcOff p tag (some o)) s = .next (s.answered p tag .state .nothing))
    ∧ (∀ o, t.state = .dropped → exec (.arcOff p tag (some o)) s = .next (State.answered p tag .ok (.torch .dropped none)
        { s with torches := s.torches.set p.val .idle }))
    ∧ (∀ o, t.state = .waiting → exec (.arcOff p tag (some o)) s = .next (State.answered p tag .ok (.torch .waiting none)
        (State.runWalk { s with
          torches := s.torches.set p.val .idle, startQueue := s.startQueue.filter (· ≠ p) })))
    ∧ (t.state.lit = true →
      exec (.arcOff p tag (some .interrupted)) s = .next (State.answered p tag .ok (.torch t.state none)
        (State.runWalk (out.stopHeld p false)))
      ∧ exec (.arcOff p tag (some .complete)) s = .next (State.answered p tag .ok (.torch t.state
          (match s.heldJob p with
          | some (_, j) =>
            if j.state.lit = false then none else some (if j.cancelPending = true then .doneThenCancel else .done)
          | none => none))
        (State.runWalk (match s.heldJob p with
          | some (b, j) =>
            if j.state.lit = true then
              State.removeJob b j (if j.cancelPending then .doneThenCancel else .done) (out.setRecord j.plate fun r => { r with
                parts := r.parts.map fun q =>
                  if q.number ∉ j.parts then q
                  else if j.kind = .cut then { q with status := .separated }
                  else if q.status = .unmarked then { q with status := .marked } else q
                form := if j.kind = .cut ∧ j.parts ≠ [] ∧ r.form = .whole then .worked else r.form })
            else out
          | none => out))))

/-- R67, R69, R70, R64: a good reading. It sets L, C and the flags, and raises FEEDER_SAG where the sag flag sets; with the flag
clear a walk runs where a flag was cleared or C rose; with the flag set in TRIP mode it sheds the newest lit torch while Q is
above C, and stops there. R66, R165: a reading whose check fails, a gap and a byte without its stop bit are counted; a gap is
met with the byte that ends it, the model's choice, log 23; that byte is hunted with, and skipped without its stop bit, log 32. -/
def Obligations.ReadingsDriveTheFeeder : Prop :=
  (∀ s : State, s.held = false → s.feeder.receiver = .hunting →
    (∀ n < 65536,
      let c := s.params.rating * min n 1000 / 1000 - s.params.reserve
      let sag : Bool := min n 1500 < s.params.sagLevel + if s.feeder.sag = true then 20 else 0
      let read : State := { s with feeder := ⟨min n 1500, c, false, sag, some 500, s.feeder.discards, .hunting⟩ }
      let flagged : State := if s.feeder.sag = true then read else read.raise .feederSag 0
      let reads (t : State) : Prop := exec (.feederReading (clean (readingBytes n))) s = .next t.settle
      (sag = false →
        reads (if s.feeder.stale = true ∨ s.feeder.sag = true ∨ s.feeder.capacity < c then read.runWalk else read))
      ∧ (sag = true → s.params.sagMode = .notify → reads flagged)
      ∧ (sag = true → s.params.sagMode = .trip → ∃ shed : List Port,
        let left (l : List Port) : State := l.foldl (fun u p => u.shedTorch p) flagged
        reads (left shed)
        ∧ ((left shed).committed ≤ c ∨ ∀ p, ((left shed).torch p).state.lit = false)
        ∧ ∀ before p after, shed = before ++ p :: after →
            c < (left before).committed ∧ ((left before).torch p).state.lit = true
            ∧ ∀ q, ((left before).torch q).state.lit = true →
                ((left before).torch q).seq ≤ ((left before).torch p).seq))
    ∧ ∀ hi lo check : Byte, check ≠ 0x5A#8 + hi + lo →
      exec (.feederReading (clean [0x5A#8, hi, lo, check])) s = .next (State.settle { s with
        feeder := { s.feeder with discards := min 65535 (s.feeder.discards + 1) } }))
  ∧ (∀ (s : State) (got : List Byte) (b : Byte), s.held = false → s.feeder.receiver = .collecting got →
    let counted (r : Receiver) : State := { s with
      feeder := { s.feeder with discards := min 65535 (s.feeder.discards + 1), receiver := r } }
    (∀ gap, exec (.feederReading [⟨b, false, gap⟩]) s = .next (counted .hunting).settle)
    ∧ exec (.feederReading [⟨b, true, true⟩]) s =
      .next (counted (if b = 0x5A#8 then .collecting [] else .hunting)).settle)
  ∧ ∀ (s : State) (p : Port) (b n : Nat), (s.torch p).state.lit = true → (s.torch p).job = some (b, n) →
    s.shedTorch p = State.raise .arcShed p.val (State.notify p (.shed b n) (State.stopHeld p true
      (s.putOut p { s.torch p with state := .dropped, seq := 0, establish := none, wait := none })))

/-- R68, R77, R78, R56, R122: what the expiry of each timer does, where the timer has run out; and R51: how a job whose arc is
lit stops. Log 4, the model's reading: an expiry of a timer that is stopped, or that a later start has set anew, does nothing. -/
def Obligations.TimersExpire : Prop :=
  ∀ s : State, s.held = false →
    exec .stalenessTimerExpiry s = .next (State.settle (
      if s.feeder.staleTimer = some 0 then
        State.raise .feederStale 0 { s with feeder := { s.feeder with stale := true, staleTimer := none } }
      else s))
    ∧ (∀ p, ((s.torch p).state ≠ .starting ∨ (s.torch p).establish ≠ some 0 →
        exec (.establishTimerExpiry p) s = .next s.settle)
      ∧ ∀ b n, (s.torch p).state = .starting → (s.torch p).establish = some 0 → (s.torch p).job = some (b, n) →
        exec (.establishTimerExpiry p) s = .next (State.settle (State.runWalk (State.raise .startFail p.val
          (State.notify p (.startFailed b n) (State.stopHeld p true
            (s.putOut p { s.torch p with state := .dropped, seq := 0, establish := none, wait := none })))))))
    ∧ (∀ p, ((s.torch p).state ≠ .waiting ∨ (s.torch p).wait ≠ some 0 → exec (.waitTimerExpiry p) s = .next s.settle)
      ∧ ∀ b n, (s.torch p).state = .waiting → (s.torch p).wait = some 0 → (s.torch p).job = some (b, n) →
        exec (.waitTimerExpiry p) s = .next (State.settle (State.runWalk (State.notify p (.startTimeout b n) { s with
          torches := s.torches.set p.val .idle, startQueue := s.startQueue.filter (· ≠ p) }))))
    ∧ (∀ b n, exec (.overdueTimerExpiry b n) s = .next (State.settle (
      if (s.job b n).any (fun j => j.timer = some 0) = true then
        State.raise .jobOverdue b (s.setJob b n fun k => { k with overdue := true, timer := none })
      else s)))
    ∧ (∀ id, exec (.holdTimerExpiry id) s = .next (State.settle (
      if (s.record id).any (fun r => r.hold.any fun h => h.left = 0) = true then
        State.notify 0 (.reserveExpired id) (s.setRecord id fun r => { r with hold := none })
      else s)))
    ∧ ∀ (p : Port) (taken : Bool), s.stopHeld p taken = match s.heldJob p with
      | none => s
      | some (b, j) =>
        let drops := if taken then min 255 (j.drops + 1) else j.drops
        if j.state.lit = false then s
        else if j.cancelPending = true then s.removeJob b { j with drops := drops } .cancelled
        else s.setJob b j.number fun k => { k with state := .held, taker := none, timer := none, drops := drops }

/-! ## Ports (chapter 8) -/

/-- R148, R147: KEEPALIVE; an early one is answered EARLY before the lapse is taken (log 11). R147, R149: the expiry lapses an
ONLINE port whose timer has reached it. R146, R153, R155: HELLO, PORT-RESTORE and HALL-RESTORE. The model's choice: an unknown
role code (log 8). -/
def Obligations.PortsComeKeepAndReturn : Prop :=
  ∀ (s : State) (p : Port) (tag : Byte),
    let pp := s.portParams p
    let started : PortRecord := { s.port p with
      state := .online, timer := some ⟨0, pp.period * (100 - pp.window) / 100, pp.period⟩ }
    (s.hears p [.planning, .gantry, .crane] →
      ((∃ k, (s.port p).timer = some k ∧ k.elapsed < k.early) →
        exec (.keepalive p tag) s = .next (State.settle ((s.reply p tag ⟨.early, .nothing⟩).lapse p)))
      ∧ ((∀ k, (s.port p).timer = some k → k.early ≤ k.elapsed) →
        exec (.keepalive p tag) s = .next ((s.setPort p started).answered p tag .ok (.marks pp.period pp.window))))
    ∧ (s.held = false → exec (.keepaliveTimerExpiry p) s =
        .next (State.settle (
          if (s.port p).state = .online ∧ (s.port p).timer.any (fun k => k.expiry ≤ k.elapsed) = true then s.lapse p
          else s)))
    ∧ (s.hearsOffline p [.planning, .gantry, .crane] → ∀ role, exec (.hello p tag role) s = .next (
        if role = none then s.answered p tag .range .nothing
        else if role ≠ some (s.role p) then s.answered p tag .role .nothing
        else if (s.port p).state = .online then s.answered p tag .already .nothing
        else if (s.port p).state = .lapsed ∧ pp.mode ≠ .auto then s.answered p tag .barred .nothing
        else State.answered p tag .ok (.hello pp.period pp.window pp.mode s.hallStop) { s.setPort p started with
          torches := if (s.port p).state = .lapsed ∧ s.role p = .gantry ∧ (s.torch p).state = .dropped then
            s.torches.set p.val .idle else s.torches }))
    ∧ (s.hears p [.planning] →
      (∀ q : Port, exec (.portRestore p tag q.val) s = .next (
        if (s.port q).state = .lapsed then
          State.answered p tag .ok .nothing (s.setPort q { s.port q with state := .silent })
        else s.answered p tag .state .nothing))
      ∧ (∀ n, 5 < n → exec (.portRestore p tag n) s = .next (s.answered p tag .range .nothing))
      ∧ exec (.hallRestore p tag) s = .next (
        if s.hallStop = none then s.answered p tag .state .nothing
        else State.answered p tag .ok (.cause s.hallStop) { s with hallStop := none }))

/-- R151, R152, R154, R80, R81: what the lapse of an ONLINE port leaves: its own record, its torch and its job, its alert, and
under return mode HALL_STOP the latch with every torch of the hall, its job and its notice. R72: the lapse is one event, so a walk
it brings runs once, at its end, and under the latch admits nothing: the model's reading, log 10. -/
def Obligations.LapseStopsItsPort : Prop :=
  ∀ (s : State) (p : Port), s.QueueLaw → s.NumberLaw → s.PermitLaw → s.TableLaw → (s.port p).state = .online →
    let t := s.lapse p
    let mode := (s.portParams p).mode
    let record : PortRecord := ⟨.lapsed, none, min 65535 ((s.port p).lapses + 1), (s.port p).frameErrors⟩
    let dropped (q : Port) : Torch := { s.torch q with state := .dropped, seq := 0, establish := none, wait := none }
    t.port p = record
    ∧ (∀ q, q ≠ p → t.port q = s.port q)
    ∧ t = { s with
        tables := t.tables, logs := t.logs, torches := t.torches, startQueue := t.startQueue, committed := t.committed
        ports := t.ports, hallStop := t.hallStop, links := t.links, alerts := t.alerts, overflow := t.overflow }
    ∧ (⟨.portLapsed, p.val⟩ ∈ t.alerts ∨ 8 ≤ t.alerts.length)
    ∧ t.torch p = (if (s.torch p).state = .idle ∨ (s.torch p).state = .dropped then s.torch p else dropped p)
    ∧ p ∉ t.startQueue
    ∧ (p ≠ 0 → t.link p = s.link p)
    ∧ (s.role p = .gantry → ∀ b j, s.heldJob p = some (b, j) →
        if j.cancelPending = true ∧ j.state.lit = true then ∀ k ∈ (t.table b).jobs, k.number ≠ j.number
        else { j with state := .held, taker := none, timer := none } ∈ (t.table b).jobs)
    ∧ (mode ≠ .hallStop → t.hallStop = s.hallStop
        ∧ ∀ q, q ≠ p → (s.torch q).state ≠ .waiting → (t.torch q).state = (s.torch q).state)
    ∧ (mode = .hallStop → t.hallStop = some p ∧ (⟨.hallStopped, 0⟩ ∈ t.alerts ∨ 8 ≤ t.alerts.length)
        ∧ t.startQueue = [] ∧ (s.LoadLaw → t.committed = 0)
        ∧ ∀ q, q ≠ p →
          t.torch q = (match (s.torch q).state with
            | .waiting => .idle
            | .starting | .burning => dropped q
            | .idle | .dropped => s.torch q)
          ∧ (∀ b j, s.heldJob q = some (b, j) →
            ((s.torch q).state.lit = false → j ∈ (t.table b).jobs)
            ∧ ((s.torch q).state.lit = true → j.state.lit = true →
              if j.cancelPending = true then ∀ k ∈ (t.table b).jobs, k.number ≠ j.number
              else { j with state := .held, taker := none, timer := none, drops := min 255 (j.drops + 1) } ∈ (t.table b).jobs))
          ∧ (q ≠ 0 → t.link q = match (s.torch q).state, (s.torch q).job with
            | .starting, some (b, n) | .burning, some (b, n) => (s.link q).offer (.halted b n)
            | .waiting, some (b, n) => (s.link q).offer (.startTimeout b n)
            | _, _ => s.link q))
    ∧ (mode ≠ .hallStop →
        let left : State := { s with ports := s.ports.set p.val record }
        let told (u : State) : State := State.raise .portLapsed p.val u
        (s.role p ≠ .gantry → t = told left)
        ∧ (s.role p = .gantry →
          ((s.torch p).state = .waiting → t = State.runWalk (told (State.lapseJob p { left with
            torches := s.torches.set p.val (dropped p), startQueue := s.startQueue.filter (· ≠ p) })))
          ∧ ((s.torch p).state.lit = true → t = State.runWalk (told (State.lapseJob p (left.putOut p (dropped p)))))
          ∧ ((s.torch p).state = .idle ∨ (s.torch p).state = .dropped → t = told (State.lapseJob p left))))

/-! ## Cranes (chapter 5) -/

/-- R88, R89, R87: SPAN-SET, its ordered refusals with their data, and SPAN-CLEAR. -/
def Obligations.SpansAreClaimedAndCleared : Prop :=
  ∀ (s : State) (p : Port) (tag : Byte) (lo hi : Nat), s.hears p [.crane] →
    let answers (t : State) : Prop := exec (.spanSet p tag lo hi) s = .next t
    let disjoint : Prop := ∃ a, (s.crane p).span = some a ∧ (hi < a.1 ∨ a.2 < lo)
    let crosses (q : Port) (o : Nat × Nat) : Prop := q ≠ p ∧ s.role q = .crane ∧ (s.crane q).span = some o
      ∧ ((s.side p = .west ∧ o.1 ≤ hi) ∨ (s.side p = .east ∧ lo ≤ o.2))
    let outside (c : Rect) : Prop := (s.crane p).hook ≠ none ∧ (s.crane p).corridor = some c
      ∧ (c.columns.1 < lo ∨ hi < c.columns.2)
    (hi < lo ∨ 124 < hi → answers (s.answered p tag .range .nothing))
    ∧ (lo ≤ hi → hi ≤ 124 → s.hallStop ≠ none → answers (s.answered p tag .halt .nothing))
    ∧ (lo ≤ hi → hi ≤ 124 → s.hallStop = none →
      (disjoint → answers (s.answered p tag .disjoint .nothing))
      ∧ (¬ disjoint → s.ConfigLaw →
        (∀ q o, crosses q o → answers (s.answered p tag .conflict (.columns o)))
        ∧ ((∀ q o, ¬ crosses q o) →
          (∀ c, outside c → answers (s.answered p tag .corridor (.columns c.columns)))
          ∧ ((∀ c, ¬ outside c) → answers (State.answered p tag .ok (.columns (lo, hi))
              (s.setCrane p { s.crane p with span := some (lo, hi) }))))))
    ∧ exec (.spanClear p tag) s = .next (
        if (s.crane p).hook ≠ none then s.answered p tag .busy .nothing
        else State.answered p tag .ok .nothing (s.setCrane p { s.crane p with span := none }))

/-- R95, R96, R91, R92, R108: LIFT, its ordered refusals, its corridor and its changes. -/
def Obligations.LiftTakesRecordUp : Prop :=
  ∀ (s : State) (p : Port) (tag : Byte) (id z : Nat), s.hears p [.crane] →
    exec (.lift p tag id z) s = .next (
      if (s.crane p).hook ≠ none then s.answered p tag .busy .nothing
      else match (s.crane p).span with
        | none => s.answered p tag .span .nothing
        | some span =>
          if s.hallStop ≠ none then s.answered p tag .halt .nothing
          else match s.record id with
            | none => s.answered p tag .unknownId .nothing
            | some r => match r.location with
              | .onHook _ => s.answered p tag .state .nothing
              | .resting a ox oy t =>
                let c := ((footprint r.length r.width ox oy t).moved (s.desc a).originX (s.desc a).originY).enclose
                  (s.desc z).rect
                if (s.desc a).inService = false then s.answered p tag .absent .nothing
                else if (s.desc a).lift = false then s.answered p tag .rights .nothing
                else if z = 0 then s.answered p tag .nullZone .nothing
                else if 47 < z then s.answered p tag .range .nothing
                else if (s.desc z).inService = false then s.answered p tag .absent .nothing
                else if (s.desc z).kind = .keepout ∨ (s.desc z).place = false then s.answered p tag .rights .nothing
                else if s.refs id ≠ 0 then s.answered p tag .locked .nothing
                else if c.columns.1 < span.1 ∨ span.2 < c.columns.2 then s.answered p tag .span .nothing
                else if ∃ k : Fin 48, s.isHot k.val = true ∧ c.intersects (s.desc k.val).rect = true then
                  s.answered p tag .hot .nothing
                else if ∃ k : Fin 48, (s.desc k.val).inService = true ∧ (s.desc k.val).kind ≠ .none
                    ∧ c.intersects (s.desc k.val).rect = true
                    ∧ ((s.desc k.val).kind = .keepout ∨ k.val ≠ a ∧ k.val ≠ z ∧ (s.desc k.val).pass = false) then
                  s.answered p tag .pass .nothing
                else State.answered p tag .ok (.corridor c c.columns)
                  (State.notify 0 (.craneMove p .lifted id z (.corridor c)) { s with
                    cranes := s.cranes.set p.val ⟨some span, some id, some c, z, [z], ⟨a, ox, oy, t⟩⟩
                    zones := s.zones.setIfInBounds a ⟨s.desc a, true⟩
                    records := s.records.map fun q =>
                      if q.id = id then { q with location := .onHook p, inParent := false }
                      else if q.parent = some id then { q with inParent := false } else q }))

/-- R98, R99, R91, R92, R108: RETARGET, its ordered refusals, the grown corridor and the target list. A retarget
to the present target changes nothing of the crane; its tests, its reply and its notice are the model's reading, log 25. -/
def Obligations.RetargetGrowsCorridor : Prop :=
  ∀ (s : State) (p : Port) (tag : Byte) (z : Nat), s.hears p [.crane] →
    let crane := s.crane p
    (crane.hook = none → exec (.retarget p tag z) s = .next (s.answered p tag .state .nothing))
    ∧ ∀ id span old, crane.hook = some id → crane.span = some span → crane.corridor = some old →
      let c := old.enclose (s.desc z).rect
      let targets := if z ∈ crane.targets then crane.targets else crane.targets ++ [z]
      exec (.retarget p tag z) s = .next (
        if z = 0 then s.answered p tag .nullZone .nothing
        else if 47 < z then s.answered p tag .range .nothing
        else if (s.desc z).inService = false then s.answered p tag .absent .nothing
        else if (s.desc z).kind = .keepout ∨ (s.desc z).place = false then s.answered p tag .rights .nothing
        else if z ∉ crane.targets ∧ 8 ≤ crane.targets.length then s.answered p tag .full .nothing
        else if c.columns.1 < span.1 ∨ span.2 < c.columns.2 then s.answered p tag .span .nothing
        else if ∃ k : Fin 48, s.isHot k.val = true ∧ c.intersects (s.desc k.val).rect = true then
          s.answered p tag .hot .nothing
        else if ∃ k : Fin 48, (s.desc k.val).inService = true ∧ (s.desc k.val).kind ≠ .none
            ∧ c.intersects (s.desc k.val).rect = true
            ∧ ((s.desc k.val).kind = .keepout
              ∨ k.val ≠ crane.origin.zone ∧ k.val ∉ targets ∧ (s.desc k.val).pass = false) then
          s.answered p tag .pass .nothing
        else if z = crane.target then State.answered p tag .ok (.corridor old old.columns)
          (State.notify 0 (.craneMove p .retargeted id z (.corridor old)) s)
        else State.answered p tag .ok (.corridor c c.columns)
          (State.notify 0 (.craneMove p .retargeted id z (.corridor c))
            (s.setCrane p { crane with corridor := some c, target := z, targets := targets })))

/-- R100, R101, R102, R103, R108: SET-DOWN and LIFT-ABORT; `PlacementTestOrder` states the placement test. The offsets
and the turn of the origin of a FREE hook are the model's choice, log 29. -/
def Obligations.LoadsAreSetDownAndAborted : Prop :=
  ∀ (s : State) (p : Port) (tag : Byte), s.hears p [.crane] →
    let crane := s.crane p
    (crane.hook = none → (∀ ox oy turn, exec (.setDown p tag ox oy turn) s = .next (s.answered p tag .state .nothing))
      ∧ exec (.liftAbort p tag) s = .next (s.answered p tag .state .nothing))
    ∧ ∀ id r, crane.hook = some id → s.record id = some r →
      let free : Crane := ⟨crane.span, none, none, 0, [], .nowhere⟩
      let test (z ox oy : Nat) (t : Turn) : Option Status :=
        firstCase (placementCases s r z ox oy t ++ [(s.overlaps r z ox oy t, .overlap)])
      let placed (z ox oy : Nat) (t : Turn) (a : CraneAction) : State :=
        State.runWalk (State.notify 0 (.craneMove p a id z (.place ox oy t)) { s with
          cranes := s.cranes.set p.val free
          zones := s.zones.setIfInBounds z ⟨s.desc z, true⟩
          records := s.records.map fun q => if q.id = id then { q with location := .resting z ox oy t } else q })
      let z := crane.target
      (∀ ox oy, exec (.setDown p tag ox oy none) s = .next (s.answered p tag .range .nothing))
      ∧ (∀ ox oy t, 249999 < ox ∨ 249999 < oy →
          exec (.setDown p tag ox oy (some t)) s = .next (s.answered p tag .range .nothing))
      ∧ (∀ ox oy t, ox ≤ 249999 → oy ≤ 249999 → exec (.setDown p tag ox oy (some t)) s = .next (
          match test z ox oy t with
          | some st => s.answered p tag st .nothing
          | none =>
            if (s.desc z).kind ≠ .scrap then
              (placed z ox oy t .setDown).answered p tag .ok (.rect (s.footprintAt r z ox oy t))
            else if s.refs r.id ≠ 0 then s.answered p tag .locked .nothing
            else if r.hold ≠ none then s.answered p tag .reserved .nothing
            else State.answered p tag .ok .deleted (State.runWalk (State.notify 0 (.craneMove p .scrapped id z .nothing)
              { s.deleteRecord id with
                cranes := s.cranes.set p.val free, zones := s.zones.setIfInBounds z ⟨s.desc z, true⟩ }))))
      ∧ exec (.liftAbort p tag) s = .next (
          let o := crane.origin
          match test o.zone o.offX o.offY o.turn with
          | some st => s.answered p tag st .nothing
          | none => (placed o.zone o.offX o.offY o.turn .aborted).answered p tag .ok .nothing)

/-! ## Remnants (chapter 6) -/

/-- R111, R112, R113, R114: REMNANT-DECLARE, its ordered refusals and the pair it leaves. -/
def Obligations.DeclarationBooksRemnant : Prop :=
  ∀ (s : State) (p : Port) (tag : Byte) (pl id x0 y0 x1 y1 : Nat), s.hears p [.planning] →
    let answers (t : State) : Prop := exec (.remnantDeclare p tag pl id x0 y0 x1 y1) s = .next t
    (s.record pl = none → answers (s.answered p tag .unknownId .nothing))
    ∧ (∀ r q, s.record pl = some r → r.location = .onHook q → answers (s.answered p tag .state .nothing))
    ∧ ∀ r z ox oy t, s.record pl = some r → r.location = .resting z ox oy t →
      let w := x1 - x0
      let h := y1 - y0
      let ax := match t with | .deg0 => ox + x0 | .deg90 => ox + r.width - y1
      let ay := match t with | .deg0 => oy + y0 | .deg90 => oy + x0
      let n : Plate := ⟨id, .remnant, r.grade, r.thickness, w, h, .resting z ax ay t, .whole, some pl, true, [], none⟩
      answers (
        if r.form = .skeleton ∨ (r.kind = .remnant ∧ r.inParent = true) then s.answered p tag .state .nothing
        else if s.refs pl ≠ 0 then s.answered p tag .locked .nothing
        else if r.hold ≠ none then s.answered p tag .reserved .nothing
        else if id = 0 ∨ 2147483647 < id ∨ x1 ≤ x0 ∨ r.length < x1 ∨ y1 ≤ y0 ∨ r.width < y1 then
          s.answered p tag .range .nothing
        else if ∃ q ∈ r.parts, q.status ≠ .separated
            ∧ Rect.intersects ⟨x0, y0, w, h⟩ ⟨q.x0, q.y0, q.x1 - q.x0, q.y1 - q.y0⟩ = true then
          s.answered p tag .overlap .nothing
        else if min w h < s.params.minSide ∨ w * h < s.params.minArea then s.answered p tag .small .nothing
        else if s.record id ≠ none then s.answered p tag .duplicate .nothing
        else if 128 ≤ s.records.length ∨ (s.desc z).capacity ≤ s.restingCount z then s.answered p tag .full .nothing
        else if (s.desc z).inService = false then s.answered p tag .absent .nothing
        else State.answered p tag .ok (.remnant id w h ax ay t (s.footprintAt n z ax ay t))
          ((s.setRecord pl fun r => { r with form := .skeleton }).addRecord n))

/-- R115, R116: the members of the remnant index and their order. R118, R119, R120: REMNANT-FIT answers and reserves the first
member that holds the need; the reservation holds the hold taken and a timer started at it. R123: REMNANT-RELEASE. What the
second number of NONE counts is the model's choice, log 31. -/
def Obligations.FitsReserveAndReleaseFrees : Prop :=
  ∀ (s : State) (p : Port) (tag : Byte),
    (∀ r, r ∈ s.remnantIndex ↔ r ∈ s.records ∧ r.kind = .remnant ∧ r.form = .whole ∧ r.parts = []
      ∧ ∃ z ox oy t, r.location = .resting z ox oy t)
    ∧ s.remnantIndex.Pairwise (fun a b => a.grade < b.grade ∨ (a.grade = b.grade ∧ (a.thickness < b.thickness
        ∨ (a.thickness = b.thickness ∧ (a.length * a.width < b.length * b.width
          ∨ (a.length * a.width = b.length * b.width ∧ a.id ≤ b.id))))))
    ∧ (s.hears p [.planning] → ∀ grade th needL needW hold,
      let stock := s.remnantIndex.filter fun r => r.grade = grade ∧ r.thickness = th
      let taken := if hold = 0 then 600 else max 60 (min 3600 hold)
      exec (.remnantFit p tag grade th needL needW hold) s = .next (
        if 63 < grade ∨ th < 3 ∨ 150 < th ∨ needL = 0 ∨ 24000 < needL ∨ needW = 0 ∨ 24000 < needW then
          s.answered p tag .range .nothing
        else match stock.find? fun r => r.hold = none
            ∧ ((needL ≤ r.length ∧ needW ≤ r.width) ∨ (needL ≤ r.width ∧ needW ≤ r.length)) with
          | none => s.answered p tag .none (.noFit stock.length (stock.countP fun r => r.hold ≠ none))
          | some r => State.answered p tag (if hold ≠ 0 ∧ taken ≠ hold then .clamped else .ok)
              (.fit ⟨r.id, r.length, r.width, r.length * r.width,
                if needL ≤ r.length ∧ needW ≤ r.width then .deg0 else .deg90, r.origin.zone, r.origin.offX, r.origin.offY,
                r.origin.turn, s.footprintAt r r.origin.zone r.origin.offX r.origin.offY r.origin.turn,
                (s.desc r.origin.zone).inService, s.refs r.id, taken⟩)
              (s.setRecord r.id fun q => { q with hold := some ⟨taken, taken * 1000⟩ })))
    ∧ (s.hears p [.planning] → ∀ id, exec (.remnantRelease p tag id) s = .next (match s.record id with
      | none => s.answered p tag .unknownId .nothing
      | some r =>
        if r.hold = none then s.answered p tag .state .nothing
        else State.answered p tag .ok .nothing (s.setRecord id fun q => { q with hold := none })))

/-! ## Logs and alerts (chapter 7) -/

/-- R129, R130, R131: a push. R132, R169: LOG-TAKE takes the oldest records, as many as are asked for and fit. R134:
LOG-CLEAR-LOST. That a clamped n is told by the status alone is the model's choice, log 9. -/
def Obligations.LogsArePushedAndTaken : Prop :=
  ∀ (s : State) (b : Nat),
    let l := s.log b
    (∀ r, s.push b r =
      if 16 ≤ l.records.length then State.raise .logLost b { s with logs := s.logs.setIfInBounds b { l with lost := true } }
      else
        let pushed : State := { s with logs := s.logs.setIfInBounds b { l with records := l.records ++ [r] } }
        if s.watermark b ≠ 0 ∧ s.watermark b ≤ l.records.length + 1 then pushed.raise .logHigh b else pushed)
    ∧ ∀ (p : Port) (tag : Byte), s.hears p [.planning] →
      let bad : Option Status := if b = 0 then some .nullZone
        else if 47 < b ∨ (s.desc b).kind ≠ .bed then some .range else none
      let bytes (taken : List LogRecord) : Nat := 6 + (taken.map fun r => 11 + 2 * r.parts.length).sum
      (∀ st n, bad = some st → exec (.logTake p tag b n) s = .next (s.answered p tag st .nothing))
      ∧ (∀ st, bad = some st → exec (.logClearLost p tag b) s = .next (s.answered p tag st .nothing))
      ∧ (bad = none → exec (.logClearLost p tag b) s = .next (State.answered p tag .ok (.fill l.records.length)
          { s with logs := s.logs.setIfInBounds b { l with lost := false } }))
      ∧ (bad = none → exec (.logTake p tag b 0) s = .next (s.answered p tag .range .nothing))
      ∧ (bad = none → ∀ n, 0 < n → l.records = [] →
          exec (.logTake p tag b n) s = .next (s.answered p tag .none (.log ⟨b, [], 0, l.lost, s.watermark b⟩)))
      ∧ (bad = none → ∀ n taken left, 0 < n → l.records ≠ [] → l.records = taken ++ left →
          taken.length ≤ n → taken.length ≤ 16 → (taken ≠ [] → bytes taken ≤ 200) →
          (taken.length = n ∨ taken.length = 16 ∨ left = [] ∨ ∃ r rest, left = r :: rest ∧ 200 < bytes (taken ++ [r])) →
          exec (.logTake p tag b n) s = .next (State.answered p tag (if 16 < n then .clamped else .ok)
            (.log ⟨b, taken, left.length, l.lost, s.watermark b⟩)
            { s with logs := s.logs.setIfInBounds b { l with records := left } }))

/-- R138, R139, R136: ALERT-CLEAR (an unknown alert code is R138's RANGE), ALERT-ACK-OLDEST and ALERT-CLEAR-ALL. -/
def Obligations.AlertsAreCleared : Prop :=
  ∀ (s : State) (p : Port) (tag : Byte), s.hears p [.planning] →
    (∀ n, exec (.alertClear p tag none n) s = .next (s.answered p tag .range .nothing))
    ∧ (∀ c n,
      let subjects : List Nat :=
        if c = .arcShed ∨ c = .startFail ∨ c = .portLapsed then List.range 6
        else if c = .jobOverdue ∨ c = .logHigh ∨ c = .logLost then List.range' 1 47
        else [0]
      exec (.alertClear p tag (some c) n) s = .next (
        if n ∉ subjects then s.answered p tag .range .nothing
        else if ⟨c, n⟩ ∉ s.alerts then s.answered p tag .unknownId .nothing
        else State.answered p tag .ok (.alertsLeft (s.alerts.length - 1)) { s with alerts := s.alerts.erase ⟨c, n⟩ }))
    ∧ exec (.alertAckOldest p tag) s = .next (match s.alerts with
      | [] => s.answered p tag .none .nothing
      | a :: rest => State.answered p tag .ok (.acknowledged a rest.length) { s with alerts := rest })
    ∧ exec (.alertClearAll p tag) s = .next (State.answered p tag .ok (.cleared s.alerts.length s.overflow)
        { s with alerts := [], overflow := 0 })

/-! ## Configuration (chapter 10) -/

/-- R171, R172, R65, R64, R170: PARAM-SET for each kind of parameter and index: clamped, refused, or pending; a rating or a
reserve forms C anew while the feeder is not stale, and a walk runs when C rose; the pending set is tested as a whole, and
several entries are taken together. More than 8 entries being RANGE is the model's choice, log 19. -/
def Obligations.ParametersAreTaken : Prop :=
  ∀ (s : State) (p : Port) (tag : Byte) (v : Nat), s.hears p [.planning] → s.ConfigLaw →
    let ps := s.params
    let rate : LinkRate := if v = 0 then .r115200 else .r460800
    let answers (l : List ParamEntry) (t : State) : Prop := exec (.paramSet p tag l) s = .next t
    let takes (code i v' : Nat) (t : State) : Prop := answers [⟨code, i, v⟩]
      (t.answered p tag (if v' = v then .ok else .clamped) (.paramsTaken [⟨code, i, v'⟩]))
    let refuses (l : List ParamEntry) (st : Status) : Prop := answers l (s.answered p tag st .nothing)
    let formed (f r : Nat) : State :=
      let t : State := { s with params := { ps with rating := f, reserve := r } }
      let c := f * min s.feeder.level 1000 / 1000 - r
      let t' : State := { t with feeder := { s.feeder with capacity := c } }
      if s.feeder.stale = true ∨ (f = ps.rating ∧ r = ps.reserve) then t
      else if s.feeder.capacity < c then t'.runWalk else t'
    let isNext (r : Role) (q : PortParams) : Bool := q.pendingRole.getD q.role = r
    let fits (qs : Vector PortParams 6) : Prop := qs.toList.countP (isNext .gantry) ≤ 4 ∧ qs.toList.countP (isNext .crane) ≤ 2
      ∧ ∀ a b : Port, a ≠ b → isNext .crane qs[a] = true → isNext .crane qs[b] = true →
          qs[a].pendingSide.getD qs[a].side ≠ qs[b].pendingSide.getD qs[b].side
    let pends (l : List ParamEntry) (qs : Vector PortParams 6) : Prop :=
      (fits qs → answers l (State.answered p tag .ok (.paramsTaken l) { s with params := { ps with ports := qs } }))
      ∧ (¬ fits qs → refuses l .range)
    let role (q : Port) (r : Role) : Option Role := if r = s.role q then none else some r
    let side (q : Port) (d : Side) : Option Side := if d = s.side q then none else some d
    refuses [] .range
    ∧ (∀ l : List ParamEntry, 8 < l.length → refuses l .range)
    ∧ (∀ code i, (code = 0 ∨ 0x0F < code) → refuses [⟨code, i, v⟩] .range)
    ∧ (∀ code i, (code ∈ [0x01, 0x02] ∧ (i = 0 ∨ 5 < i)) ∨ (code ∈ [0x03, 0x04, 0x05] ∧ 5 < i)
        ∨ (0x06 ≤ code ∧ code ≤ 0x0E ∧ i ≠ 0) ∨ (code = 0x0F ∧ 47 < i) → refuses [⟨code, i, v⟩] .range)
    ∧ refuses [⟨0x0F, 0, v⟩] .nullZone
    ∧ refuses [⟨0x0B, 0, v⟩, ⟨0x0B, 0, v⟩] .range
    ∧ takes 0x0B 0 (max 500 (min 5000 v)) { s with params := { ps with establishLimit := max 500 (min 5000 v) } }
    ∧ takes 0x0C 0 (max 1 (min 120 v)) { s with params := { ps with waitLimit := max 1 (min 120 v) } }
    ∧ takes 0x0D 0 (max 200 (min 2000 v)) { s with params := { ps with minSide := max 200 (min 2000 v) } }
    ∧ takes 0x0E 0 (max 40000 (min 4000000 v)) { s with params := { ps with minArea := max 40000 (min 4000000 v) } }
    ∧ (∀ z, 1 ≤ z → z ≤ 47 → takes 0x0F z (min v 16)
        { s with params := { ps with watermarks := ps.watermarks.setIfInBounds z (min v 16) } })
    ∧ (∀ q : Port, takes 0x03 q.val (max 100 (min 5000 v)) { s with
        params := { ps with ports := ps.ports.set q.val { s.portParams q with period := max 100 (min 5000 v) } } })
    ∧ (∀ q : Port, if v ∈ [25, 50, 75, 100] then takes 0x04 q.val v { s with
        params := { ps with ports := ps.ports.set q.val { s.portParams q with window := v } } }
      else refuses [⟨0x04, q.val, v⟩] .range)
    ∧ (if v ∈ [960, 930, 900, 870] then takes 0x09 0 v { s with params := { ps with sagLevel := v } }
      else refuses [⟨0x09, 0, v⟩] .range)
    ∧ (if v ≤ 1 then takes 0x06 0 v { s with params := { ps with
        pendingRate := if rate = ps.linkRate then none else some rate } }
      else refuses [⟨0x06, 0, v⟩] .range)
    ∧ (∀ l, 1 ≤ l.length → l.length ≤ 2 → (∀ e ∈ l, e.code = 0x01 ∧ e.index ∈ [1, 2, 3, 4, 5] ∧ 2 < e.value) →
        refuses l .range)
    ∧ (∀ q : Port, q ≠ 0 → ∀ r ∈ ([Role.gantry, .crane, .unused] : List Role)[v]?,
        pends [⟨0x01, q.val, v⟩] (ps.ports.set q.val { s.portParams q with pendingRole := role q r }))
    ∧ (∀ q : Port, q ≠ 0 → (1 < v → refuses [⟨0x02, q.val, v⟩] .range) ∧ ∀ d ∈ ([Side.west, .east] : List Side)[v]?,
        pends [⟨0x02, q.val, v⟩] (ps.ports.set q.val { s.portParams q with pendingSide := side q d })
        ∧ pends [⟨0x01, q.val, 1⟩, ⟨0x02, q.val, v⟩]
            (ps.ports.set q.val { s.portParams q with pendingRole := role q .crane, pendingSide := side q d }))
    ∧ (∀ q : Port, (2 < v ∨ q = 0 ∧ v ≠ 0 → refuses [⟨0x05, q.val, v⟩] .range)
        ∧ ∀ m ∈ ([ReturnMode.auto, .manual, .hallStop] : List ReturnMode)[v]?, (q = 0 → v = 0) →
          takes 0x05 q.val v { s with params := { ps with ports := ps.ports.set q.val { s.portParams q with mode := m } } })
    ∧ (1 < v → refuses [⟨0x0A, 0, v⟩] .range)
    ∧ (∀ m ∈ ([SagMode.notify, .trip] : List SagMode)[v]?, takes 0x0A 0 v { s with params := { ps with sagMode := m } })
    ∧ takes 0x08 0 (min v (ps.rating / 2)) (formed ps.rating (min v (ps.rating / 2)))
    ∧ (let f := max 100 (min 4000 v)
      (ps.reserve ≤ f / 2 → takes 0x07 0 f (formed f ps.reserve))
      ∧ (f / 2 < ps.reserve → answers [⟨0x07, 0, v⟩] ((formed f (f / 2)).answered p tag .clamped
          (.paramsTaken [⟨0x07, 0, f⟩, ⟨0x08, 0, f / 2⟩])))
      ∧ ∀ r, answers [⟨0x08, 0, r⟩, ⟨0x07, 0, v⟩] ((formed f (min r (f / 2))).answered p tag
          (if f = v ∧ r ≤ f / 2 then .ok else .clamped) (.paramsTaken [⟨0x08, 0, min r (f / 2)⟩, ⟨0x07, 0, f⟩])))

/-- R174, R175, R176, R177: CONFIG-STORE and its completion, RESTART and CAUSE-READ. The model's choices: whether the image read back
equal is an operand (log 21), and a completion with no store in flight does nothing (log 5). -/
def Obligations.StoreRestartAndCauses : Prop :=
  ∀ s : State,
    (∀ p tag, s.hears p [.planning] →
      ((∃ copy, s.image = .writing copy) → exec (.configStore p tag) s = .next (s.answered p tag .busy .nothing)
        ∧ exec (.restart p tag) s = .next (s.answered p tag .busy .nothing))
      ∧ ((∀ copy, s.image ≠ .writing copy) →
        (∃ copy : Image, exec (.configStore p tag) s =
            .next (State.answered p tag .pending .nothing { s with image := .writing copy })
          ∧ (∀ z : Fin 48, copy.zones[z] = s.desc z.val)
          ∧ (∀ q : Port, copy.params.ports[q] = { s.portParams q with
              role := (s.portParams q).pendingRole.getD (s.role q), pendingRole := none
              side := (s.portParams q).pendingSide.getD (s.portParams q).side, pendingSide := none })
          ∧ copy.params = { s.params with
              ports := copy.params.ports, linkRate := s.params.pendingRate.getD s.params.linkRate, pendingRate := none })
        ∧ exec (.restart p tag) s = .next (State.answered p tag .ok .nothing { s with restart := .replying }))
      ∧ exec (.causeRead p tag) s = .next (State.answered p tag .ok (.causes s.causes)
          { s with causes := ⟨false, false, false, false⟩ }))
    ∧ (s.held = false →
      (∀ copy, s.image = .writing copy →
        exec (.storeCompletion true) s = .next (State.settle (State.notify 0 .stored { s with image := .good copy }))
        ∧ exec (.storeCompletion false) s =
          .next (State.settle (State.raise .storeFailed 0 { s with image := .bad })))
      ∧ ∀ equal, (∀ copy, s.image ≠ .writing copy) → exec (.storeCompletion equal) s = .next s.settle)

/-! ## Reads -/

/-- R10, R37, R58, R83, R109, R117, R133, R140, R158, R173: the ten reads. Each answers its report, and changes nothing.
PARAM-READ of watermark 0 being RANGE (log 19) and the order of the torch records of BUDGET-READ (log 30) are the model's
choices. -/
def Obligations.ReadsReportAndChangeNothing : Prop :=
  ∀ (s : State) (p : Port) (tag : Byte), s.listens p →
    let answers (c : Instr) (st : Status) (d : ReplyData) : Prop := exec c s = .next (s.answered p tag st d)
    let noBed (b : Nat) : Prop := 47 < b ∨ (s.desc b).kind ≠ .bed
    ((s.port p).state = .online →
      (answers (.zoneRead p tag 0) .nullZone .nothing
        ∧ ∀ first, answers (.jobList p tag 0 first) .nullZone .nothing ∧ answers (.logRead p tag 0 first) .nullZone .nothing)
      ∧ (∀ z, z ≠ 0 → if 47 < z then answers (.zoneRead p tag z) .range .nothing
        else answers (.zoneRead p tag z) .ok (.zone ⟨z, s.desc z, (s.zone z).used, (s.desc z).rect,
          s.records.countP (·.restsIn z), s.boundTo z, s.targeted z⟩))
      ∧ (∀ b first, b ≠ 0 →
        let jobs := (s.table b).jobs
        let count (st : JobState) : Nat := jobs.countP fun j => j.state = st
        if noBed b ∨ jobs.length < first then answers (.jobList p tag b first) .range .nothing
        else answers (.jobList p tag b first) .ok (.jobs ⟨jobs.length, count .queued, count .taken, count .starting,
          count .burning, count .held, (s.table b).counter, s.boundTo b, ((takeOrder jobs).drop first).take 4⟩))
      ∧ (∀ b first, b ≠ 0 →
        let l := s.log b
        (noBed b ∨ l.records.length < first → answers (.logRead p tag b first) .range .nothing)
        ∧ (¬ noBed b → first ≤ l.records.length → l.records.length ≤ 16 → ∃ shown left,
          l.records.drop first = shown ++ left
          ∧ answers (.logRead p tag b first) .ok (.log ⟨b, shown, l.records.length, l.lost, s.watermark b⟩)
          ∧ 6 + (shown.map LogRecord.size).sum ≤ 200
          ∧ ∀ r rest, left = r :: rest → 200 < 6 + (shown.map LogRecord.size).sum + r.size))
      ∧ (∀ grade th first,
        let l := s.remnantIndex.filter fun r => r.grade = grade ∧ (th = 0 ∨ r.thickness = th)
        if 63 < grade ∨ (th ≠ 0 ∧ (th < 3 ∨ 150 < th)) ∨ l.length < first then
          answers (.remnantList p tag grade th first) .range .nothing
        else answers (.remnantList p tag grade th first) .ok (.remnants l.length (l.countP fun r => r.hold ≠ none)
          (((l.drop first).take 8).map fun r => ⟨r.id, r.thickness, r.length, r.width, r.length * r.width, r.origin.zone,
            s.footprintAt r r.origin.zone r.origin.offX r.origin.offY r.origin.turn, r.inParent, s.refs r.id,
            r.hold.map fun h => (h.left + 999) / 1000⟩)))
      ∧ answers (.alertRead p tag) .ok (.alerts s.alerts s.alerts.length s.overflow (decide (s.alerts ≠ [])))
      ∧ (let pp (i : Nat) : PortParams := s.portParams (Fin.ofNat 6 i)
        let reads (code lo hi : Nat) (value : Nat → Nat) (pending : Nat → Option Nat) : Prop := ∀ i,
          if lo ≤ i ∧ i ≤ hi then answers (.paramRead p tag code i) .ok (.params
            ((List.range' i (min 12 (hi + 1 - i))).map fun k => ⟨k, value k, pending k⟩) s.image.state)
          else answers (.paramRead p tag code i) .range .nothing
        let none' (_ : Nat) : Option Nat := none
        (∀ code i, code = 0 ∨ 0x0F < code → answers (.paramRead p tag code i) .range .nothing)
        ∧ reads 0x01 1 5 (fun i => roleParam (pp i).role) (fun i => (pp i).pendingRole.map roleParam)
        ∧ reads 0x02 1 5 (fun i => sideParam (pp i).side) (fun i => (pp i).pendingSide.map sideParam)
        ∧ reads 0x03 0 5 (fun i => (pp i).period) none' ∧ reads 0x04 0 5 (fun i => (pp i).window) none'
        ∧ reads 0x05 0 5 (fun i => modeParam (pp i).mode) none'
        ∧ reads 0x06 0 0 (fun _ => rateParam s.params.linkRate) (fun _ => s.params.pendingRate.map rateParam)
        ∧ reads 0x07 0 0 (fun _ => s.params.rating) none' ∧ reads 0x08 0 0 (fun _ => s.params.reserve) none'
        ∧ reads 0x09 0 0 (fun _ => s.params.sagLevel) none' ∧ reads 0x0A 0 0 (fun _ => sagModeParam s.params.sagMode) none'
        ∧ reads 0x0B 0 0 (fun _ => s.params.establishLimit) none' ∧ reads 0x0C 0 0 (fun _ => s.params.waitLimit) none'
        ∧ reads 0x0D 0 0 (fun _ => s.params.minSide) none' ∧ reads 0x0E 0 0 (fun _ => s.params.minArea) none'
        ∧ reads 0x0F 1 47 (fun i => s.watermark i) none'))
    ∧ (∀ n, 5 < n → answers (.statusRead p tag n) .range .nothing ∧ answers (.craneRead p tag n) .range .nothing)
    ∧ (∀ q : Port, p ≠ 0 → q ≠ p → answers (.statusRead p tag q.val) .role .nothing)
    ∧ (∀ q : Port, p = 0 ∨ q = p →
      let pp := s.portParams q
      let r := s.port q
      answers (.statusRead p tag q.val) .ok (.status ⟨pp.role, pp.pendingRole, r.state, pp.period, pp.window, pp.mode,
        r.timer.map fun t => (t.early - t.elapsed, t.expiry - t.elapsed), r.lapses, r.frameErrors, s.permitLine q,
        s.hallStop,
        if pp.role = .gantry then
          some ⟨s.binding q, (s.torch q).state, (s.heldJob q).map fun bj => (bj.1, bj.2.number)⟩ else none,
        if pp.role = .crane then some ⟨pp.side, (s.crane q).span, (s.crane q).hook⟩ else none⟩))
    ∧ (∀ q : Port,
      if q = 0 ∨ s.role q ≠ .crane then answers (.craneRead p tag q.val) .range .nothing
      else answers (.craneRead p tag q.val) .ok (.crane ⟨s.side q, s.crane q,
        if (s.crane q).hook = none then none else (s.crane q).corridor.map Rect.columns, (s.port q).state,
        s.permitLine q⟩))
    ∧ (∀ id first next r,
      (if next then r ∈ s.records ∧ id < r.id ∧ ∀ q ∈ s.records, id < q.id → r.id ≤ q.id else s.record id = some r) →
      s.RegisterLaw →
        if r.parts.length < first then answers (.plateRead p tag id first next) .range .nothing
        else answers (.plateRead p tag id first next) .ok (.plate ⟨{ r with parts := [], hold := none },
          s.hallFootprint r, r.parts.length, s.refs r.id, decide (r ∈ s.remnantIndex),
          r.hold.map fun h => (h.left + 999) / 1000, s.records.length, (r.parts.drop first).take 12⟩))
    ∧ (∀ id first, s.record id = none → answers (.plateRead p tag id first false) .unknownId .nothing)
    ∧ (∀ id first, (∀ q ∈ s.records, q.id ≤ id) →
        answers (.plateRead p tag id first true) .none (.fill s.records.length))
    ∧ answers (.budgetRead p tag) .ok (.budget ⟨s.params.rating, s.params.reserve, s.feeder.level, s.feeder.capacity,
        s.committed, s.feeder.stale, s.feeder.sag, s.params.sagLevel, s.params.sagMode, s.feeder.discards,
        s.params.establishLimit, s.params.waitLimit,
        s.startQueue.map fun q => ⟨q, (s.torch q).job, (s.torch q).current, (s.torch q).surge, (s.torch q).wait⟩,
        (allPorts.filter fun q => s.role q = .gantry).map fun q => ⟨q, (s.torch q).state, (s.torch q).job,
          (s.torch q).current, (s.torch q).surge, (s.torch q).load, (s.torch q).seq, (s.torch q).establish⟩⟩)
end

