-- ==== Sys2Proof/Laws/State.lean ====
section
/-! SUPPORT. One lemma for each field that an update of the state leaves alone, and what an accessor reads after the
update of its own bank. -/

namespace Sys2Proof.Machine

open Sys2Proof

/-! ### `setZone` -/

@[simp] theorem State.setZone_bindings (s : State) (z : Nat) (e : Zone) : (s.setZone z e).bindings = s.bindings := rfl
@[simp] theorem State.setZone_records (s : State) (z : Nat) (e : Zone) : (s.setZone z e).records = s.records := rfl
@[simp] theorem State.setZone_tables (s : State) (z : Nat) (e : Zone) : (s.setZone z e).tables = s.tables := rfl
@[simp] theorem State.setZone_logs (s : State) (z : Nat) (e : Zone) : (s.setZone z e).logs = s.logs := rfl
@[simp] theorem State.setZone_torches (s : State) (z : Nat) (e : Zone) : (s.setZone z e).torches = s.torches := rfl
@[simp] theorem State.setZone_startQueue (s : State) (z : Nat) (e : Zone) : (s.setZone z e).startQueue = s.startQueue := rfl
@[simp] theorem State.setZone_committed (s : State) (z : Nat) (e : Zone) : (s.setZone z e).committed = s.committed := rfl
@[simp] theorem State.setZone_feeder (s : State) (z : Nat) (e : Zone) : (s.setZone z e).feeder = s.feeder := rfl
@[simp] theorem State.setZone_cranes (s : State) (z : Nat) (e : Zone) : (s.setZone z e).cranes = s.cranes := rfl
@[simp] theorem State.setZone_ports (s : State) (z : Nat) (e : Zone) : (s.setZone z e).ports = s.ports := rfl
@[simp] theorem State.setZone_hallStop (s : State) (z : Nat) (e : Zone) : (s.setZone z e).hallStop = s.hallStop := rfl
@[simp] theorem State.setZone_links (s : State) (z : Nat) (e : Zone) : (s.setZone z e).links = s.links := rfl
@[simp] theorem State.setZone_alerts (s : State) (z : Nat) (e : Zone) : (s.setZone z e).alerts = s.alerts := rfl
@[simp] theorem State.setZone_overflow (s : State) (z : Nat) (e : Zone) : (s.setZone z e).overflow = s.overflow := rfl
@[simp] theorem State.setZone_params (s : State) (z : Nat) (e : Zone) : (s.setZone z e).params = s.params := rfl
@[simp] theorem State.setZone_image (s : State) (z : Nat) (e : Zone) : (s.setZone z e).image = s.image := rfl
@[simp] theorem State.setZone_causes (s : State) (z : Nat) (e : Zone) : (s.setZone z e).causes = s.causes := rfl
@[simp] theorem State.setZone_hold (s : State) (z : Nat) (e : Zone) : (s.setZone z e).hold = s.hold := rfl
@[simp] theorem State.setZone_restart (s : State) (z : Nat) (e : Zone) : (s.setZone z e).restart = s.restart := rfl
@[simp] theorem State.setZone_pending (s : State) (z : Nat) (e : Zone) : (s.setZone z e).pending = s.pending := rfl

/-! ### `setTable` -/

@[simp] theorem State.setTable_zones (s : State) (b : Nat) (t : JobTable) : (s.setTable b t).zones = s.zones := rfl
@[simp] theorem State.setTable_bindings (s : State) (b : Nat) (t : JobTable) : (s.setTable b t).bindings = s.bindings := rfl
@[simp] theorem State.setTable_records (s : State) (b : Nat) (t : JobTable) : (s.setTable b t).records = s.records := rfl
@[simp] theorem State.setTable_logs (s : State) (b : Nat) (t : JobTable) : (s.setTable b t).logs = s.logs := rfl
@[simp] theorem State.setTable_torches (s : State) (b : Nat) (t : JobTable) : (s.setTable b t).torches = s.torches := rfl
@[simp] theorem State.setTable_startQueue (s : State) (b : Nat) (t : JobTable) : (s.setTable b t).startQueue = s.startQueue := rfl
@[simp] theorem State.setTable_committed (s : State) (b : Nat) (t : JobTable) : (s.setTable b t).committed = s.committed := rfl
@[simp] theorem State.setTable_feeder (s : State) (b : Nat) (t : JobTable) : (s.setTable b t).feeder = s.feeder := rfl
@[simp] theorem State.setTable_cranes (s : State) (b : Nat) (t : JobTable) : (s.setTable b t).cranes = s.cranes := rfl
@[simp] theorem State.setTable_ports (s : State) (b : Nat) (t : JobTable) : (s.setTable b t).ports = s.ports := rfl
@[simp] theorem State.setTable_hallStop (s : State) (b : Nat) (t : JobTable) : (s.setTable b t).hallStop = s.hallStop := rfl
@[simp] theorem State.setTable_links (s : State) (b : Nat) (t : JobTable) : (s.setTable b t).links = s.links := rfl
@[simp] theorem State.setTable_alerts (s : State) (b : Nat) (t : JobTable) : (s.setTable b t).alerts = s.alerts := rfl
@[simp] theorem State.setTable_overflow (s : State) (b : Nat) (t : JobTable) : (s.setTable b t).overflow = s.overflow := rfl
@[simp] theorem State.setTable_params (s : State) (b : Nat) (t : JobTable) : (s.setTable b t).params = s.params := rfl
@[simp] theorem State.setTable_image (s : State) (b : Nat) (t : JobTable) : (s.setTable b t).image = s.image := rfl
@[simp] theorem State.setTable_causes (s : State) (b : Nat) (t : JobTable) : (s.setTable b t).causes = s.causes := rfl
@[simp] theorem State.setTable_hold (s : State) (b : Nat) (t : JobTable) : (s.setTable b t).hold = s.hold := rfl
@[simp] theorem State.setTable_restart (s : State) (b : Nat) (t : JobTable) : (s.setTable b t).restart = s.restart := rfl
@[simp] theorem State.setTable_pending (s : State) (b : Nat) (t : JobTable) : (s.setTable b t).pending = s.pending := rfl

/-! ### `setLog` -/

@[simp] theorem State.setLog_zones (s : State) (b : Nat) (l : CompletionLog) : (s.setLog b l).zones = s.zones := rfl
@[simp] theorem State.setLog_bindings (s : State) (b : Nat) (l : CompletionLog) : (s.setLog b l).bindings = s.bindings := rfl
@[simp] theorem State.setLog_records (s : State) (b : Nat) (l : CompletionLog) : (s.setLog b l).records = s.records := rfl
@[simp] theorem State.setLog_tables (s : State) (b : Nat) (l : CompletionLog) : (s.setLog b l).tables = s.tables := rfl
@[simp] theorem State.setLog_torches (s : State) (b : Nat) (l : CompletionLog) : (s.setLog b l).torches = s.torches := rfl
@[simp] theorem State.setLog_startQueue (s : State) (b : Nat) (l : CompletionLog) : (s.setLog b l).startQueue = s.startQueue := rfl
@[simp] theorem State.setLog_committed (s : State) (b : Nat) (l : CompletionLog) : (s.setLog b l).committed = s.committed := rfl
@[simp] theorem State.setLog_feeder (s : State) (b : Nat) (l : CompletionLog) : (s.setLog b l).feeder = s.feeder := rfl
@[simp] theorem State.setLog_cranes (s : State) (b : Nat) (l : CompletionLog) : (s.setLog b l).cranes = s.cranes := rfl
@[simp] theorem State.setLog_ports (s : State) (b : Nat) (l : CompletionLog) : (s.setLog b l).ports = s.ports := rfl
@[simp] theorem State.setLog_hallStop (s : State) (b : Nat) (l : CompletionLog) : (s.setLog b l).hallStop = s.hallStop := rfl
@[simp] theorem State.setLog_links (s : State) (b : Nat) (l : CompletionLog) : (s.setLog b l).links = s.links := rfl
@[simp] theorem State.setLog_alerts (s : State) (b : Nat) (l : CompletionLog) : (s.setLog b l).alerts = s.alerts := rfl
@[simp] theorem State.setLog_overflow (s : State) (b : Nat) (l : CompletionLog) : (s.setLog b l).overflow = s.overflow := rfl
@[simp] theorem State.setLog_params (s : State) (b : Nat) (l : CompletionLog) : (s.setLog b l).params = s.params := rfl
@[simp] theorem State.setLog_image (s : State) (b : Nat) (l : CompletionLog) : (s.setLog b l).image = s.image := rfl
@[simp] theorem State.setLog_causes (s : State) (b : Nat) (l : CompletionLog) : (s.setLog b l).causes = s.causes := rfl
@[simp] theorem State.setLog_hold (s : State) (b : Nat) (l : CompletionLog) : (s.setLog b l).hold = s.hold := rfl
@[simp] theorem State.setLog_restart (s : State) (b : Nat) (l : CompletionLog) : (s.setLog b l).restart = s.restart := rfl
@[simp] theorem State.setLog_pending (s : State) (b : Nat) (l : CompletionLog) : (s.setLog b l).pending = s.pending := rfl

/-! ### `setBinding` -/

@[simp] theorem State.setBinding_zones (s : State) (p : Port) (b : Binding) : (s.setBinding p b).zones = s.zones := rfl
@[simp] theorem State.setBinding_records (s : State) (p : Port) (b : Binding) : (s.setBinding p b).records = s.records := rfl
@[simp] theorem State.setBinding_tables (s : State) (p : Port) (b : Binding) : (s.setBinding p b).tables = s.tables := rfl
@[simp] theorem State.setBinding_logs (s : State) (p : Port) (b : Binding) : (s.setBinding p b).logs = s.logs := rfl
@[simp] theorem State.setBinding_torches (s : State) (p : Port) (b : Binding) : (s.setBinding p b).torches = s.torches := rfl
@[simp] theorem State.setBinding_startQueue (s : State) (p : Port) (b : Binding) : (s.setBinding p b).startQueue = s.startQueue := rfl
@[simp] theorem State.setBinding_committed (s : State) (p : Port) (b : Binding) : (s.setBinding p b).committed = s.committed := rfl
@[simp] theorem State.setBinding_feeder (s : State) (p : Port) (b : Binding) : (s.setBinding p b).feeder = s.feeder := rfl
@[simp] theorem State.setBinding_cranes (s : State) (p : Port) (b : Binding) : (s.setBinding p b).cranes = s.cranes := rfl
@[simp] theorem State.setBinding_ports (s : State) (p : Port) (b : Binding) : (s.setBinding p b).ports = s.ports := rfl
@[simp] theorem State.setBinding_hallStop (s : State) (p : Port) (b : Binding) : (s.setBinding p b).hallStop = s.hallStop := rfl
@[simp] theorem State.setBinding_links (s : State) (p : Port) (b : Binding) : (s.setBinding p b).links = s.links := rfl
@[simp] theorem State.setBinding_alerts (s : State) (p : Port) (b : Binding) : (s.setBinding p b).alerts = s.alerts := rfl
@[simp] theorem State.setBinding_overflow (s : State) (p : Port) (b : Binding) : (s.setBinding p b).overflow = s.overflow := rfl
@[simp] theorem State.setBinding_params (s : State) (p : Port) (b : Binding) : (s.setBinding p b).params = s.params := rfl
@[simp] theorem State.setBinding_image (s : State) (p : Port) (b : Binding) : (s.setBinding p b).image = s.image := rfl
@[simp] theorem State.setBinding_causes (s : State) (p : Port) (b : Binding) : (s.setBinding p b).causes = s.causes := rfl
@[simp] theorem State.setBinding_hold (s : State) (p : Port) (b : Binding) : (s.setBinding p b).hold = s.hold := rfl
@[simp] theorem State.setBinding_restart (s : State) (p : Port) (b : Binding) : (s.setBinding p b).restart = s.restart := rfl
@[simp] theorem State.setBinding_pending (s : State) (p : Port) (b : Binding) : (s.setBinding p b).pending = s.pending := rfl

/-! ### `setTorch` -/

@[simp] theorem State.setTorch_zones (s : State) (p : Port) (t : Torch) : (s.setTorch p t).zones = s.zones := rfl
@[simp] theorem State.setTorch_bindings (s : State) (p : Port) (t : Torch) : (s.setTorch p t).bindings = s.bindings := rfl
@[simp] theorem State.setTorch_records (s : State) (p : Port) (t : Torch) : (s.setTorch p t).records = s.records := rfl
@[simp] theorem State.setTorch_tables (s : State) (p : Port) (t : Torch) : (s.setTorch p t).tables = s.tables := rfl
@[simp] theorem State.setTorch_logs (s : State) (p : Port) (t : Torch) : (s.setTorch p t).logs = s.logs := rfl
@[simp] theorem State.setTorch_startQueue (s : State) (p : Port) (t : Torch) : (s.setTorch p t).startQueue = s.startQueue := rfl
@[simp] theorem State.setTorch_feeder (s : State) (p : Port) (t : Torch) : (s.setTorch p t).feeder = s.feeder := rfl
@[simp] theorem State.setTorch_cranes (s : State) (p : Port) (t : Torch) : (s.setTorch p t).cranes = s.cranes := rfl
@[simp] theorem State.setTorch_ports (s : State) (p : Port) (t : Torch) : (s.setTorch p t).ports = s.ports := rfl
@[simp] theorem State.setTorch_hallStop (s : State) (p : Port) (t : Torch) : (s.setTorch p t).hallStop = s.hallStop := rfl
@[simp] theorem State.setTorch_links (s : State) (p : Port) (t : Torch) : (s.setTorch p t).links = s.links := rfl
@[simp] theorem State.setTorch_alerts (s : State) (p : Port) (t : Torch) : (s.setTorch p t).alerts = s.alerts := rfl
@[simp] theorem State.setTorch_overflow (s : State) (p : Port) (t : Torch) : (s.setTorch p t).overflow = s.overflow := rfl
@[simp] theorem State.setTorch_params (s : State) (p : Port) (t : Torch) : (s.setTorch p t).params = s.params := rfl
@[simp] theorem State.setTorch_image (s : State) (p : Port) (t : Torch) : (s.setTorch p t).image = s.image := rfl
@[simp] theorem State.setTorch_causes (s : State) (p : Port) (t : Torch) : (s.setTorch p t).causes = s.causes := rfl
@[simp] theorem State.setTorch_hold (s : State) (p : Port) (t : Torch) : (s.setTorch p t).hold = s.hold := rfl
@[simp] theorem State.setTorch_restart (s : State) (p : Port) (t : Torch) : (s.setTorch p t).restart = s.restart := rfl
@[simp] theorem State.setTorch_pending (s : State) (p : Port) (t : Torch) : (s.setTorch p t).pending = s.pending := rfl

/-! ### `setCrane` -/

@[simp] theorem State.setCrane_zones (s : State) (p : Port) (c : Crane) : (s.setCrane p c).zones = s.zones := rfl
@[simp] theorem State.setCrane_bindings (s : State) (p : Port) (c : Crane) : (s.setCrane p c).bindings = s.bindings := rfl
@[simp] theorem State.setCrane_records (s : State) (p : Port) (c : Crane) : (s.setCrane p c).records = s.records := rfl
@[simp] theorem State.setCrane_tables (s : State) (p : Port) (c : Crane) : (s.setCrane p c).tables = s.tables := rfl
@[simp] theorem State.setCrane_logs (s : State) (p : Port) (c : Crane) : (s.setCrane p c).logs = s.logs := rfl
@[simp] theorem State.setCrane_torches (s : State) (p : Port) (c : Crane) : (s.setCrane p c).torches = s.torches := rfl
@[simp] theorem State.setCrane_startQueue (s : State) (p : Port) (c : Crane) : (s.setCrane p c).startQueue = s.startQueue := rfl
@[simp] theorem State.setCrane_committed (s : State) (p : Port) (c : Crane) : (s.setCrane p c).committed = s.committed := rfl
@[simp] theorem State.setCrane_feeder (s : State) (p : Port) (c : Crane) : (s.setCrane p c).feeder = s.feeder := rfl
@[simp] theorem State.setCrane_ports (s : State) (p : Port) (c : Crane) : (s.setCrane p c).ports = s.ports := rfl
@[simp] theorem State.setCrane_hallStop (s : State) (p : Port) (c : Crane) : (s.setCrane p c).hallStop = s.hallStop := rfl
@[simp] theorem State.setCrane_links (s : State) (p : Port) (c : Crane) : (s.setCrane p c).links = s.links := rfl
@[simp] theorem State.setCrane_alerts (s : State) (p : Port) (c : Crane) : (s.setCrane p c).alerts = s.alerts := rfl
@[simp] theorem State.setCrane_overflow (s : State) (p : Port) (c : Crane) : (s.setCrane p c).overflow = s.overflow := rfl
@[simp] theorem State.setCrane_params (s : State) (p : Port) (c : Crane) : (s.setCrane p c).params = s.params := rfl
@[simp] theorem State.setCrane_image (s : State) (p : Port) (c : Crane) : (s.setCrane p c).image = s.image := rfl
@[simp] theorem State.setCrane_causes (s : State) (p : Port) (c : Crane) : (s.setCrane p c).causes = s.causes := rfl
@[simp] theorem State.setCrane_hold (s : State) (p : Port) (c : Crane) : (s.setCrane p c).hold = s.hold := rfl
@[simp] theorem State.setCrane_restart (s : State) (p : Port) (c : Crane) : (s.setCrane p c).restart = s.restart := rfl
@[simp] theorem State.setCrane_pending (s : State) (p : Port) (c : Crane) : (s.setCrane p c).pending = s.pending := rfl

/-! ### `setPort` -/

@[simp] theorem State.setPort_zones (s : State) (p : Port) (r : PortRecord) : (s.setPort p r).zones = s.zones := rfl
@[simp] theorem State.setPort_bindings (s : State) (p : Port) (r : PortRecord) : (s.setPort p r).bindings = s.bindings := rfl
@[simp] theorem State.setPort_records (s : State) (p : Port) (r : PortRecord) : (s.setPort p r).records = s.records := rfl
@[simp] theorem State.setPort_tables (s : State) (p : Port) (r : PortRecord) : (s.setPort p r).tables = s.tables := rfl
@[simp] theorem State.setPort_logs (s : State) (p : Port) (r : PortRecord) : (s.setPort p r).logs = s.logs := rfl
@[simp] theorem State.setPort_torches (s : State) (p : Port) (r : PortRecord) : (s.setPort p r).torches = s.torches := rfl
@[simp] theorem State.setPort_startQueue (s : State) (p : Port) (r : PortRecord) : (s.setPort p r).startQueue = s.startQueue := rfl
@[simp] theorem State.setPort_committed (s : State) (p : Port) (r : PortRecord) : (s.setPort p r).committed = s.committed := rfl
@[simp] theorem State.setPort_feeder (s : State) (p : Port) (r : PortRecord) : (s.setPort p r).feeder = s.feeder := rfl
@[simp] theorem State.setPort_cranes (s : State) (p : Port) (r : PortRecord) : (s.setPort p r).cranes = s.cranes := rfl
@[simp] theorem State.setPort_hallStop (s : State) (p : Port) (r : PortRecord) : (s.setPort p r).hallStop = s.hallStop := rfl
@[simp] theorem State.setPort_links (s : State) (p : Port) (r : PortRecord) : (s.setPort p r).links = s.links := rfl
@[simp] theorem State.setPort_alerts (s : State) (p : Port) (r : PortRecord) : (s.setPort p r).alerts = s.alerts := rfl
@[simp] theorem State.setPort_overflow (s : State) (p : Port) (r : PortRecord) : (s.setPort p r).overflow = s.overflow := rfl
@[simp] theorem State.setPort_params (s : State) (p : Port) (r : PortRecord) : (s.setPort p r).params = s.params := rfl
@[simp] theorem State.setPort_image (s : State) (p : Port) (r : PortRecord) : (s.setPort p r).image = s.image := rfl
@[simp] theorem State.setPort_causes (s : State) (p : Port) (r : PortRecord) : (s.setPort p r).causes = s.causes := rfl
@[simp] theorem State.setPort_hold (s : State) (p : Port) (r : PortRecord) : (s.setPort p r).hold = s.hold := rfl
@[simp] theorem State.setPort_restart (s : State) (p : Port) (r : PortRecord) : (s.setPort p r).restart = s.restart := rfl
@[simp] theorem State.setPort_pending (s : State) (p : Port) (r : PortRecord) : (s.setPort p r).pending = s.pending := rfl

/-! ### `setLink` -/

@[simp] theorem State.setLink_zones (s : State) (p : Port) (l : Link) : (s.setLink p l).zones = s.zones := rfl
@[simp] theorem State.setLink_bindings (s : State) (p : Port) (l : Link) : (s.setLink p l).bindings = s.bindings := rfl
@[simp] theorem State.setLink_records (s : State) (p : Port) (l : Link) : (s.setLink p l).records = s.records := rfl
@[simp] theorem State.setLink_tables (s : State) (p : Port) (l : Link) : (s.setLink p l).tables = s.tables := rfl
@[simp] theorem State.setLink_logs (s : State) (p : Port) (l : Link) : (s.setLink p l).logs = s.logs := rfl
@[simp] theorem State.setLink_torches (s : State) (p : Port) (l : Link) : (s.setLink p l).torches = s.torches := rfl
@[simp] theorem State.setLink_startQueue (s : State) (p : Port) (l : Link) : (s.setLink p l).startQueue = s.startQueue := rfl
@[simp] theorem State.setLink_committed (s : State) (p : Port) (l : Link) : (s.setLink p l).committed = s.committed := rfl
@[simp] theorem State.setLink_feeder (s : State) (p : Port) (l : Link) : (s.setLink p l).feeder = s.feeder := rfl
@[simp] theorem State.setLink_cranes (s : State) (p : Port) (l : Link) : (s.setLink p l).cranes = s.cranes := rfl
@[simp] theorem State.setLink_ports (s : State) (p : Port) (l : Link) : (s.setLink p l).ports = s.ports := rfl
@[simp] theorem State.setLink_hallStop (s : State) (p : Port) (l : Link) : (s.setLink p l).hallStop = s.hallStop := rfl
@[simp] theorem State.setLink_alerts (s : State) (p : Port) (l : Link) : (s.setLink p l).alerts = s.alerts := rfl
@[simp] theorem State.setLink_overflow (s : State) (p : Port) (l : Link) : (s.setLink p l).overflow = s.overflow := rfl
@[simp] theorem State.setLink_params (s : State) (p : Port) (l : Link) : (s.setLink p l).params = s.params := rfl
@[simp] theorem State.setLink_image (s : State) (p : Port) (l : Link) : (s.setLink p l).image = s.image := rfl
@[simp] theorem State.setLink_causes (s : State) (p : Port) (l : Link) : (s.setLink p l).causes = s.causes := rfl
@[simp] theorem State.setLink_hold (s : State) (p : Port) (l : Link) : (s.setLink p l).hold = s.hold := rfl
@[simp] theorem State.setLink_restart (s : State) (p : Port) (l : Link) : (s.setLink p l).restart = s.restart := rfl
@[simp] theorem State.setLink_pending (s : State) (p : Port) (l : Link) : (s.setLink p l).pending = s.pending := rfl

/-! ### `setRecord` -/

@[simp] theorem State.setRecord_zones (s : State) (id : Nat) (f : Plate → Plate) : (s.setRecord id f).zones = s.zones := rfl
@[simp] theorem State.setRecord_bindings (s : State) (id : Nat) (f : Plate → Plate) : (s.setRecord id f).bindings = s.bindings := rfl
@[simp] theorem State.setRecord_tables (s : State) (id : Nat) (f : Plate → Plate) : (s.setRecord id f).tables = s.tables := rfl
@[simp] theorem State.setRecord_logs (s : State) (id : Nat) (f : Plate → Plate) : (s.setRecord id f).logs = s.logs := rfl
@[simp] theorem State.setRecord_torches (s : State) (id : Nat) (f : Plate → Plate) : (s.setRecord id f).torches = s.torches := rfl
@[simp] theorem State.setRecord_startQueue (s : State) (id : Nat) (f : Plate → Plate) : (s.setRecord id f).startQueue = s.startQueue := rfl
@[simp] theorem State.setRecord_committed (s : State) (id : Nat) (f : Plate → Plate) : (s.setRecord id f).committed = s.committed := rfl
@[simp] theorem State.setRecord_feeder (s : State) (id : Nat) (f : Plate → Plate) : (s.setRecord id f).feeder = s.feeder := rfl
@[simp] theorem State.setRecord_cranes (s : State) (id : Nat) (f : Plate → Plate) : (s.setRecord id f).cranes = s.cranes := rfl
@[simp] theorem State.setRecord_ports (s : State) (id : Nat) (f : Plate → Plate) : (s.setRecord id f).ports = s.ports := rfl
@[simp] theorem State.setRecord_hallStop (s : State) (id : Nat) (f : Plate → Plate) : (s.setRecord id f).hallStop = s.hallStop := rfl
@[simp] theorem State.setRecord_links (s : State) (id : Nat) (f : Plate → Plate) : (s.setRecord id f).links = s.links := rfl
@[simp] theorem State.setRecord_alerts (s : State) (id : Nat) (f : Plate → Plate) : (s.setRecord id f).alerts = s.alerts := rfl
@[simp] theorem State.setRecord_overflow (s : State) (id : Nat) (f : Plate → Plate) : (s.setRecord id f).overflow = s.overflow := rfl
@[simp] theorem State.setRecord_params (s : State) (id : Nat) (f : Plate → Plate) : (s.setRecord id f).params = s.params := rfl
@[simp] theorem State.setRecord_image (s : State) (id : Nat) (f : Plate → Plate) : (s.setRecord id f).image = s.image := rfl
@[simp] theorem State.setRecord_causes (s : State) (id : Nat) (f : Plate → Plate) : (s.setRecord id f).causes = s.causes := rfl
@[simp] theorem State.setRecord_hold (s : State) (id : Nat) (f : Plate → Plate) : (s.setRecord id f).hold = s.hold := rfl
@[simp] theorem State.setRecord_restart (s : State) (id : Nat) (f : Plate → Plate) : (s.setRecord id f).restart = s.restart := rfl
@[simp] theorem State.setRecord_pending (s : State) (id : Nat) (f : Plate → Plate) : (s.setRecord id f).pending = s.pending := rfl

/-! ### `addRecord` -/

@[simp] theorem State.addRecord_zones (s : State) (r : Plate) : (s.addRecord r).zones = s.zones := rfl
@[simp] theorem State.addRecord_bindings (s : State) (r : Plate) : (s.addRecord r).bindings = s.bindings := rfl
@[simp] theorem State.addRecord_tables (s : State) (r : Plate) : (s.addRecord r).tables = s.tables := rfl
@[simp] theorem State.addRecord_logs (s : State) (r : Plate) : (s.addRecord r).logs = s.logs := rfl
@[simp] theorem State.addRecord_torches (s : State) (r : Plate) : (s.addRecord r).torches = s.torches := rfl
@[simp] theorem State.addRecord_startQueue (s : State) (r : Plate) : (s.addRecord r).startQueue = s.startQueue := rfl
@[simp] theorem State.addRecord_committed (s : State) (r : Plate) : (s.addRecord r).committed = s.committed := rfl
@[simp] theorem State.addRecord_feeder (s : State) (r : Plate) : (s.addRecord r).feeder = s.feeder := rfl
@[simp] theorem State.addRecord_cranes (s : State) (r : Plate) : (s.addRecord r).cranes = s.cranes := rfl
@[simp] theorem State.addRecord_ports (s : State) (r : Plate) : (s.addRecord r).ports = s.ports := rfl
@[simp] theorem State.addRecord_hallStop (s : State) (r : Plate) : (s.addRecord r).hallStop = s.hallStop := rfl
@[simp] theorem State.addRecord_links (s : State) (r : Plate) : (s.addRecord r).links = s.links := rfl
@[simp] theorem State.addRecord_alerts (s : State) (r : Plate) : (s.addRecord r).alerts = s.alerts := rfl
@[simp] theorem State.addRecord_overflow (s : State) (r : Plate) : (s.addRecord r).overflow = s.overflow := rfl
@[simp] theorem State.addRecord_params (s : State) (r : Plate) : (s.addRecord r).params = s.params := rfl
@[simp] theorem State.addRecord_image (s : State) (r : Plate) : (s.addRecord r).image = s.image := rfl
@[simp] theorem State.addRecord_causes (s : State) (r : Plate) : (s.addRecord r).causes = s.causes := rfl
@[simp] theorem State.addRecord_hold (s : State) (r : Plate) : (s.addRecord r).hold = s.hold := rfl
@[simp] theorem State.addRecord_restart (s : State) (r : Plate) : (s.addRecord r).restart = s.restart := rfl
@[simp] theorem State.addRecord_pending (s : State) (r : Plate) : (s.addRecord r).pending = s.pending := rfl

/-! ### `clearInParent` -/

@[simp] theorem State.clearInParent_zones (s : State) (id : Nat) : (s.clearInParent id).zones = s.zones := rfl
@[simp] theorem State.clearInParent_bindings (s : State) (id : Nat) : (s.clearInParent id).bindings = s.bindings := rfl
@[simp] theorem State.clearInParent_tables (s : State) (id : Nat) : (s.clearInParent id).tables = s.tables := rfl
@[simp] theorem State.clearInParent_logs (s : State) (id : Nat) : (s.clearInParent id).logs = s.logs := rfl
@[simp] theorem State.clearInParent_torches (s : State) (id : Nat) : (s.clearInParent id).torches = s.torches := rfl
@[simp] theorem State.clearInParent_startQueue (s : State) (id : Nat) : (s.clearInParent id).startQueue = s.startQueue := rfl
@[simp] theorem State.clearInParent_committed (s : State) (id : Nat) : (s.clearInParent id).committed = s.committed := rfl
@[simp] theorem State.clearInParent_feeder (s : State) (id : Nat) : (s.clearInParent id).feeder = s.feeder := rfl
@[simp] theorem State.clearInParent_cranes (s : State) (id : Nat) : (s.clearInParent id).cranes = s.cranes := rfl
@[simp] theorem State.clearInParent_ports (s : State) (id : Nat) : (s.clearInParent id).ports = s.ports := rfl
@[simp] theorem State.clearInParent_hallStop (s : State) (id : Nat) : (s.clearInParent id).hallStop = s.hallStop := rfl
@[simp] theorem State.clearInParent_links (s : State) (id : Nat) : (s.clearInParent id).links = s.links := rfl
@[simp] theorem State.clearInParent_alerts (s : State) (id : Nat) : (s.clearInParent id).alerts = s.alerts := rfl
@[simp] theorem State.clearInParent_overflow (s : State) (id : Nat) : (s.clearInParent id).overflow = s.overflow := rfl
@[simp] theorem State.clearInParent_params (s : State) (id : Nat) : (s.clearInParent id).params = s.params := rfl
@[simp] theorem State.clearInParent_image (s : State) (id : Nat) : (s.clearInParent id).image = s.image := rfl
@[simp] theorem State.clearInParent_causes (s : State) (id : Nat) : (s.clearInParent id).causes = s.causes := rfl
@[simp] theorem State.clearInParent_hold (s : State) (id : Nat) : (s.clearInParent id).hold = s.hold := rfl
@[simp] theorem State.clearInParent_restart (s : State) (id : Nat) : (s.clearInParent id).restart = s.restart := rfl
@[simp] theorem State.clearInParent_pending (s : State) (id : Nat) : (s.clearInParent id).pending = s.pending := rfl

/-! ### `deleteRecord` -/

@[simp] theorem State.deleteRecord_zones (s : State) (id : Nat) : (s.deleteRecord id).zones = s.zones := rfl
@[simp] theorem State.deleteRecord_bindings (s : State) (id : Nat) : (s.deleteRecord id).bindings = s.bindings := rfl
@[simp] theorem State.deleteRecord_tables (s : State) (id : Nat) : (s.deleteRecord id).tables = s.tables := rfl
@[simp] theorem State.deleteRecord_logs (s : State) (id : Nat) : (s.deleteRecord id).logs = s.logs := rfl
@[simp] theorem State.deleteRecord_torches (s : State) (id : Nat) : (s.deleteRecord id).torches = s.torches := rfl
@[simp] theorem State.deleteRecord_startQueue (s : State) (id : Nat) : (s.deleteRecord id).startQueue = s.startQueue := rfl
@[simp] theorem State.deleteRecord_committed (s : State) (id : Nat) : (s.deleteRecord id).committed = s.committed := rfl
@[simp] theorem State.deleteRecord_feeder (s : State) (id : Nat) : (s.deleteRecord id).feeder = s.feeder := rfl
@[simp] theorem State.deleteRecord_cranes (s : State) (id : Nat) : (s.deleteRecord id).cranes = s.cranes := rfl
@[simp] theorem State.deleteRecord_ports (s : State) (id : Nat) : (s.deleteRecord id).ports = s.ports := rfl
@[simp] theorem State.deleteRecord_hallStop (s : State) (id : Nat) : (s.deleteRecord id).hallStop = s.hallStop := rfl
@[simp] theorem State.deleteRecord_links (s : State) (id : Nat) : (s.deleteRecord id).links = s.links := rfl
@[simp] theorem State.deleteRecord_alerts (s : State) (id : Nat) : (s.deleteRecord id).alerts = s.alerts := rfl
@[simp] theorem State.deleteRecord_overflow (s : State) (id : Nat) : (s.deleteRecord id).overflow = s.overflow := rfl
@[simp] theorem State.deleteRecord_params (s : State) (id : Nat) : (s.deleteRecord id).params = s.params := rfl
@[simp] theorem State.deleteRecord_image (s : State) (id : Nat) : (s.deleteRecord id).image = s.image := rfl
@[simp] theorem State.deleteRecord_causes (s : State) (id : Nat) : (s.deleteRecord id).causes = s.causes := rfl
@[simp] theorem State.deleteRecord_hold (s : State) (id : Nat) : (s.deleteRecord id).hold = s.hold := rfl
@[simp] theorem State.deleteRecord_restart (s : State) (id : Nat) : (s.deleteRecord id).restart = s.restart := rfl
@[simp] theorem State.deleteRecord_pending (s : State) (id : Nat) : (s.deleteRecord id).pending = s.pending := rfl

/-! ### `closeUp` -/

@[simp] theorem State.closeUp_zones (s : State) (k : Nat) : (s.closeUp k).zones = s.zones := rfl
@[simp] theorem State.closeUp_bindings (s : State) (k : Nat) : (s.closeUp k).bindings = s.bindings := rfl
@[simp] theorem State.closeUp_records (s : State) (k : Nat) : (s.closeUp k).records = s.records := rfl
@[simp] theorem State.closeUp_tables (s : State) (k : Nat) : (s.closeUp k).tables = s.tables := rfl
@[simp] theorem State.closeUp_logs (s : State) (k : Nat) : (s.closeUp k).logs = s.logs := rfl
@[simp] theorem State.closeUp_startQueue (s : State) (k : Nat) : (s.closeUp k).startQueue = s.startQueue := rfl
@[simp] theorem State.closeUp_committed (s : State) (k : Nat) : (s.closeUp k).committed = s.committed := rfl
@[simp] theorem State.closeUp_feeder (s : State) (k : Nat) : (s.closeUp k).feeder = s.feeder := rfl
@[simp] theorem State.closeUp_cranes (s : State) (k : Nat) : (s.closeUp k).cranes = s.cranes := rfl
@[simp] theorem State.closeUp_ports (s : State) (k : Nat) : (s.closeUp k).ports = s.ports := rfl
@[simp] theorem State.closeUp_hallStop (s : State) (k : Nat) : (s.closeUp k).hallStop = s.hallStop := rfl
@[simp] theorem State.closeUp_links (s : State) (k : Nat) : (s.closeUp k).links = s.links := rfl
@[simp] theorem State.closeUp_alerts (s : State) (k : Nat) : (s.closeUp k).alerts = s.alerts := rfl
@[simp] theorem State.closeUp_overflow (s : State) (k : Nat) : (s.closeUp k).overflow = s.overflow := rfl
@[simp] theorem State.closeUp_params (s : State) (k : Nat) : (s.closeUp k).params = s.params := rfl
@[simp] theorem State.closeUp_image (s : State) (k : Nat) : (s.closeUp k).image = s.image := rfl
@[simp] theorem State.closeUp_causes (s : State) (k : Nat) : (s.closeUp k).causes = s.causes := rfl
@[simp] theorem State.closeUp_hold (s : State) (k : Nat) : (s.closeUp k).hold = s.hold := rfl
@[simp] theorem State.closeUp_restart (s : State) (k : Nat) : (s.closeUp k).restart = s.restart := rfl
@[simp] theorem State.closeUp_pending (s : State) (k : Nat) : (s.closeUp k).pending = s.pending := rfl

/-! ### `unqueue` -/

@[simp] theorem State.unqueue_zones (s : State) (p : Port) : (s.unqueue p).zones = s.zones := rfl
@[simp] theorem State.unqueue_bindings (s : State) (p : Port) : (s.unqueue p).bindings = s.bindings := rfl
@[simp] theorem State.unqueue_records (s : State) (p : Port) : (s.unqueue p).records = s.records := rfl
@[simp] theorem State.unqueue_tables (s : State) (p : Port) : (s.unqueue p).tables = s.tables := rfl
@[simp] theorem State.unqueue_logs (s : State) (p : Port) : (s.unqueue p).logs = s.logs := rfl
@[simp] theorem State.unqueue_torches (s : State) (p : Port) : (s.unqueue p).torches = s.torches := rfl
@[simp] theorem State.unqueue_committed (s : State) (p : Port) : (s.unqueue p).committed = s.committed := rfl
@[simp] theorem State.unqueue_feeder (s : State) (p : Port) : (s.unqueue p).feeder = s.feeder := rfl
@[simp] theorem State.unqueue_cranes (s : State) (p : Port) : (s.unqueue p).cranes = s.cranes := rfl
@[simp] theorem State.unqueue_ports (s : State) (p : Port) : (s.unqueue p).ports = s.ports := rfl
@[simp] theorem State.unqueue_hallStop (s : State) (p : Port) : (s.unqueue p).hallStop = s.hallStop := rfl
@[simp] theorem State.unqueue_links (s : State) (p : Port) : (s.unqueue p).links = s.links := rfl
@[simp] theorem State.unqueue_alerts (s : State) (p : Port) : (s.unqueue p).alerts = s.alerts := rfl
@[simp] theorem State.unqueue_overflow (s : State) (p : Port) : (s.unqueue p).overflow = s.overflow := rfl
@[simp] theorem State.unqueue_params (s : State) (p : Port) : (s.unqueue p).params = s.params := rfl
@[simp] theorem State.unqueue_image (s : State) (p : Port) : (s.unqueue p).image = s.image := rfl
@[simp] theorem State.unqueue_causes (s : State) (p : Port) : (s.unqueue p).causes = s.causes := rfl
@[simp] theorem State.unqueue_hold (s : State) (p : Port) : (s.unqueue p).hold = s.hold := rfl
@[simp] theorem State.unqueue_restart (s : State) (p : Port) : (s.unqueue p).restart = s.restart := rfl
@[simp] theorem State.unqueue_pending (s : State) (p : Port) : (s.unqueue p).pending = s.pending := rfl

/-! ### `recompute` -/

@[simp] theorem State.recompute_zones (s : State) : s.recompute.zones = s.zones := rfl
@[simp] theorem State.recompute_bindings (s : State) : s.recompute.bindings = s.bindings := rfl
@[simp] theorem State.recompute_records (s : State) : s.recompute.records = s.records := rfl
@[simp] theorem State.recompute_tables (s : State) : s.recompute.tables = s.tables := rfl
@[simp] theorem State.recompute_logs (s : State) : s.recompute.logs = s.logs := rfl
@[simp] theorem State.recompute_torches (s : State) : s.recompute.torches = s.torches := rfl
@[simp] theorem State.recompute_startQueue (s : State) : s.recompute.startQueue = s.startQueue := rfl
@[simp] theorem State.recompute_committed (s : State) : s.recompute.committed = s.committed := rfl
@[simp] theorem State.recompute_cranes (s : State) : s.recompute.cranes = s.cranes := rfl
@[simp] theorem State.recompute_ports (s : State) : s.recompute.ports = s.ports := rfl
@[simp] theorem State.recompute_hallStop (s : State) : s.recompute.hallStop = s.hallStop := rfl
@[simp] theorem State.recompute_links (s : State) : s.recompute.links = s.links := rfl
@[simp] theorem State.recompute_alerts (s : State) : s.recompute.alerts = s.alerts := rfl
@[simp] theorem State.recompute_overflow (s : State) : s.recompute.overflow = s.overflow := rfl
@[simp] theorem State.recompute_params (s : State) : s.recompute.params = s.params := rfl
@[simp] theorem State.recompute_image (s : State) : s.recompute.image = s.image := rfl
@[simp] theorem State.recompute_causes (s : State) : s.recompute.causes = s.causes := rfl
@[simp] theorem State.recompute_hold (s : State) : s.recompute.hold = s.hold := rfl
@[simp] theorem State.recompute_restart (s : State) : s.recompute.restart = s.restart := rfl
@[simp] theorem State.recompute_pending (s : State) : s.recompute.pending = s.pending := rfl

/-! ### `settle` -/

@[simp] theorem State.settle_zones (s : State) : s.settle.zones = s.zones := rfl
@[simp] theorem State.settle_bindings (s : State) : s.settle.bindings = s.bindings := rfl
@[simp] theorem State.settle_records (s : State) : s.settle.records = s.records := rfl
@[simp] theorem State.settle_tables (s : State) : s.settle.tables = s.tables := rfl
@[simp] theorem State.settle_logs (s : State) : s.settle.logs = s.logs := rfl
@[simp] theorem State.settle_torches (s : State) : s.settle.torches = s.torches := rfl
@[simp] theorem State.settle_startQueue (s : State) : s.settle.startQueue = s.startQueue := rfl
@[simp] theorem State.settle_committed (s : State) : s.settle.committed = s.committed := rfl
@[simp] theorem State.settle_feeder (s : State) : s.settle.feeder = s.feeder := rfl
@[simp] theorem State.settle_cranes (s : State) : s.settle.cranes = s.cranes := rfl
@[simp] theorem State.settle_ports (s : State) : s.settle.ports = s.ports := rfl
@[simp] theorem State.settle_hallStop (s : State) : s.settle.hallStop = s.hallStop := rfl
@[simp] theorem State.settle_alerts (s : State) : s.settle.alerts = s.alerts := rfl
@[simp] theorem State.settle_overflow (s : State) : s.settle.overflow = s.overflow := rfl
@[simp] theorem State.settle_params (s : State) : s.settle.params = s.params := rfl
@[simp] theorem State.settle_image (s : State) : s.settle.image = s.image := rfl
@[simp] theorem State.settle_causes (s : State) : s.settle.causes = s.causes := rfl
@[simp] theorem State.settle_hold (s : State) : s.settle.hold = s.hold := rfl
@[simp] theorem State.settle_restart (s : State) : s.settle.restart = s.restart := rfl
@[simp] theorem State.settle_pending (s : State) : s.settle.pending = s.pending := rfl

/-! ### An accessor after the update of its own bank -/

theorem State.torch_setTorch (s : State) (p q : Port) (t : Torch) :
    (s.setTorch p t).torch q = if p = q then t else s.torch q := by
  simp [State.torch, State.setTorch, Vector.getElem_set, Fin.ext_iff]

theorem State.crane_setCrane (s : State) (p q : Port) (c : Crane) :
    (s.setCrane p c).crane q = if p = q then c else s.crane q := by
  simp [State.crane, State.setCrane, Vector.getElem_set, Fin.ext_iff]

theorem State.port_setPort (s : State) (p q : Port) (r : PortRecord) :
    (s.setPort p r).port q = if p = q then r else s.port q := by
  simp [State.port, State.setPort, Vector.getElem_set, Fin.ext_iff]

theorem State.link_setLink (s : State) (p q : Port) (l : Link) :
    (s.setLink p l).link q = if p = q then l else s.link q := by
  simp [State.link, State.setLink, Vector.getElem_set, Fin.ext_iff]

theorem State.binding_setBinding (s : State) (p q : Port) (b : Binding) :
    (s.setBinding p b).binding q = if p = q then b else s.binding q := by
  simp [State.binding, State.setBinding, Vector.getElem_set, Fin.ext_iff]

theorem State.zone_setZone (s : State) (z y : Nat) (e : Zone) :
    (s.setZone z e).zone y = if z = y ∧ y < 48 then e else s.zone y := by
  by_cases h : y < 48 <;> simp [State.zone, State.setZone, h, Vector.getElem_setIfInBounds]

theorem State.table_setTable (s : State) (b c : Nat) (t : JobTable) :
    (s.setTable b t).table c = if b = c ∧ c < 48 then t else s.table c := by
  by_cases h : c < 48 <;> simp [State.table, State.setTable, h, Vector.getElem_setIfInBounds]

theorem State.log_setLog (s : State) (b c : Nat) (l : CompletionLog) :
    (s.setLog b l).log c = if b = c ∧ c < 48 then l else s.log c := by
  by_cases h : c < 48 <;> simp [State.log, State.setLog, h, Vector.getElem_setIfInBounds]

/-- `onEach` is the map of a bank. -/
theorem onEach_eq_map {α β : Type} {n : Nat} (f : α → β) (v : Vector α n) : onEach f v = v.map f := by
  apply Vector.toArray_inj.mp
  simp [onEach, Array.ext_iff]

@[simp] theorem onEach_getElem {α β : Type} {n : Nat} (f : α → β) (v : Vector α n) (i : Nat) (h : i < n) :
    (onEach f v)[i] = f v[i] := by
  simp [onEach_eq_map]

@[simp] theorem State.torch_closeUp (s : State) (k : Nat) (p : Port) :
    (s.closeUp k).torch p = (s.torch p).closedUp k := by
  simp [State.torch, State.closeUp]

@[simp] theorem State.link_settle (s : State) (p : Port) : s.settle.link p = (s.link p).choose := by
  simp [State.link, State.settle]

end Sys2Proof.Machine
end

