-- ==== Sys2Proof/Laws/Ops.lean ====
section
/-! SUPPORT. What each shared operation can do: the fields it leaves alone, said once for each operation, and its effect
on those it changes. -/

namespace Sys2Proof.Machine

open Sys2Proof

/-! ## Frames -/

@[simp] theorem State.setUsed_frame (s : State) (z : Nat) (f : Bool) :
    (s.setUsed z f).bindings = s.bindings ∧ (s.setUsed z f).records = s.records ∧ (s.setUsed z f).tables = s.tables ∧
    (s.setUsed z f).logs = s.logs ∧ (s.setUsed z f).torches = s.torches ∧ (s.setUsed z f).startQueue = s.startQueue ∧
    (s.setUsed z f).committed = s.committed ∧ (s.setUsed z f).feeder = s.feeder ∧ (s.setUsed z f).cranes = s.cranes ∧
    (s.setUsed z f).ports = s.ports ∧ (s.setUsed z f).hallStop = s.hallStop ∧ (s.setUsed z f).links = s.links ∧
    (s.setUsed z f).alerts = s.alerts ∧ (s.setUsed z f).overflow = s.overflow ∧ (s.setUsed z f).params = s.params ∧
    (s.setUsed z f).image = s.image ∧ (s.setUsed z f).causes = s.causes ∧ (s.setUsed z f).hold = s.hold ∧
    (s.setUsed z f).restart = s.restart ∧ (s.setUsed z f).pending = s.pending := by
  simp [State.setUsed]

@[simp] theorem State.setJob_frame (s : State) (b n : Nat) (f : Job → Job) :
    (s.setJob b n f).zones = s.zones ∧ (s.setJob b n f).bindings = s.bindings ∧
    (s.setJob b n f).records = s.records ∧ (s.setJob b n f).logs = s.logs ∧ (s.setJob b n f).torches = s.torches ∧
    (s.setJob b n f).startQueue = s.startQueue ∧ (s.setJob b n f).committed = s.committed ∧
    (s.setJob b n f).feeder = s.feeder ∧ (s.setJob b n f).cranes = s.cranes ∧ (s.setJob b n f).ports = s.ports ∧
    (s.setJob b n f).hallStop = s.hallStop ∧ (s.setJob b n f).links = s.links ∧ (s.setJob b n f).alerts = s.alerts ∧
    (s.setJob b n f).overflow = s.overflow ∧ (s.setJob b n f).params = s.params ∧ (s.setJob b n f).image = s.image ∧
    (s.setJob b n f).causes = s.causes ∧ (s.setJob b n f).hold = s.hold ∧ (s.setJob b n f).restart = s.restart ∧
    (s.setJob b n f).pending = s.pending := by
  simp [State.setJob]

@[simp] theorem State.notify_frame (s : State) (p : Port) (n : Notice) :
    (s.notify p n).zones = s.zones ∧ (s.notify p n).bindings = s.bindings ∧ (s.notify p n).records = s.records ∧
    (s.notify p n).tables = s.tables ∧ (s.notify p n).logs = s.logs ∧ (s.notify p n).torches = s.torches ∧
    (s.notify p n).startQueue = s.startQueue ∧ (s.notify p n).committed = s.committed ∧
    (s.notify p n).feeder = s.feeder ∧ (s.notify p n).cranes = s.cranes ∧ (s.notify p n).ports = s.ports ∧
    (s.notify p n).hallStop = s.hallStop ∧ (s.notify p n).alerts = s.alerts ∧ (s.notify p n).overflow = s.overflow ∧
    (s.notify p n).params = s.params ∧ (s.notify p n).image = s.image ∧ (s.notify p n).causes = s.causes ∧
    (s.notify p n).hold = s.hold ∧ (s.notify p n).restart = s.restart ∧ (s.notify p n).pending = s.pending := by
  simp [State.notify]

@[simp] theorem State.notifyJob_frame (s : State) (p : Port) (t : Torch) (f : Nat → Nat → Notice) :
    (s.notifyJob p t f).zones = s.zones ∧ (s.notifyJob p t f).bindings = s.bindings ∧
    (s.notifyJob p t f).records = s.records ∧ (s.notifyJob p t f).tables = s.tables ∧
    (s.notifyJob p t f).logs = s.logs ∧ (s.notifyJob p t f).torches = s.torches ∧
    (s.notifyJob p t f).startQueue = s.startQueue ∧ (s.notifyJob p t f).committed = s.committed ∧
    (s.notifyJob p t f).feeder = s.feeder ∧ (s.notifyJob p t f).cranes = s.cranes ∧
    (s.notifyJob p t f).ports = s.ports ∧ (s.notifyJob p t f).hallStop = s.hallStop ∧
    (s.notifyJob p t f).alerts = s.alerts ∧ (s.notifyJob p t f).overflow = s.overflow ∧
    (s.notifyJob p t f).params = s.params ∧ (s.notifyJob p t f).image = s.image ∧
    (s.notifyJob p t f).causes = s.causes ∧ (s.notifyJob p t f).hold = s.hold ∧
    (s.notifyJob p t f).restart = s.restart ∧ (s.notifyJob p t f).pending = s.pending := by
  unfold State.notifyJob
  split <;> simp

@[simp] theorem State.raise_frame (s : State) (c : AlertCode) (n : Nat) :
    (s.raise c n).zones = s.zones ∧ (s.raise c n).bindings = s.bindings ∧ (s.raise c n).records = s.records ∧
    (s.raise c n).tables = s.tables ∧ (s.raise c n).logs = s.logs ∧ (s.raise c n).torches = s.torches ∧
    (s.raise c n).startQueue = s.startQueue ∧ (s.raise c n).committed = s.committed ∧
    (s.raise c n).feeder = s.feeder ∧ (s.raise c n).cranes = s.cranes ∧ (s.raise c n).ports = s.ports ∧
    (s.raise c n).hallStop = s.hallStop ∧ (s.raise c n).params = s.params ∧ (s.raise c n).image = s.image ∧
    (s.raise c n).causes = s.causes ∧ (s.raise c n).hold = s.hold ∧ (s.raise c n).restart = s.restart ∧
    (s.raise c n).pending = s.pending := by
  unfold State.raise
  split_ifs <;> simp

@[simp] theorem State.push_frame (s : State) (b : Nat) (r : LogRecord) :
    (s.push b r).zones = s.zones ∧ (s.push b r).bindings = s.bindings ∧ (s.push b r).records = s.records ∧
    (s.push b r).tables = s.tables ∧ (s.push b r).torches = s.torches ∧ (s.push b r).startQueue = s.startQueue ∧
    (s.push b r).committed = s.committed ∧ (s.push b r).feeder = s.feeder ∧ (s.push b r).cranes = s.cranes ∧
    (s.push b r).ports = s.ports ∧ (s.push b r).hallStop = s.hallStop ∧ (s.push b r).params = s.params ∧
    (s.push b r).image = s.image ∧ (s.push b r).causes = s.causes ∧ (s.push b r).hold = s.hold ∧
    (s.push b r).restart = s.restart ∧ (s.push b r).pending = s.pending := by
  simp only [State.push]
  split_ifs <;> simp

@[simp] theorem State.removeJob_frame (s : State) (b : Nat) (j : Job) (o : Completion) :
    (s.removeJob b j o).zones = s.zones ∧ (s.removeJob b j o).bindings = s.bindings ∧
    (s.removeJob b j o).records = s.records ∧ (s.removeJob b j o).torches = s.torches ∧
    (s.removeJob b j o).startQueue = s.startQueue ∧ (s.removeJob b j o).committed = s.committed ∧
    (s.removeJob b j o).feeder = s.feeder ∧ (s.removeJob b j o).cranes = s.cranes ∧
    (s.removeJob b j o).ports = s.ports ∧ (s.removeJob b j o).hallStop = s.hallStop ∧
    (s.removeJob b j o).params = s.params ∧ (s.removeJob b j o).image = s.image ∧
    (s.removeJob b j o).causes = s.causes ∧ (s.removeJob b j o).hold = s.hold ∧
    (s.removeJob b j o).restart = s.restart ∧ (s.removeJob b j o).pending = s.pending := by
  simp [State.removeJob]

@[simp] theorem State.stopJob_frame (s : State) (b : Nat) (j : Job) (f : Bool) :
    (s.stopJob b j f).zones = s.zones ∧ (s.stopJob b j f).bindings = s.bindings ∧
    (s.stopJob b j f).records = s.records ∧ (s.stopJob b j f).torches = s.torches ∧
    (s.stopJob b j f).startQueue = s.startQueue ∧ (s.stopJob b j f).committed = s.committed ∧
    (s.stopJob b j f).feeder = s.feeder ∧ (s.stopJob b j f).cranes = s.cranes ∧ (s.stopJob b j f).ports = s.ports ∧
    (s.stopJob b j f).hallStop = s.hallStop ∧ (s.stopJob b j f).params = s.params ∧
    (s.stopJob b j f).image = s.image ∧ (s.stopJob b j f).causes = s.causes ∧ (s.stopJob b j f).hold = s.hold ∧
    (s.stopJob b j f).restart = s.restart ∧ (s.stopJob b j f).pending = s.pending := by
  simp only [State.stopJob]
  split_ifs <;> simp

@[simp] theorem State.stopHeld_frame (s : State) (p : Port) (f : Bool) :
    (s.stopHeld p f).zones = s.zones ∧ (s.stopHeld p f).bindings = s.bindings ∧
    (s.stopHeld p f).records = s.records ∧ (s.stopHeld p f).torches = s.torches ∧
    (s.stopHeld p f).startQueue = s.startQueue ∧ (s.stopHeld p f).committed = s.committed ∧
    (s.stopHeld p f).feeder = s.feeder ∧ (s.stopHeld p f).cranes = s.cranes ∧ (s.stopHeld p f).ports = s.ports ∧
    (s.stopHeld p f).hallStop = s.hallStop ∧ (s.stopHeld p f).params = s.params ∧ (s.stopHeld p f).image = s.image ∧
    (s.stopHeld p f).causes = s.causes ∧ (s.stopHeld p f).hold = s.hold ∧ (s.stopHeld p f).restart = s.restart ∧
    (s.stopHeld p f).pending = s.pending := by
  simp only [State.stopHeld]
  split
  split_ifs <;> simp
  simp

@[simp] theorem State.finishJob_frame (s : State) (b : Nat) (j : Job) :
    (s.finishJob b j).zones = s.zones ∧ (s.finishJob b j).bindings = s.bindings ∧
    (s.finishJob b j).torches = s.torches ∧ (s.finishJob b j).startQueue = s.startQueue ∧
    (s.finishJob b j).committed = s.committed ∧ (s.finishJob b j).feeder = s.feeder ∧
    (s.finishJob b j).cranes = s.cranes ∧ (s.finishJob b j).ports = s.ports ∧
    (s.finishJob b j).hallStop = s.hallStop ∧ (s.finishJob b j).params = s.params ∧
    (s.finishJob b j).image = s.image ∧ (s.finishJob b j).causes = s.causes ∧ (s.finishJob b j).hold = s.hold ∧
    (s.finishJob b j).restart = s.restart ∧ (s.finishJob b j).pending = s.pending := by
  simp [State.finishJob]

@[simp] theorem State.leaveTorch_frame (s : State) (p : Port) (t : Torch) :
    (s.leaveTorch p t).zones = s.zones ∧ (s.leaveTorch p t).bindings = s.bindings ∧
    (s.leaveTorch p t).records = s.records ∧ (s.leaveTorch p t).tables = s.tables ∧
    (s.leaveTorch p t).logs = s.logs ∧ (s.leaveTorch p t).startQueue = s.startQueue ∧
    (s.leaveTorch p t).feeder = s.feeder ∧ (s.leaveTorch p t).cranes = s.cranes ∧
    (s.leaveTorch p t).ports = s.ports ∧ (s.leaveTorch p t).hallStop = s.hallStop ∧
    (s.leaveTorch p t).links = s.links ∧ (s.leaveTorch p t).alerts = s.alerts ∧
    (s.leaveTorch p t).overflow = s.overflow ∧ (s.leaveTorch p t).params = s.params ∧
    (s.leaveTorch p t).image = s.image ∧ (s.leaveTorch p t).causes = s.causes ∧ (s.leaveTorch p t).hold = s.hold ∧
    (s.leaveTorch p t).restart = s.restart ∧ (s.leaveTorch p t).pending = s.pending := by
  simp only [State.leaveTorch]
  split_ifs <;> simp

@[simp] theorem State.idleTorch_frame (s : State) (p : Port) :
    (s.idleTorch p).zones = s.zones ∧ (s.idleTorch p).bindings = s.bindings ∧ (s.idleTorch p).records = s.records ∧
    (s.idleTorch p).tables = s.tables ∧ (s.idleTorch p).logs = s.logs ∧ (s.idleTorch p).startQueue = s.startQueue ∧
    (s.idleTorch p).feeder = s.feeder ∧ (s.idleTorch p).cranes = s.cranes ∧ (s.idleTorch p).ports = s.ports ∧
    (s.idleTorch p).hallStop = s.hallStop ∧ (s.idleTorch p).links = s.links ∧ (s.idleTorch p).alerts = s.alerts ∧
    (s.idleTorch p).overflow = s.overflow ∧ (s.idleTorch p).params = s.params ∧ (s.idleTorch p).image = s.image ∧
    (s.idleTorch p).causes = s.causes ∧ (s.idleTorch p).hold = s.hold ∧ (s.idleTorch p).restart = s.restart ∧
    (s.idleTorch p).pending = s.pending := by
  simp [State.idleTorch]

@[simp] theorem State.dropTorch_frame (s : State) (p : Port) :
    (s.dropTorch p).zones = s.zones ∧ (s.dropTorch p).bindings = s.bindings ∧ (s.dropTorch p).records = s.records ∧
    (s.dropTorch p).tables = s.tables ∧ (s.dropTorch p).logs = s.logs ∧ (s.dropTorch p).startQueue = s.startQueue ∧
    (s.dropTorch p).feeder = s.feeder ∧ (s.dropTorch p).cranes = s.cranes ∧ (s.dropTorch p).ports = s.ports ∧
    (s.dropTorch p).hallStop = s.hallStop ∧ (s.dropTorch p).links = s.links ∧ (s.dropTorch p).alerts = s.alerts ∧
    (s.dropTorch p).overflow = s.overflow ∧ (s.dropTorch p).params = s.params ∧ (s.dropTorch p).image = s.image ∧
    (s.dropTorch p).causes = s.causes ∧ (s.dropTorch p).hold = s.hold ∧ (s.dropTorch p).restart = s.restart ∧
    (s.dropTorch p).pending = s.pending := by
  simp [State.dropTorch]

@[simp] theorem State.admitTorch_frame (s : State) (own : Option Port) (p : Port) :
    (s.admitTorch own p).zones = s.zones ∧ (s.admitTorch own p).bindings = s.bindings ∧ (s.admitTorch own p).records = s.records ∧
    (s.admitTorch own p).logs = s.logs ∧ (s.admitTorch own p).feeder = s.feeder ∧ (s.admitTorch own p).cranes = s.cranes ∧
    (s.admitTorch own p).ports = s.ports ∧ (s.admitTorch own p).hallStop = s.hallStop ∧ (s.admitTorch own p).alerts = s.alerts ∧
    (s.admitTorch own p).overflow = s.overflow ∧ (s.admitTorch own p).params = s.params ∧ (s.admitTorch own p).image = s.image ∧
    (s.admitTorch own p).causes = s.causes ∧ (s.admitTorch own p).hold = s.hold ∧ (s.admitTorch own p).restart = s.restart ∧
    (s.admitTorch own p).pending = s.pending := by
  simp only [State.admitTorch]
  split_ifs <;> split <;> simp

@[simp] theorem State.startKeepalive_frame (s : State) (p : Port) :
    (s.startKeepalive p).zones = s.zones ∧ (s.startKeepalive p).bindings = s.bindings ∧
    (s.startKeepalive p).records = s.records ∧ (s.startKeepalive p).tables = s.tables ∧
    (s.startKeepalive p).logs = s.logs ∧ (s.startKeepalive p).torches = s.torches ∧
    (s.startKeepalive p).startQueue = s.startQueue ∧ (s.startKeepalive p).committed = s.committed ∧
    (s.startKeepalive p).feeder = s.feeder ∧ (s.startKeepalive p).cranes = s.cranes ∧
    (s.startKeepalive p).hallStop = s.hallStop ∧ (s.startKeepalive p).links = s.links ∧
    (s.startKeepalive p).alerts = s.alerts ∧ (s.startKeepalive p).overflow = s.overflow ∧
    (s.startKeepalive p).params = s.params ∧ (s.startKeepalive p).image = s.image ∧
    (s.startKeepalive p).causes = s.causes ∧ (s.startKeepalive p).hold = s.hold ∧
    (s.startKeepalive p).restart = s.restart ∧ (s.startKeepalive p).pending = s.pending := by
  simp [State.startKeepalive]

@[simp] theorem State.lapseJob_frame (s : State) (p : Port) :
    (s.lapseJob p).zones = s.zones ∧ (s.lapseJob p).bindings = s.bindings ∧ (s.lapseJob p).records = s.records ∧
    (s.lapseJob p).torches = s.torches ∧ (s.lapseJob p).startQueue = s.startQueue ∧
    (s.lapseJob p).committed = s.committed ∧ (s.lapseJob p).feeder = s.feeder ∧ (s.lapseJob p).cranes = s.cranes ∧
    (s.lapseJob p).ports = s.ports ∧ (s.lapseJob p).hallStop = s.hallStop ∧ (s.lapseJob p).params = s.params ∧
    (s.lapseJob p).image = s.image ∧ (s.lapseJob p).causes = s.causes ∧ (s.lapseJob p).hold = s.hold ∧
    (s.lapseJob p).restart = s.restart ∧ (s.lapseJob p).pending = s.pending := by
  simp only [State.lapseJob]
  split
  split_ifs <;> simp
  simp

@[simp] theorem State.reply_frame (s : State) (p : Port) (t : Byte) (a : Answer) :
    (s.reply p t a).zones = s.zones ∧ (s.reply p t a).bindings = s.bindings ∧ (s.reply p t a).records = s.records ∧
    (s.reply p t a).tables = s.tables ∧ (s.reply p t a).logs = s.logs ∧ (s.reply p t a).torches = s.torches ∧
    (s.reply p t a).startQueue = s.startQueue ∧ (s.reply p t a).committed = s.committed ∧
    (s.reply p t a).feeder = s.feeder ∧ (s.reply p t a).cranes = s.cranes ∧ (s.reply p t a).ports = s.ports ∧
    (s.reply p t a).hallStop = s.hallStop ∧ (s.reply p t a).alerts = s.alerts ∧
    (s.reply p t a).overflow = s.overflow ∧ (s.reply p t a).params = s.params ∧ (s.reply p t a).image = s.image ∧
    (s.reply p t a).causes = s.causes ∧ (s.reply p t a).hold = s.hold ∧ (s.reply p t a).restart = s.restart ∧
    (s.reply p t a).pending = s.pending := by
  simp [State.reply]

@[simp] theorem State.countFrameError_frame (s : State) (p : Port) :
    (s.countFrameError p).zones = s.zones ∧ (s.countFrameError p).bindings = s.bindings ∧
    (s.countFrameError p).records = s.records ∧ (s.countFrameError p).tables = s.tables ∧
    (s.countFrameError p).logs = s.logs ∧ (s.countFrameError p).torches = s.torches ∧
    (s.countFrameError p).startQueue = s.startQueue ∧ (s.countFrameError p).committed = s.committed ∧
    (s.countFrameError p).feeder = s.feeder ∧ (s.countFrameError p).cranes = s.cranes ∧
    (s.countFrameError p).hallStop = s.hallStop ∧ (s.countFrameError p).links = s.links ∧
    (s.countFrameError p).alerts = s.alerts ∧ (s.countFrameError p).overflow = s.overflow ∧
    (s.countFrameError p).params = s.params ∧ (s.countFrameError p).image = s.image ∧
    (s.countFrameError p).causes = s.causes ∧ (s.countFrameError p).hold = s.hold ∧
    (s.countFrameError p).restart = s.restart ∧ (s.countFrameError p).pending = s.pending := by
  simp [State.countFrameError]

@[simp] theorem State.offerFrame_frame (s : State) (p : Port) (f : Frame) :
    (s.offerFrame p f).zones = s.zones ∧ (s.offerFrame p f).bindings = s.bindings ∧
    (s.offerFrame p f).records = s.records ∧ (s.offerFrame p f).tables = s.tables ∧
    (s.offerFrame p f).logs = s.logs ∧ (s.offerFrame p f).torches = s.torches ∧
    (s.offerFrame p f).startQueue = s.startQueue ∧ (s.offerFrame p f).committed = s.committed ∧
    (s.offerFrame p f).feeder = s.feeder ∧ (s.offerFrame p f).cranes = s.cranes ∧
    (s.offerFrame p f).hallStop = s.hallStop ∧ (s.offerFrame p f).alerts = s.alerts ∧
    (s.offerFrame p f).overflow = s.overflow ∧ (s.offerFrame p f).params = s.params ∧
    (s.offerFrame p f).image = s.image ∧ (s.offerFrame p f).causes = s.causes ∧ (s.offerFrame p f).hold = s.hold ∧
    (s.offerFrame p f).restart = s.restart ∧ (s.offerFrame p f).pending = s.pending := by
  simp only [State.offerFrame]
  split_ifs <;> simp

theorem walkFrom_frame (own : Option Port) (l : List Port) (s : State) :
    (walkFrom own l s).1.zones = s.zones ∧ (walkFrom own l s).1.bindings = s.bindings ∧
    (walkFrom own l s).1.records = s.records ∧ (walkFrom own l s).1.logs = s.logs ∧
    (walkFrom own l s).1.feeder = s.feeder ∧ (walkFrom own l s).1.cranes = s.cranes ∧
    (walkFrom own l s).1.ports = s.ports ∧ (walkFrom own l s).1.hallStop = s.hallStop ∧
    (walkFrom own l s).1.alerts = s.alerts ∧ (walkFrom own l s).1.overflow = s.overflow ∧
    (walkFrom own l s).1.params = s.params ∧ (walkFrom own l s).1.image = s.image ∧
    (walkFrom own l s).1.causes = s.causes ∧ (walkFrom own l s).1.hold = s.hold ∧
    (walkFrom own l s).1.restart = s.restart ∧ (walkFrom own l s).1.pending = s.pending := by
  induction l generalizing s with
  | nil => simp [walkFrom]
  | cons p rest ih =>
    simp only [walkFrom]
    split_ifs
    · exact ih s
    · have h := ih (s.admitTorch own p)
      simp only [State.admitTorch_frame] at h
      exact h
    · simp

@[simp] theorem State.walk_frame (s : State) (own : Option Port) :
    (s.walk own).1.zones = s.zones ∧ (s.walk own).1.bindings = s.bindings ∧ (s.walk own).1.records = s.records ∧
    (s.walk own).1.logs = s.logs ∧ (s.walk own).1.feeder = s.feeder ∧ (s.walk own).1.cranes = s.cranes ∧
    (s.walk own).1.ports = s.ports ∧ (s.walk own).1.hallStop = s.hallStop ∧ (s.walk own).1.alerts = s.alerts ∧
    (s.walk own).1.overflow = s.overflow ∧ (s.walk own).1.params = s.params ∧ (s.walk own).1.image = s.image ∧
    (s.walk own).1.causes = s.causes ∧ (s.walk own).1.hold = s.hold ∧ (s.walk own).1.restart = s.restart ∧
    (s.walk own).1.pending = s.pending := by
  unfold State.walk
  split_ifs
  · simp
  · exact walkFrom_frame own s.startQueue s

@[simp] theorem State.runWalk_frame (s : State) :
    s.runWalk.zones = s.zones ∧ s.runWalk.bindings = s.bindings ∧ s.runWalk.records = s.records ∧
    s.runWalk.logs = s.logs ∧ s.runWalk.feeder = s.feeder ∧ s.runWalk.cranes = s.cranes ∧ s.runWalk.ports = s.ports ∧
    s.runWalk.hallStop = s.hallStop ∧ s.runWalk.alerts = s.alerts ∧ s.runWalk.overflow = s.overflow ∧
    s.runWalk.params = s.params ∧ s.runWalk.image = s.image ∧ s.runWalk.causes = s.causes ∧ s.runWalk.hold = s.hold ∧
    s.runWalk.restart = s.restart ∧ s.runWalk.pending = s.pending := by
  simp [State.runWalk]

@[simp] theorem State.lapseGantry_frame (s : State) (p : Port) :
    (s.lapseGantry p).zones = s.zones ∧ (s.lapseGantry p).bindings = s.bindings ∧
    (s.lapseGantry p).records = s.records ∧ (s.lapseGantry p).feeder = s.feeder ∧
    (s.lapseGantry p).cranes = s.cranes ∧ (s.lapseGantry p).ports = s.ports ∧
    (s.lapseGantry p).hallStop = s.hallStop ∧ (s.lapseGantry p).params = s.params ∧
    (s.lapseGantry p).image = s.image ∧ (s.lapseGantry p).causes = s.causes ∧ (s.lapseGantry p).hold = s.hold ∧
    (s.lapseGantry p).restart = s.restart ∧ (s.lapseGantry p).pending = s.pending := by
  simp only [State.lapseGantry]
  split <;> simp

@[simp] theorem State.haltTorch_frame (s : State) (p : Port) :
    (s.haltTorch p).zones = s.zones ∧ (s.haltTorch p).bindings = s.bindings ∧ (s.haltTorch p).records = s.records ∧
    (s.haltTorch p).feeder = s.feeder ∧ (s.haltTorch p).cranes = s.cranes ∧ (s.haltTorch p).ports = s.ports ∧
    (s.haltTorch p).hallStop = s.hallStop ∧ (s.haltTorch p).params = s.params ∧ (s.haltTorch p).image = s.image ∧
    (s.haltTorch p).causes = s.causes ∧ (s.haltTorch p).hold = s.hold ∧ (s.haltTorch p).restart = s.restart ∧
    (s.haltTorch p).pending = s.pending := by
  simp only [State.haltTorch]
  split <;> simp

theorem haltAll_frame (l : List Port) (s : State) :
    (l.foldl (fun s q => s.haltTorch q) s).zones = s.zones ∧
    (l.foldl (fun s q => s.haltTorch q) s).bindings = s.bindings ∧
    (l.foldl (fun s q => s.haltTorch q) s).records = s.records ∧
    (l.foldl (fun s q => s.haltTorch q) s).feeder = s.feeder ∧
    (l.foldl (fun s q => s.haltTorch q) s).cranes = s.cranes ∧
    (l.foldl (fun s q => s.haltTorch q) s).ports = s.ports ∧
    (l.foldl (fun s q => s.haltTorch q) s).hallStop = s.hallStop ∧
    (l.foldl (fun s q => s.haltTorch q) s).params = s.params ∧
    (l.foldl (fun s q => s.haltTorch q) s).image = s.image ∧
    (l.foldl (fun s q => s.haltTorch q) s).causes = s.causes ∧ (l.foldl (fun s q => s.haltTorch q) s).hold = s.hold ∧
    (l.foldl (fun s q => s.haltTorch q) s).restart = s.restart ∧
    (l.foldl (fun s q => s.haltTorch q) s).pending = s.pending := by
  induction l generalizing s with
  | nil => simp
  | cons p rest ih =>
    have h := ih (s.haltTorch p)
    simp only [State.haltTorch_frame] at h
    exact h

@[simp] theorem State.setLatch_frame (s : State) (p : Port) :
    (s.setLatch p).zones = s.zones ∧ (s.setLatch p).bindings = s.bindings ∧ (s.setLatch p).records = s.records ∧
    (s.setLatch p).feeder = s.feeder ∧ (s.setLatch p).cranes = s.cranes ∧ (s.setLatch p).ports = s.ports ∧
    (s.setLatch p).params = s.params ∧ (s.setLatch p).image = s.image ∧ (s.setLatch p).causes = s.causes ∧
    (s.setLatch p).hold = s.hold ∧ (s.setLatch p).restart = s.restart ∧ (s.setLatch p).pending = s.pending := by
  simp only [State.setLatch]
  split_ifs
  · have h := haltAll_frame allPorts { s with hallStop := some p }
    simp [h]
  · simp

@[simp] theorem State.lapseSteps_frame (s : State) (p : Port) :
    (s.lapseSteps p).zones = s.zones ∧ (s.lapseSteps p).bindings = s.bindings ∧ (s.lapseSteps p).records = s.records ∧
    (s.lapseSteps p).feeder = s.feeder ∧ (s.lapseSteps p).cranes = s.cranes ∧ (s.lapseSteps p).params = s.params ∧
    (s.lapseSteps p).image = s.image ∧ (s.lapseSteps p).causes = s.causes ∧ (s.lapseSteps p).hold = s.hold ∧
    (s.lapseSteps p).restart = s.restart ∧ (s.lapseSteps p).pending = s.pending := by
  simp only [State.lapseSteps]
  split_ifs <;> simp

@[simp] theorem State.lapse_frame (s : State) (p : Port) :
    (s.lapse p).zones = s.zones ∧ (s.lapse p).bindings = s.bindings ∧ (s.lapse p).records = s.records ∧
    (s.lapse p).feeder = s.feeder ∧ (s.lapse p).cranes = s.cranes ∧ (s.lapse p).params = s.params ∧
    (s.lapse p).image = s.image ∧ (s.lapse p).causes = s.causes ∧ (s.lapse p).hold = s.hold ∧
    (s.lapse p).restart = s.restart ∧ (s.lapse p).pending = s.pending := by
  simp only [State.lapse]
  split_ifs <;> simp

/-- R154: the latch is set, with the lapsed port as its cause. -/
theorem State.setLatch_hallStop (s : State) (p : Port) : (s.setLatch p).hallStop = some p := by
  simp only [State.setLatch]
  split_ifs
  · have h := haltAll_frame allPorts { s with hallStop := some p }
    simp [h]
  · simp

/-- R72, R81: the walk of a lapse under return mode HALL_STOP comes after the latch and does nothing. -/
theorem State.lapse_of_hallStop (s : State) (p : Port) (h : (s.portParams p).mode = .hallStop) :
    s.lapse p = s.lapseSteps p := by
  have hs : (s.lapseSteps p).hallStop = some p := by
    simp only [State.lapseSteps]
    split_ifs <;> first | exact State.setLatch_hallStop _ _ | simp_all [State.portParams]
  unfold State.lapse
  split_ifs
  · simp [State.runWalk, State.walk, hs]
  · rfl

@[simp] theorem State.staleBinding_frame (s : State) (z : Nat) (p : Port) :
    (s.staleBinding z p).zones = s.zones ∧ (s.staleBinding z p).records = s.records ∧
    (s.staleBinding z p).tables = s.tables ∧ (s.staleBinding z p).logs = s.logs ∧
    (s.staleBinding z p).torches = s.torches ∧ (s.staleBinding z p).startQueue = s.startQueue ∧
    (s.staleBinding z p).committed = s.committed ∧ (s.staleBinding z p).feeder = s.feeder ∧
    (s.staleBinding z p).cranes = s.cranes ∧ (s.staleBinding z p).ports = s.ports ∧
    (s.staleBinding z p).hallStop = s.hallStop ∧ (s.staleBinding z p).alerts = s.alerts ∧
    (s.staleBinding z p).overflow = s.overflow ∧ (s.staleBinding z p).params = s.params ∧
    (s.staleBinding z p).image = s.image ∧ (s.staleBinding z p).causes = s.causes ∧
    (s.staleBinding z p).hold = s.hold ∧ (s.staleBinding z p).restart = s.restart ∧
    (s.staleBinding z p).pending = s.pending := by
  simp only [State.staleBinding]
  split_ifs <;> simp

theorem staleAll_frame (z : Nat) (l : List Port) (s : State) :
    (l.foldl (fun s p => s.staleBinding z p) s).zones = s.zones ∧
    (l.foldl (fun s p => s.staleBinding z p) s).records = s.records ∧
    (l.foldl (fun s p => s.staleBinding z p) s).tables = s.tables ∧
    (l.foldl (fun s p => s.staleBinding z p) s).logs = s.logs ∧
    (l.foldl (fun s p => s.staleBinding z p) s).torches = s.torches ∧
    (l.foldl (fun s p => s.staleBinding z p) s).startQueue = s.startQueue ∧
    (l.foldl (fun s p => s.staleBinding z p) s).committed = s.committed ∧
    (l.foldl (fun s p => s.staleBinding z p) s).feeder = s.feeder ∧
    (l.foldl (fun s p => s.staleBinding z p) s).cranes = s.cranes ∧
    (l.foldl (fun s p => s.staleBinding z p) s).ports = s.ports ∧
    (l.foldl (fun s p => s.staleBinding z p) s).hallStop = s.hallStop ∧
    (l.foldl (fun s p => s.staleBinding z p) s).alerts = s.alerts ∧
    (l.foldl (fun s p => s.staleBinding z p) s).overflow = s.overflow ∧
    (l.foldl (fun s p => s.staleBinding z p) s).params = s.params ∧
    (l.foldl (fun s p => s.staleBinding z p) s).image = s.image ∧
    (l.foldl (fun s p => s.staleBinding z p) s).causes = s.causes ∧
    (l.foldl (fun s p => s.staleBinding z p) s).hold = s.hold ∧
    (l.foldl (fun s p => s.staleBinding z p) s).restart = s.restart ∧
    (l.foldl (fun s p => s.staleBinding z p) s).pending = s.pending := by
  induction l generalizing s with
  | nil => simp
  | cons p rest ih =>
    have h := ih (s.staleBinding z p)
    simp only [State.staleBinding_frame] at h
    exact h

@[simp] theorem State.staleBindings_frame (s : State) (z : Nat) :
    (s.staleBindings z).zones = s.zones ∧ (s.staleBindings z).records = s.records ∧
    (s.staleBindings z).tables = s.tables ∧ (s.staleBindings z).logs = s.logs ∧
    (s.staleBindings z).torches = s.torches ∧ (s.staleBindings z).startQueue = s.startQueue ∧
    (s.staleBindings z).committed = s.committed ∧ (s.staleBindings z).feeder = s.feeder ∧
    (s.staleBindings z).cranes = s.cranes ∧ (s.staleBindings z).ports = s.ports ∧
    (s.staleBindings z).hallStop = s.hallStop ∧ (s.staleBindings z).alerts = s.alerts ∧
    (s.staleBindings z).overflow = s.overflow ∧ (s.staleBindings z).params = s.params ∧
    (s.staleBindings z).image = s.image ∧ (s.staleBindings z).causes = s.causes ∧ (s.staleBindings z).hold = s.hold ∧
    (s.staleBindings z).restart = s.restart ∧ (s.staleBindings z).pending = s.pending := by
  exact staleAll_frame z allPorts s

@[simp] theorem State.remakeBed_frame (s : State) (z : Nat) (a b : ZoneKind) :
    (s.remakeBed z a b).zones = s.zones ∧ (s.remakeBed z a b).bindings = s.bindings ∧
    (s.remakeBed z a b).records = s.records ∧ (s.remakeBed z a b).torches = s.torches ∧
    (s.remakeBed z a b).startQueue = s.startQueue ∧ (s.remakeBed z a b).committed = s.committed ∧
    (s.remakeBed z a b).feeder = s.feeder ∧ (s.remakeBed z a b).cranes = s.cranes ∧
    (s.remakeBed z a b).ports = s.ports ∧ (s.remakeBed z a b).hallStop = s.hallStop ∧
    (s.remakeBed z a b).links = s.links ∧ (s.remakeBed z a b).alerts = s.alerts ∧
    (s.remakeBed z a b).overflow = s.overflow ∧ (s.remakeBed z a b).params = s.params ∧
    (s.remakeBed z a b).image = s.image ∧ (s.remakeBed z a b).causes = s.causes ∧ (s.remakeBed z a b).hold = s.hold ∧
    (s.remakeBed z a b).restart = s.restart ∧ (s.remakeBed z a b).pending = s.pending := by
  simp only [State.remakeBed]
  split_ifs <;> simp

@[simp] theorem State.freeHook_frame (s : State) (p : Port) :
    (s.freeHook p).zones = s.zones ∧ (s.freeHook p).bindings = s.bindings ∧ (s.freeHook p).records = s.records ∧
    (s.freeHook p).tables = s.tables ∧ (s.freeHook p).logs = s.logs ∧ (s.freeHook p).torches = s.torches ∧
    (s.freeHook p).startQueue = s.startQueue ∧ (s.freeHook p).committed = s.committed ∧
    (s.freeHook p).feeder = s.feeder ∧ (s.freeHook p).ports = s.ports ∧ (s.freeHook p).hallStop = s.hallStop ∧
    (s.freeHook p).links = s.links ∧ (s.freeHook p).alerts = s.alerts ∧ (s.freeHook p).overflow = s.overflow ∧
    (s.freeHook p).params = s.params ∧ (s.freeHook p).image = s.image ∧ (s.freeHook p).causes = s.causes ∧
    (s.freeHook p).hold = s.hold ∧ (s.freeHook p).restart = s.restart ∧ (s.freeHook p).pending = s.pending := by
  simp [State.freeHook]

@[simp] theorem State.reportMove_frame (s : State) (p : Port) (a : CraneAction) (id z : Nat) (d : MoveData) :
    (s.reportMove p a id z d).zones = s.zones ∧ (s.reportMove p a id z d).bindings = s.bindings ∧
    (s.reportMove p a id z d).records = s.records ∧ (s.reportMove p a id z d).tables = s.tables ∧
    (s.reportMove p a id z d).logs = s.logs ∧ (s.reportMove p a id z d).torches = s.torches ∧
    (s.reportMove p a id z d).startQueue = s.startQueue ∧ (s.reportMove p a id z d).committed = s.committed ∧
    (s.reportMove p a id z d).feeder = s.feeder ∧ (s.reportMove p a id z d).cranes = s.cranes ∧
    (s.reportMove p a id z d).ports = s.ports ∧ (s.reportMove p a id z d).hallStop = s.hallStop ∧
    (s.reportMove p a id z d).alerts = s.alerts ∧ (s.reportMove p a id z d).overflow = s.overflow ∧
    (s.reportMove p a id z d).params = s.params ∧ (s.reportMove p a id z d).image = s.image ∧
    (s.reportMove p a id z d).causes = s.causes ∧ (s.reportMove p a id z d).hold = s.hold ∧
    (s.reportMove p a id z d).restart = s.restart ∧ (s.reportMove p a id z d).pending = s.pending := by
  simp [State.reportMove]

@[simp] theorem State.grantLift_frame (s : State) (p : Port) (r : Plate) (z : Nat) :
    (s.grantLift p r z).bindings = s.bindings ∧ (s.grantLift p r z).tables = s.tables ∧
    (s.grantLift p r z).logs = s.logs ∧ (s.grantLift p r z).torches = s.torches ∧
    (s.grantLift p r z).startQueue = s.startQueue ∧ (s.grantLift p r z).committed = s.committed ∧
    (s.grantLift p r z).feeder = s.feeder ∧ (s.grantLift p r z).ports = s.ports ∧
    (s.grantLift p r z).hallStop = s.hallStop ∧ (s.grantLift p r z).alerts = s.alerts ∧
    (s.grantLift p r z).overflow = s.overflow ∧ (s.grantLift p r z).params = s.params ∧
    (s.grantLift p r z).image = s.image ∧ (s.grantLift p r z).causes = s.causes ∧ (s.grantLift p r z).hold = s.hold ∧
    (s.grantLift p r z).restart = s.restart ∧ (s.grantLift p r z).pending = s.pending := by
  simp [State.grantLift]

@[simp] theorem State.land_frame (s : State) (p : Port) (r : Plate) (z ox oy : Nat) (t : Turn) (a : CraneAction) :
    (s.land p r z ox oy t a).bindings = s.bindings ∧ (s.land p r z ox oy t a).logs = s.logs ∧
    (s.land p r z ox oy t a).feeder = s.feeder ∧ (s.land p r z ox oy t a).ports = s.ports ∧
    (s.land p r z ox oy t a).hallStop = s.hallStop ∧ (s.land p r z ox oy t a).alerts = s.alerts ∧
    (s.land p r z ox oy t a).overflow = s.overflow ∧ (s.land p r z ox oy t a).params = s.params ∧
    (s.land p r z ox oy t a).image = s.image ∧ (s.land p r z ox oy t a).causes = s.causes ∧
    (s.land p r z ox oy t a).hold = s.hold ∧ (s.land p r z ox oy t a).restart = s.restart ∧
    (s.land p r z ox oy t a).pending = s.pending := by
  simp [State.land]

@[simp] theorem State.scrap_frame (s : State) (p : Port) (r : Plate) (z : Nat) :
    (s.scrap p r z).bindings = s.bindings ∧ (s.scrap p r z).logs = s.logs ∧ (s.scrap p r z).feeder = s.feeder ∧
    (s.scrap p r z).ports = s.ports ∧ (s.scrap p r z).hallStop = s.hallStop ∧ (s.scrap p r z).alerts = s.alerts ∧
    (s.scrap p r z).overflow = s.overflow ∧ (s.scrap p r z).params = s.params ∧ (s.scrap p r z).image = s.image ∧
    (s.scrap p r z).causes = s.causes ∧ (s.scrap p r z).hold = s.hold ∧ (s.scrap p r z).restart = s.restart ∧
    (s.scrap p r z).pending = s.pending := by
  simp [State.scrap]

@[simp] theorem State.withdraw_frame (s : State) (b : Nat) (j : Job) (q : Port) :
    (s.withdraw b j q).zones = s.zones ∧ (s.withdraw b j q).bindings = s.bindings ∧
    (s.withdraw b j q).records = s.records ∧ (s.withdraw b j q).feeder = s.feeder ∧
    (s.withdraw b j q).cranes = s.cranes ∧ (s.withdraw b j q).ports = s.ports ∧
    (s.withdraw b j q).hallStop = s.hallStop ∧ (s.withdraw b j q).params = s.params ∧
    (s.withdraw b j q).image = s.image ∧ (s.withdraw b j q).causes = s.causes ∧ (s.withdraw b j q).hold = s.hold ∧
    (s.withdraw b j q).restart = s.restart ∧ (s.withdraw b j q).pending = s.pending := by
  simp only [State.withdraw]
  split_ifs <;> simp

@[simp] theorem State.establish_frame (s : State) (p : Port) :
    (s.establish p).zones = s.zones ∧ (s.establish p).bindings = s.bindings ∧ (s.establish p).records = s.records ∧
    (s.establish p).logs = s.logs ∧ (s.establish p).startQueue = s.startQueue ∧ (s.establish p).feeder = s.feeder ∧
    (s.establish p).cranes = s.cranes ∧ (s.establish p).ports = s.ports ∧ (s.establish p).hallStop = s.hallStop ∧
    (s.establish p).links = s.links ∧ (s.establish p).alerts = s.alerts ∧ (s.establish p).overflow = s.overflow ∧
    (s.establish p).params = s.params ∧ (s.establish p).image = s.image ∧ (s.establish p).causes = s.causes ∧
    (s.establish p).hold = s.hold ∧ (s.establish p).restart = s.restart ∧ (s.establish p).pending = s.pending := by
  simp only [State.establish]
  split
  split_ifs <;> simp
  simp

@[simp] theorem State.endJob_frame (s : State) (p : Port) (o : ArcOutcome) :
    (s.endJob p o).zones = s.zones ∧ (s.endJob p o).bindings = s.bindings ∧ (s.endJob p o).torches = s.torches ∧
    (s.endJob p o).startQueue = s.startQueue ∧ (s.endJob p o).committed = s.committed ∧
    (s.endJob p o).feeder = s.feeder ∧ (s.endJob p o).cranes = s.cranes ∧ (s.endJob p o).ports = s.ports ∧
    (s.endJob p o).hallStop = s.hallStop ∧ (s.endJob p o).params = s.params ∧ (s.endJob p o).image = s.image ∧
    (s.endJob p o).causes = s.causes ∧ (s.endJob p o).hold = s.hold ∧ (s.endJob p o).restart = s.restart ∧
    (s.endJob p o).pending = s.pending := by
  simp only [State.endJob]
  split
  split_ifs
  split <;> simp
  simp
  simp

@[simp] theorem State.shedTorch_frame (s : State) (p : Port) :
    (s.shedTorch p).zones = s.zones ∧ (s.shedTorch p).bindings = s.bindings ∧ (s.shedTorch p).records = s.records ∧
    (s.shedTorch p).startQueue = s.startQueue ∧ (s.shedTorch p).feeder = s.feeder ∧
    (s.shedTorch p).cranes = s.cranes ∧ (s.shedTorch p).ports = s.ports ∧ (s.shedTorch p).hallStop = s.hallStop ∧
    (s.shedTorch p).params = s.params ∧ (s.shedTorch p).image = s.image ∧ (s.shedTorch p).causes = s.causes ∧
    (s.shedTorch p).hold = s.hold ∧ (s.shedTorch p).restart = s.restart ∧ (s.shedTorch p).pending = s.pending := by
  simp [State.shedTorch]

@[simp] theorem State.evaluateSag_frame (s : State) :
    s.evaluateSag.zones = s.zones ∧ s.evaluateSag.bindings = s.bindings ∧ s.evaluateSag.records = s.records ∧
    s.evaluateSag.tables = s.tables ∧ s.evaluateSag.logs = s.logs ∧ s.evaluateSag.torches = s.torches ∧
    s.evaluateSag.startQueue = s.startQueue ∧ s.evaluateSag.committed = s.committed ∧
    s.evaluateSag.cranes = s.cranes ∧ s.evaluateSag.ports = s.ports ∧ s.evaluateSag.hallStop = s.hallStop ∧
    s.evaluateSag.params = s.params ∧ s.evaluateSag.image = s.image ∧ s.evaluateSag.causes = s.causes ∧
    s.evaluateSag.hold = s.hold ∧ s.evaluateSag.restart = s.restart ∧ s.evaluateSag.pending = s.pending := by
  simp only [State.evaluateSag]
  split_ifs <;> simp

@[simp] theorem State.setPortState_frame (s : State) (p : Port) (st : PortState) :
    (s.setPortState p st).zones = s.zones ∧ (s.setPortState p st).bindings = s.bindings ∧
    (s.setPortState p st).records = s.records ∧ (s.setPortState p st).tables = s.tables ∧
    (s.setPortState p st).logs = s.logs ∧ (s.setPortState p st).torches = s.torches ∧
    (s.setPortState p st).startQueue = s.startQueue ∧ (s.setPortState p st).committed = s.committed ∧
    (s.setPortState p st).feeder = s.feeder ∧ (s.setPortState p st).cranes = s.cranes ∧
    (s.setPortState p st).hallStop = s.hallStop ∧ (s.setPortState p st).links = s.links ∧
    (s.setPortState p st).alerts = s.alerts ∧ (s.setPortState p st).overflow = s.overflow ∧
    (s.setPortState p st).params = s.params ∧ (s.setPortState p st).image = s.image ∧
    (s.setPortState p st).causes = s.causes ∧ (s.setPortState p st).hold = s.hold ∧
    (s.setPortState p st).restart = s.restart ∧ (s.setPortState p st).pending = s.pending := by
  simp [State.setPortState]

@[simp] theorem State.comeOnline_frame (s : State) (p : Port) :
    (s.comeOnline p).zones = s.zones ∧ (s.comeOnline p).bindings = s.bindings ∧
    (s.comeOnline p).records = s.records ∧ (s.comeOnline p).tables = s.tables ∧ (s.comeOnline p).logs = s.logs ∧
    (s.comeOnline p).torches = s.torches ∧ (s.comeOnline p).startQueue = s.startQueue ∧
    (s.comeOnline p).committed = s.committed ∧ (s.comeOnline p).feeder = s.feeder ∧
    (s.comeOnline p).cranes = s.cranes ∧ (s.comeOnline p).hallStop = s.hallStop ∧ (s.comeOnline p).links = s.links ∧
    (s.comeOnline p).alerts = s.alerts ∧ (s.comeOnline p).overflow = s.overflow ∧
    (s.comeOnline p).params = s.params ∧ (s.comeOnline p).image = s.image ∧ (s.comeOnline p).causes = s.causes ∧
    (s.comeOnline p).hold = s.hold ∧ (s.comeOnline p).restart = s.restart ∧ (s.comeOnline p).pending = s.pending := by
  simp [State.comeOnline]

@[simp] theorem State.returnTorch_frame (s : State) (p : Port) :
    (s.returnTorch p).zones = s.zones ∧ (s.returnTorch p).bindings = s.bindings ∧
    (s.returnTorch p).records = s.records ∧ (s.returnTorch p).tables = s.tables ∧ (s.returnTorch p).logs = s.logs ∧
    (s.returnTorch p).startQueue = s.startQueue ∧ (s.returnTorch p).feeder = s.feeder ∧
    (s.returnTorch p).cranes = s.cranes ∧ (s.returnTorch p).ports = s.ports ∧
    (s.returnTorch p).hallStop = s.hallStop ∧ (s.returnTorch p).links = s.links ∧
    (s.returnTorch p).alerts = s.alerts ∧ (s.returnTorch p).overflow = s.overflow ∧
    (s.returnTorch p).params = s.params ∧ (s.returnTorch p).image = s.image ∧ (s.returnTorch p).causes = s.causes ∧
    (s.returnTorch p).hold = s.hold ∧ (s.returnTorch p).restart = s.restart ∧
    (s.returnTorch p).pending = s.pending := by
  simp only [State.returnTorch]
  split_ifs <;> simp

theorem shed_frame (n : Nat) (s : State) :
    (shed n s).zones = s.zones ∧ (shed n s).bindings = s.bindings ∧ (shed n s).records = s.records ∧
    (shed n s).startQueue = s.startQueue ∧ (shed n s).feeder = s.feeder ∧ (shed n s).cranes = s.cranes ∧
    (shed n s).ports = s.ports ∧ (shed n s).hallStop = s.hallStop ∧ (shed n s).params = s.params ∧
    (shed n s).image = s.image ∧ (shed n s).causes = s.causes ∧ (shed n s).hold = s.hold ∧
    (shed n s).restart = s.restart ∧ (shed n s).pending = s.pending := by
  induction n generalizing s with
  | zero => simp [shed]
  | succ n ih =>
    simp only [shed]
    split_ifs
    · simp
    · split
      · simp
      · rename_i p _
        have h := ih (s.shedTorch p)
        simp only [State.shedTorch_frame] at h
        exact h

/-! ## Refusal tables -/

@[simp] theorem firstCase_nil : firstCase [] = none := rfl

theorem firstCase_cons (b : Bool) (st : Status) (rest : Cases) :
    firstCase ((b, st) :: rest) = if b = true then some st else firstCase rest := rfl

theorem firstCase_append (a b : Cases) : firstCase (a ++ b) = (firstCase a).or (firstCase b) := by
  induction a with
  | nil => simp
  | cons c rest ih =>
    obtain ⟨f, st⟩ := c
    cases f <;> simp [firstCase_cons, ih]

/-- No case holds exactly when every condition is false. -/
theorem firstCase_eq_none (l : Cases) : firstCase l = none ↔ ∀ c ∈ l, c.1 = false := by
  induction l with
  | nil => simp
  | cons c rest ih =>
    obtain ⟨f, st⟩ := c
    cases f <;> simp [firstCase_cons, ih]

theorem byCases_refused {cases : Cases} {act : State → State × Answer} {s : State} {st : Status}
    (h : firstCase cases = some st) : byCases cases act s = (s, refuse st) := by
  simp [byCases, h]

theorem byCases_accepted {cases : Cases} {act : State → State × Answer} {s : State}
    (h : firstCase cases = none) : byCases cases act s = act s := by
  simp [byCases, h]

/-! ## Requests -/

/-- What every request command does: it is taken, or it waits in the buffer or is lost, or the part is held. -/
theorem exec_of_request {i : Instr} {p : Port} {tag : Byte} (h : requestOf i = some (p, tag)) (s : State) :
    exec i s = .next (if s.held then s else State.settle (if s.ready p then serve i s else s.offerFrame p (frameOf i))) := by
  cases i <;> simp_all only [requestOf, Option.some.injEq, Prod.mk.injEq, reduceCtorEq] <;> obtain ⟨rfl, rfl⟩ := h <;> rfl

/-- A taken request ends in one reply of its port, with its tag, built on what its owning block has left. The early keepalive
is answered before its lapse (`takeKeepalive_cases`). -/
theorem serve_of_request {i : Instr} {p : Port} {tag : Byte} (h : requestOf i = some (p, tag)) :
    i = .keepalive p tag ∨ ∃ roles offline owner, ∀ s : State, serve i s = s.take p tag roles offline owner := by
  cases i <;> simp_all only [requestOf, Option.some.injEq, Prod.mk.injEq, reduceCtorEq] <;> obtain ⟨rfl, rfl⟩ := h <;>
    first
    | exact .inr ⟨_, _, _, fun _ => rfl⟩
    | exact .inl trivial

/-- R148: an early keepalive that is heard is answered and then lapses its port; every other is taken like any request. -/
theorem takeKeepalive_cases (s : State) (p : Port) (tag : Byte) :
    (s.admission p anyMaster false = none ∧ s.tooEarly p = true
      ∧ takeKeepalive p tag s = (s.reply p tag ⟨.early, .nothing⟩).lapse p)
    ∨ ((s.admission p anyMaster false = none → s.tooEarly p = false)
      ∧ takeKeepalive p tag s = s.take p tag anyMaster false (ownKeepalive p)) := by
  unfold takeKeepalive
  cases h : s.admission p anyMaster false <;> cases h' : s.tooEarly p <;> simp

/-- A taking is a refusal at the admission tests, or the owner's act and its answer. -/
theorem State.take_cases (s : State) (p : Port) (tag : Byte) (roles : List Role) (offline : Bool)
    (owner : State → State × Answer) :
    (∃ st, s.admission p roles offline = some st ∧ s.take p tag roles offline owner = s.reply p tag (refuse st))
    ∨ (s.admission p roles offline = none
      ∧ s.take p tag roles offline owner = (owner s).1.reply p tag (owner s).2) := by
  unfold State.take
  cases h : s.admission p roles offline with
  | some st => exact .inl ⟨st, rfl, rfl⟩
  | none => exact .inr ⟨rfl, rfl⟩

/-! ## Alerts and notices -/

theorem State.link_notify (s : State) (p q : Port) (n : Notice) :
    (s.notify p n).link q = if p = q then (s.link p).offer n else s.link q := by
  simp [State.notify, State.link_setLink]

/-- What an offer of a notice does to the queue. -/
theorem Link.offer_cases (n : Notice) (l : Link) :
    (l.notices.length < Config.maxNotices ∧ l.offer n = { l with notices := l.notices ++ [n] })
    ∨ (Config.maxNotices ≤ l.notices.length ∧ l.offer n = { l with lost := true }) := by
  unfold Link.offer
  split_ifs with h
  · exact .inl ⟨h, rfl⟩
  · exact .inr ⟨Nat.le_of_not_lt h, rfl⟩

/-- The three outcomes of a raise (R137). -/
theorem State.raise_cases (s : State) (c : AlertCode) (n : Nat) :
    (⟨c, n⟩ ∈ s.alerts ∧ s.raise c n = s)
    ∨ (⟨c, n⟩ ∉ s.alerts ∧ s.alerts.length < Config.maxAlerts ∧
        s.raise c n = State.notify 0 (.alert c n (s.alerts.length + 1)) { s with alerts := s.alerts ++ [⟨c, n⟩] })
    ∨ (⟨c, n⟩ ∉ s.alerts ∧ Config.maxAlerts ≤ s.alerts.length ∧
        s.raise c n = { s with overflow := countUp Config.maxOverflow s.overflow }) := by
  unfold State.raise
  by_cases h : (⟨c, n⟩ : Alert) ∈ s.alerts
  · simp [h]
  · by_cases hl : s.alerts.length < Config.maxAlerts
    · simp [h, hl]
    · simp [h, hl, Nat.le_of_not_lt hl]

/-- The outcomes of a push (R129, R130, R131). -/
theorem State.push_cases (s : State) (b : Nat) (r : LogRecord) :
    ((s.log b).records.length < Config.maxLog ∧
      (s.push b r = s.setLog b { s.log b with records := (s.log b).records ++ [r] }
        ∨ s.push b r = (s.setLog b { s.log b with records := (s.log b).records ++ [r] }).raise .logHigh b))
    ∨ (Config.maxLog ≤ (s.log b).records.length
      ∧ s.push b r = (s.setLog b { s.log b with lost := true }).raise .logLost b) := by
  simp only [State.push]
  split_ifs with h1 h2
  · exact .inl ⟨h1, .inr rfl⟩
  · exact .inl ⟨h1, .inl rfl⟩
  · exact .inr ⟨Nat.le_of_not_lt h1, rfl⟩

/-! ## Torches and the walk -/

@[simp] theorem Torch.closedUp_state (k : Nat) (t : Torch) : (t.closedUp k).state = t.state := by
  unfold Torch.closedUp
  split_ifs <;> rfl

@[simp] theorem Torch.closedUp_load (k : Nat) (t : Torch) : (t.closedUp k).load = t.load := by
  unfold Torch.closedUp
  split_ifs <;> rfl

/-- The torch that leaves and every other, after a torch leaves its state. -/
theorem State.torch_leaveTorch (s : State) (p q : Port) (t : Torch) :
    (s.leaveTorch p t).torch q =
      if (s.torch p).state.lit then (if p = q then t else s.torch q).closedUp (s.torch p).seq
      else if p = q then t else s.torch q := by
  simp only [State.leaveTorch]
  split_ifs <;> simp_all [State.torch_setTorch]

theorem State.torch_admit (s : State) (own : Option Port) (p q : Port) :
    (s.admitTorch own p).torch q = if p = q then { s.torch p with
        state := .starting, seq := s.litCount + 1, establish := some s.params.establishLimit, wait := none }
      else s.torch q := by
  have h : ∀ a b : State, a.torches = b.torches → a.torch q = b.torch q := fun a b e => by simp [State.torch, e]
  rw [h (s.admitTorch own p) ((s.unqueue p).setTorch p { s.torch p with
        state := .starting, seq := s.litCount + 1, establish := some s.params.establishLimit, wait := none })]
  · rw [State.torch_setTorch]
    rfl
  · simp only [State.admitTorch]
    split_ifs <;> split <;> simp

@[simp] theorem State.startQueue_admit (s : State) (own : Option Port) (p : Port) :
    (s.admitTorch own p).startQueue = s.startQueue.filter (fun q => decide (q ≠ p)) := by
  simp only [State.admitTorch]
  split_ifs <;> split <;> simp [State.unqueue]

/-- A closed admission leaves the state alone (R72). -/
theorem State.walk_closed {s : State} (own : Option Port)
    (h : s.feeder.sag = true ∨ s.feeder.stale = true ∨ s.hallStop ≠ none) : s.walk own = (s, false) := by
  have hc : (s.feeder.sag || s.feeder.stale || s.hallStop.isSome) = true := by
    rcases h with h | h | h
    · simp [h]
    · simp [h]
    · simp [Option.isSome_iff_ne_none.mpr h]
  simp [State.walk, hc]

/-! ## Timers -/

@[simp] theorem runOut_none : runOut none = false := rfl

@[simp] theorem runOut_some (n : Nat) : runOut (some n) = decide (n = 0) := by
  simp [runOut]

/-- R120, R122: a record's hold timer has run out exactly where it is reserved with nothing left. -/
@[simp] theorem runOut_holdTimer (r : Plate) : runOut r.holdTimer = r.hold.any fun h => h.left = 0 := by
  cases h : r.hold <;> simp [Plate.holdTimer, h]

/-- R120: a new reservation has its whole hold left. -/
@[simp] theorem Reservation.start_secondsLeft (n : Nat) : (Reservation.start n).secondsLeft = n := by
  simp [Reservation.start, Reservation.secondsLeft]; omega

/-- R68: a good reading has set the staleness timer anew, so an expiry that stood in the queue beside it does nothing. -/
theorem stalenessExpiry_restarted (s : State) (n : Nat) (h : s.feeder.staleTimer = some (n + 1)) :
    stalenessExpiry s = s := by
  simp [stalenessExpiry, h]

/-- R149: a keepalive in time has started the timer anew, so the old expiry does nothing. -/
theorem keepaliveExpiry_restarted (s : State) (p : Port) (k : KeepaliveTimer) (h : (s.port p).timer = some k)
    (hk : k.elapsed < k.expiry) : keepaliveExpiry p s = s := by
  simp [keepaliveExpiry, h, KeepaliveTimer.over, Nat.not_le.mpr hk]

/-! ## Holds -/

/-- What the accepted RESTART of a held part is to a new hold: nothing, or one more kind that has occurred (R176). -/
theorem State.restartTaken_cases (s : State) :
    (s.restart ≠ .due ∧ s.restartTaken = s)
    ∨ (s.restart = .due ∧ s.restartTaken =
        { s with restart := .none, hold := { s.hold with occurred := s.hold.occurred.put .restart true } }) := by
  unfold State.restartTaken
  split_ifs with h
  · exact .inr ⟨h, rfl⟩
  · exact .inl ⟨h, rfl⟩

/-- The three outcomes of the end of a hold (R176). -/
theorem State.endHolds_cases (s : State) (left : Causes) :
    (left.any = true ∧ s.endHolds left = { s with hold := { s.hold with active := left } })
    ∨ (left.any = false ∧ s.hold.occurred.power = true ∧ s.endHolds left = powerUp s)
    ∨ (left.any = false ∧ s.hold.occurred.power = false ∧ s.endHolds left = warmUp s) := by
  unfold State.endHolds
  cases h : left.any <;> cases h' : s.hold.occurred.power <;> simp

/-! ## Corridors -/

/-- R99: a retarget to the present target changes nothing; any other grows the corridor and names the target. -/
theorem State.retarget_cases (s : State) (p : Port) (z : Nat) :
    (z = (s.crane p).target ∧ s.retarget p z = s)
    ∨ (z ≠ (s.crane p).target ∧ s.retarget p z = s.setCrane p { s.crane p with
        corridor := some (s.grownCorridor p z), target := z, targets := withTarget (s.crane p).targets z }) := by
  by_cases h : z = (s.crane p).target
  · exact .inl ⟨h, by simp [State.retarget, h]⟩
  · exact .inr ⟨h, by simp [State.retarget, h]⟩

@[simp] theorem State.retarget_frame (s : State) (p : Port) (z : Nat) :
    (s.retarget p z).zones = s.zones ∧ (s.retarget p z).bindings = s.bindings ∧ (s.retarget p z).records = s.records ∧
    (s.retarget p z).tables = s.tables ∧ (s.retarget p z).logs = s.logs ∧ (s.retarget p z).torches = s.torches ∧
    (s.retarget p z).startQueue = s.startQueue ∧ (s.retarget p z).committed = s.committed ∧
    (s.retarget p z).feeder = s.feeder ∧ (s.retarget p z).ports = s.ports ∧ (s.retarget p z).hallStop = s.hallStop ∧
    (s.retarget p z).links = s.links ∧ (s.retarget p z).alerts = s.alerts ∧ (s.retarget p z).overflow = s.overflow ∧
    (s.retarget p z).params = s.params ∧ (s.retarget p z).image = s.image ∧ (s.retarget p z).causes = s.causes ∧
    (s.retarget p z).hold = s.hold ∧ (s.retarget p z).restart = s.restart ∧ (s.retarget p z).pending = s.pending := by
  rcases s.retarget_cases p z with ⟨_, h⟩ | ⟨_, h⟩ <;> simp [h]

/-! ## The register -/

/-- Changing a record keeps every id that the change keeps. -/
theorem State.records_setRecord_ids (s : State) (id : Nat) (f : Plate → Plate) (h : ∀ r, (f r).id = r.id) :
    (s.setRecord id f).records.map Plate.id = s.records.map Plate.id := by
  simp only [State.setRecord, List.map_map]
  apply List.map_congr_left
  intro r _
  simp only [Function.comp, changeRecord]
  split_ifs <;> simp [h]

/-- A record enters at one place between those before and after it. -/
theorem State.addRecord_perm (s : State) (r : Plate) : (s.addRecord r).records.Perm (r :: s.records) := by
  have h := List.takeWhile_append_dropWhile (p := fun q : Plate => decide (q.id < r.id)) (l := s.records)
  simp only [State.addRecord]
  exact List.perm_middle.trans (by rw [h])

end Sys2Proof.Machine
end

