-- ==== Sys2Proof/Laws/PerInstr.lean ====
section
/-! SUPPORT. Statements about every command as syntax, one lemma for each constructor: `FrameFits`, the frame of a
well-formed command fits the 200 bytes of a body (R160). -/

namespace Sys2Proof.Laws

open Sys2Proof

@[simp] theorem length_bytes16 (n : Nat) : (bytes16 n).length = 2 := rfl

@[simp] theorem length_bytes32 (n : Nat) : (bytes32 n).length = 4 := rfl

@[simp] theorem length_partBytes (e : PartWrite) : e.bytes.length = 11 := rfl

@[simp] theorem length_paramBytes (e : ParamEntry) : e.bytes.length = 6 := rfl

@[simp] theorem length_zoneBytes (w : ZoneWrite) : w.bytes.length = 15 := rfl

/-- Entries of one size. -/
theorem length_flatMap_of_size {α : Type} (f : α → List Byte) (k : Nat) (h : ∀ a, (f a).length = k) (l : List α) :
    (l.flatMap f).length = k * l.length := by
  induction l with
  | nil => simp
  | cons a rest ih =>
    simp only [List.flatMap_cons, List.length_append, h, ih, List.length_cons]
    ring

theorem length_plateBytes (w : PlateWrite) (hook : Bool) (z x y : Nat) :
    (w.bytes hook z x y).length = 23 + 11 * w.parts.length := by
  simp [PlateWrite.bytes, length_flatMap_of_size _ 11 length_partBytes]
  ring

theorem length_jobBytes (w : JobWrite) : w.bytes.length = 20 + 2 * w.parts.length := by
  simp [JobWrite.bytes, length_flatMap_of_size _ 2 length_bytes16]
  ring

theorem length_platePartsBytes (a : Bool) (id : Nat) (l : List PartWrite) :
    (platePartsBytes a id l).length = 6 + 11 * l.length := by
  simp [platePartsBytes, length_flatMap_of_size _ 11 length_partBytes]
  ring

def FrameFits.Statement (i : Instr) : Prop := i.wellFormed = true → (frameOf i).body.length ≤ Config.maxBody

namespace FrameFits

theorem hello (p : Port) (tag : Byte) (role : Option Role) : Statement (.hello p tag role) := by
  intro _
  exact of_decide_eq_true rfl

theorem keepalive (p : Port) (tag : Byte) : Statement (.keepalive p tag) := by
  intro _
  exact of_decide_eq_true rfl

theorem statusRead (p : Port) (tag : Byte) (port : Nat) : Statement (.statusRead p tag port) := by
  intro _
  exact of_decide_eq_true rfl

theorem portRestore (p : Port) (tag : Byte) (port : Nat) : Statement (.portRestore p tag port) := by
  intro _
  exact of_decide_eq_true rfl

theorem hallRestore (p : Port) (tag : Byte) : Statement (.hallRestore p tag) := by
  intro _
  exact of_decide_eq_true rfl

theorem zoneRead (p : Port) (tag : Byte) (zone : Nat) : Statement (.zoneRead p tag zone) := by
  intro _
  exact of_decide_eq_true rfl

theorem zoneSet (p : Port) (tag : Byte) (w : ZoneWrite) : Statement (.zoneSet p tag w) := by
  intro _
  exact of_decide_eq_true rfl

theorem zoneClear (p : Port) (tag : Byte) (zone : Nat) : Statement (.zoneClear p tag zone) := by
  intro _
  exact of_decide_eq_true rfl

theorem zoneService (p : Port) (tag : Byte) (zone : Nat) (inService : Bool) :
    Statement (.zoneService p tag zone inService) := by
  intro _
  exact of_decide_eq_true rfl

theorem zoneUsedClear (p : Port) (tag : Byte) (zone : Nat) : Statement (.zoneUsedClear p tag zone) := by
  intro _
  exact of_decide_eq_true rfl

theorem bedBind (p : Port) (tag : Byte) (zone : Nat) : Statement (.bedBind p tag zone) := by
  intro _
  exact of_decide_eq_true rfl

theorem bedUnbind (p : Port) (tag : Byte) : Statement (.bedUnbind p tag) := by
  intro _
  exact of_decide_eq_true rfl

theorem plateRegister (p : Port) (tag : Byte) (w : PlateWrite) (zone offX offY : Nat) :
    Statement (.plateRegister p tag w zone offX offY) := by
  intro h
  simp only [Instr.wellFormed, PlateWrite.wellFormed, Bool.and_eq_true, decide_eq_true_eq] at h
  simp only [frameOf, length_plateBytes, Config.maxBody]
  omega

theorem plateRegisterOnHook (p : Port) (tag : Byte) (w : PlateWrite) (crane : Nat) :
    Statement (.plateRegisterOnHook p tag w crane) := by
  intro h
  simp only [Instr.wellFormed, PlateWrite.wellFormed, Bool.and_eq_true, decide_eq_true_eq] at h
  simp only [frameOf, length_plateBytes, Config.maxBody]
  omega

theorem platePartsReplace (p : Port) (tag : Byte) (id : Nat) (parts : List PartWrite) :
    Statement (.platePartsReplace p tag id parts) := by
  intro h
  simp only [Instr.wellFormed, partsWellFormed, Bool.and_eq_true, decide_eq_true_eq] at h
  simp only [frameOf, length_platePartsBytes, Config.maxBody]
  omega

theorem platePartsAppend (p : Port) (tag : Byte) (id : Nat) (parts : List PartWrite) :
    Statement (.platePartsAppend p tag id parts) := by
  intro h
  simp only [Instr.wellFormed, partsWellFormed, Bool.and_eq_true, decide_eq_true_eq] at h
  simp only [frameOf, length_platePartsBytes, Config.maxBody]
  omega

theorem plateFinish (p : Port) (tag : Byte) (id : Nat) : Statement (.plateFinish p tag id) := by
  intro _
  exact of_decide_eq_true rfl

theorem plateDrop (p : Port) (tag : Byte) (id : Nat) : Statement (.plateDrop p tag id) := by
  intro _
  exact of_decide_eq_true rfl

theorem plateRead (p : Port) (tag : Byte) (id first : Nat) (next : Bool) :
    Statement (.plateRead p tag id first next) := by
  intro _
  exact of_decide_eq_true rfl

theorem jobAdd (p : Port) (tag : Byte) (w : JobWrite) : Statement (.jobAdd p tag w) := by
  intro h
  simp only [Instr.wellFormed, JobWrite.wellFormed, Bool.and_eq_true, decide_eq_true_eq] at h
  simp only [frameOf, length_jobBytes, Config.maxBody]
  omega

theorem jobTake (p : Port) (tag : Byte) : Statement (.jobTake p tag) := by
  intro _
  exact of_decide_eq_true rfl

theorem jobReturn (p : Port) (tag : Byte) (number : Nat) : Statement (.jobReturn p tag number) := by
  intro _
  exact of_decide_eq_true rfl

theorem jobCancel (p : Port) (tag : Byte) (bed number : Nat) : Statement (.jobCancel p tag bed number) := by
  intro _
  exact of_decide_eq_true rfl

theorem jobResume (p : Port) (tag : Byte) (bed number : Nat) : Statement (.jobResume p tag bed number) := by
  intro _
  exact of_decide_eq_true rfl

theorem jobList (p : Port) (tag : Byte) (bed first : Nat) : Statement (.jobList p tag bed first) := by
  intro _
  exact of_decide_eq_true rfl

theorem arcStart (p : Port) (tag : Byte) (number : Nat) : Statement (.arcStart p tag number) := by
  intro _
  exact of_decide_eq_true rfl

theorem arcEstablished (p : Port) (tag : Byte) : Statement (.arcEstablished p tag) := by
  intro _
  exact of_decide_eq_true rfl

theorem arcOff (p : Port) (tag : Byte) (outcome : Option ArcOutcome) : Statement (.arcOff p tag outcome) := by
  intro _
  exact of_decide_eq_true rfl

theorem budgetRead (p : Port) (tag : Byte) : Statement (.budgetRead p tag) := by
  intro _
  exact of_decide_eq_true rfl

theorem spanSet (p : Port) (tag : Byte) (lo hi : Nat) : Statement (.spanSet p tag lo hi) := by
  intro _
  exact of_decide_eq_true rfl

theorem spanClear (p : Port) (tag : Byte) : Statement (.spanClear p tag) := by
  intro _
  exact of_decide_eq_true rfl

theorem lift (p : Port) (tag : Byte) (id zone : Nat) : Statement (.lift p tag id zone) := by
  intro _
  exact of_decide_eq_true rfl

theorem retarget (p : Port) (tag : Byte) (zone : Nat) : Statement (.retarget p tag zone) := by
  intro _
  exact of_decide_eq_true rfl

theorem setDown (p : Port) (tag : Byte) (offX offY : Nat) (turn : Option Turn) :
    Statement (.setDown p tag offX offY turn) := by
  intro _
  exact of_decide_eq_true rfl

theorem liftAbort (p : Port) (tag : Byte) : Statement (.liftAbort p tag) := by
  intro _
  exact of_decide_eq_true rfl

theorem craneRead (p : Port) (tag : Byte) (port : Nat) : Statement (.craneRead p tag port) := by
  intro _
  exact of_decide_eq_true rfl

theorem remnantDeclare (p : Port) (tag : Byte) (plate id x0 y0 x1 y1 : Nat) :
    Statement (.remnantDeclare p tag plate id x0 y0 x1 y1) := by
  intro _
  exact of_decide_eq_true rfl

theorem remnantFit (p : Port) (tag : Byte) (grade thickness needL needW hold : Nat) :
    Statement (.remnantFit p tag grade thickness needL needW hold) := by
  intro _
  exact of_decide_eq_true rfl

theorem remnantRelease (p : Port) (tag : Byte) (id : Nat) : Statement (.remnantRelease p tag id) := by
  intro _
  exact of_decide_eq_true rfl

theorem remnantList (p : Port) (tag : Byte) (grade thickness first : Nat) :
    Statement (.remnantList p tag grade thickness first) := by
  intro _
  exact of_decide_eq_true rfl

theorem logTake (p : Port) (tag : Byte) (bed n : Nat) : Statement (.logTake p tag bed n) := by
  intro _
  exact of_decide_eq_true rfl

theorem logRead (p : Port) (tag : Byte) (bed first : Nat) : Statement (.logRead p tag bed first) := by
  intro _
  exact of_decide_eq_true rfl

theorem logClearLost (p : Port) (tag : Byte) (bed : Nat) : Statement (.logClearLost p tag bed) := by
  intro _
  exact of_decide_eq_true rfl

theorem alertClear (p : Port) (tag : Byte) (code : Option AlertCode) (subject : Nat) :
    Statement (.alertClear p tag code subject) := by
  intro _
  exact of_decide_eq_true rfl

theorem alertAckOldest (p : Port) (tag : Byte) : Statement (.alertAckOldest p tag) := by
  intro _
  exact of_decide_eq_true rfl

theorem alertClearAll (p : Port) (tag : Byte) : Statement (.alertClearAll p tag) := by
  intro _
  exact of_decide_eq_true rfl

theorem alertRead (p : Port) (tag : Byte) : Statement (.alertRead p tag) := by
  intro _
  exact of_decide_eq_true rfl

theorem paramSet (p : Port) (tag : Byte) (entries : List ParamEntry) : Statement (.paramSet p tag entries) := by
  intro h
  simp only [Instr.wellFormed, Bool.and_eq_true, decide_eq_true_eq] at h
  simp only [frameOf, List.length_append, length_flatMap_of_size _ 6 length_paramBytes, List.length_singleton, Config.maxBody]
  omega

theorem paramRead (p : Port) (tag : Byte) (code first : Nat) : Statement (.paramRead p tag code first) := by
  intro _
  exact of_decide_eq_true rfl

theorem configStore (p : Port) (tag : Byte) : Statement (.configStore p tag) := by
  intro _
  exact of_decide_eq_true rfl

theorem restart (p : Port) (tag : Byte) : Statement (.restart p tag) := by
  intro _
  exact of_decide_eq_true rfl

theorem causeRead (p : Port) (tag : Byte) : Statement (.causeRead p tag) := by
  intro _
  exact of_decide_eq_true rfl

theorem frameReceived (p : Port) (bytes : List LineByte) : Statement (.frameReceived p bytes) := by
  intro _
  exact of_decide_eq_true rfl

theorem frameTake (p : Port) : Statement (.frameTake p) := by
  intro _
  exact of_decide_eq_true rfl

theorem frameSent (p : Port) : Statement (.frameSent p) := by
  intro _
  exact of_decide_eq_true rfl

theorem feederReading (bytes : List LineByte) : Statement (.feederReading bytes) := by
  intro _
  exact of_decide_eq_true rfl

theorem stalenessTimerExpiry : Statement (.stalenessTimerExpiry) := by
  intro _
  exact of_decide_eq_true rfl

theorem establishTimerExpiry (p : Port) : Statement (.establishTimerExpiry p) := by
  intro _
  exact of_decide_eq_true rfl

theorem waitTimerExpiry (p : Port) : Statement (.waitTimerExpiry p) := by
  intro _
  exact of_decide_eq_true rfl

theorem overdueTimerExpiry (bed number : Nat) : Statement (.overdueTimerExpiry bed number) := by
  intro _
  exact of_decide_eq_true rfl

theorem holdTimerExpiry (id : Nat) : Statement (.holdTimerExpiry id) := by
  intro _
  exact of_decide_eq_true rfl

theorem keepaliveTimerExpiry (p : Port) : Statement (.keepaliveTimerExpiry p) := by
  intro _
  exact of_decide_eq_true rfl

theorem storeCompletion (readBackEqual : Bool) : Statement (.storeCompletion readBackEqual) := by
  intro _
  exact of_decide_eq_true rfl

theorem resetHold (kind : ResetKind) : Statement (.resetHold kind) := by
  intro _
  exact of_decide_eq_true rfl

theorem restartResetBegin : Statement (.restartResetBegin) := by
  intro _
  exact of_decide_eq_true rfl

theorem powerStartUp : Statement (.powerStartUp) := by
  intro _
  exact of_decide_eq_true rfl

theorem resetRelease (kind : ResetKind) : Statement (.resetRelease kind) := by
  intro _
  exact of_decide_eq_true rfl

end FrameFits

end Sys2Proof.Laws
end

