-- ==== Sys2Proof/Tests/Slice0.lean ====
section
/-! SUPPORT. Tests. Expected results come from the worked examples and tables of spec/, named beside each test. For each
statement with hypotheses, `witness_<Name>` shows a state and operands that meet them together. -/

open Sys2Proof Sys2Proof.Machine

namespace Sys2Proof.Tests

/-! ## The hall of section 11.1 -/

def bay (kind : ZoneKind) (x y w h cap : Nat) (bind lift place pass : Bool) : Zone :=
  ⟨⟨kind, x, y, w, h, false, cap, bind, lift, place, pass, true⟩, false⟩

/-- The zones of section 11.1, and the KEEPOUT 15 of section 5.10. -/
def bays : Vector Zone 48 :=
  (Vector.replicate 48 Zone.empty)
    |>.set 3 (bay .lane 2000 2000 14000 6000 4 false true true true)
    |>.set 4 (bay .bed 20000 4000 26000 6000 2 true true true true)
    |>.set 5 (bay .bed 20000 14000 26000 6000 2 true true true true)
    |>.set 9 (bay .rack 60000 30000 14000 6000 4 false true true true)
    |>.set 12 (bay .scrap 4000 30000 14000 6000 1 false true true false)
    |>.set 15 (bay .keepout 48000 40000 4000 4000 0 false false false false)

/-- Plate 9050 and remnant 8800 of section 11.1. -/
def plate9050 : Plate := ⟨9050, .plate, 12, 15, 12000, 3000, .resting 5 1000 500 .deg0, .whole, none, false, [], none⟩
def plate8800 : Plate :=
  ⟨8800, .remnant, 12, 20, 2500, 2000, .resting 9 0 0 .deg0, .whole, some 7000, false, [], none⟩

/-- Plate 9001 of section 11.2, with the statuses of its parts. -/
def plate9001 (l : Location) (f : Form) (st : PartStatus) : Plate :=
  ⟨9001, .plate, 12, 20, 12000, 3000, l, f, none, false,
    [⟨1, 0, 0, 4000, 3000, true, st⟩, ⟨2, 4000, 0, 7000, 3000, true, st⟩, ⟨3, 7000, 0, 8500, 1500, false, st⟩], none⟩

/-- The jobs of chapter 11: 50 on bed 5, and 1 and 2 on bed 4. -/
def job50 (st : JobState) : Job := ⟨50, .cut, 9050, [], 400, 0, 0, 1, st, some 2, false, false, 0, none⟩
def job1 (st : JobState) (p : Option Port) : Job := ⟨1, .mark, 9001, [1, 2], 25, 1, 0, 1, st, p, false, false, 0, none⟩
def job2 (st : JobState) (p : Option Port) : Job :=
  ⟨2, .cut, 9001, [1, 2, 3], 260, 0, 1200, 2, st, p, false, false, 0, none⟩

def online : PortRecord := ⟨.online, some ⟨600, 500, 1000⟩, 0, 0⟩

def bound (z : Nat) : Binding := ⟨.bound, z, none⟩

/-- Section 11.1: P1 and P2 are gantries bound to beds 4 and 5, P4 is the WEST crane, P2 holds job 50. -/
def hall : State := { State.reset with
  zones := bays
  bindings := (Vector.replicate 6 .unbound) |>.set 1 (bound 4) |>.set 2 (bound 5)
  records := [plate8800, plate9050]
  tables := (Vector.replicate 48 .fresh).set 5 ⟨[job50 .taken], 2⟩
  feeder := ⟨1000, 950, false, false, some 500, 0, .hunting⟩
  ports := #v[online, online, online, .afterReset, online, .afterReset]
  links := Vector.replicate 6 .afterReset
  alerts := []
  params := { Params.default with ports := #v[.default .planning, .default .gantry, .default .gantry, .default .unused,
    .default .crane, .default .unused] } }

/-! Its later stages, each written as the table of its section gives it. -/

/-- Section 11.2 with plate 9001 in lane 3 and P4's span claimed. -/
def lane : State := { hall with
  records := [plate8800, plate9001 (.resting 3 1000 1000 .deg0) .whole .unmarked, plate9050]
  cranes := hall.cranes.set 4 { Crane.powerOn with span := some (1, 22) } }

/-- Section 11.2 after the LIFT. -/
def lifted : State := { hall with
  records := [plate8800, plate9001 (.onHook 4) .whole .unmarked, plate9050]
  cranes := hall.cranes.set 4
    ⟨some (1, 22), some 9001, some ⟨3000, 3000, 43000, 7000⟩, 4, [4], ⟨3, 1000, 1000, .deg0⟩⟩ }

/-- Plate 9001 on bed 4, under the jobs given; P2's torch as given. -/
def bed4 (st : PartStatus) (jobs : List Job) : State := { hall with
  records := [plate8800, plate9001 (.resting 4 1000 500 .deg0) (if st = .separated then .worked else .whole) st, plate9050]
  tables := hall.tables.set 4 ⟨jobs, 3⟩ }

def starting (b n i k : Nat) : Torch := ⟨.starting, some (b, n), i, (3 * i + 1) / 2, k, some 1500, none⟩
def burning (b n i k : Nat) : Torch := ⟨.burning, some (b, n), i, (3 * i + 1) / 2, k, none, none⟩
def waiting (b n i : Nat) : Torch := ⟨.waiting, some (b, n), i, (3 * i + 1) / 2, 0, none, some 20000⟩
def dropped (b n i : Nat) : Torch := ⟨.dropped, some (b, n), i, (3 * i + 1) / 2, 0, none, none⟩

/-- Section 11.4 after P2's ARC-START, P1 holding job 2. -/
def surge : State :=
  let s := bed4 .marked [job2 .taken (some 1)]
  { s with
    tables := s.tables.set 5 ⟨[job50 .starting], 2⟩, torches := s.torches.set 2 (starting 5 50 400 1), committed := 600 }

/-- Section 11.4 after P1's ARC-START, its port's wait queued on the budget. -/
def queued : State := { surge with torches := surge.torches.set 1 (waiting 4 2 260), startQueue := [1] }

/-- Section 11.4 at its end: G2 burns, G1 starts. -/
def lit : State :=
  let s := bed4 .marked [job2 .starting (some 1)]
  { s with
    tables := s.tables.set 5 ⟨[job50 .burning], 2⟩
    torches := (s.torches.set 1 (starting 4 2 260 2)).set 2 (burning 5 50 400 1), committed := 790 }

/-- The state with P1 and its torch lapsed under return mode AUTO. -/
def lapsed : State := { hall with
  ports := hall.ports.set 1 ⟨.lapsed, none, 1, 0⟩, torches := hall.torches.set 1 (dropped 4 2 260) }

/-- The latch set by P2. -/
def stopped : State := { hall with hallStop := some 2 }

/-- A held LINE reset. -/
def heldLine : State := { hall with hold := ⟨⟨false, true, false, false⟩, ⟨false, true, false, false⟩⟩ }

/-! ## Reading a step -/

def resultOf (o : Host.Outcome State Fault Refusal) : Option State :=
  match o with
  | .next t => some t
  | _ => none

/-- What a command leaves, seen through `f`. -/
def after {α : Type} (i : Instr) (f : State → α) (s : State := hall) : Option α := (resultOf (exec i s)).map f

/-- The status and the data of the reply in the slot of a port. -/
def replyAt (p : Port) (s : State) : Option (Status × ReplyData) := (s.link p).slot.map fun r => (r.status, r.data)

/-- What a request answers. -/
def reply (i : Instr) (s : State := hall) : Option (Status × ReplyData) :=
  match requestOf i with
  | some (p, _) => (after i (replyAt p) s).join
  | none => none


/-! ## WellFormed: an ill-formed term for each of its checks -/

def zoneWrite : ZoneWrite := ⟨6, some .bed, 40000, 2000, 40, 123, true, 1, true, false, false, false⟩
def part (n : Nat) (st : PartStatus) : PartWrite := ⟨n, 0, 0, 3000, 2800, false, some st⟩
def plateWrite : PlateWrite :=
  ⟨9001, some .plate, 12, 20, 12000, 3000, some .whole, some .deg0, 0, false,
    [⟨1, 0, 0, 4000, 3000, true, some .unmarked⟩, ⟨2, 4000, 0, 7000, 3000, true, some .unmarked⟩,
      ⟨3, 7000, 0, 8500, 1500, false, some .unmarked⟩]⟩
def jobWrite : JobWrite := ⟨4, 2, some .cut, 9001, [1, 2, 3], 260, 0, 1200⟩

theorem test_wellFormed_refuses_numbers : ∀ i ∈ ([.statusRead 0 0 256, .portRestore 0 0 256, .zoneRead 0 0 256,
    .zoneClear 0 0 256, .zoneService 0 0 256 true, .zoneUsedClear 0 0 256, .bedBind 1 0 256, .plateFinish 0 0 4294967296,
    .plateDrop 0 0 4294967296, .plateRead 0 0 4294967296 0 false, .plateRead 0 0 0 256 false, .jobReturn 1 0 65536,
    .jobCancel 0 0 256 1, .jobCancel 0 0 1 65536, .jobResume 0 0 256 1, .jobResume 0 0 1 65536, .jobList 0 0 256 0,
    .jobList 0 0 1 256, .arcStart 1 0 65536, .spanSet 4 0 256 0, .spanSet 4 0 0 256, .lift 4 0 4294967296 1,
    .lift 4 0 1 256, .retarget 4 0 256, .setDown 4 0 4294967296 0 none, .setDown 4 0 0 65536 none, .craneRead 0 0 256,
    .resetRelease .power] : List Instr), i.wellFormed = false := by decide

theorem test_wellFormed_refuses_more_numbers : ∀ i ∈ ([.remnantDeclare 0 0 4294967296 1 0 0 1 1,
    .remnantDeclare 0 0 1 4294967296 0 0 1 1, .remnantDeclare 0 0 1 1 65536 0 1 1, .remnantDeclare 0 0 1 1 0 65536 1 1,
    .remnantDeclare 0 0 1 1 0 0 65536 1, .remnantDeclare 0 0 1 1 0 0 1 65536, .remnantFit 0 0 256 3 1 1 0,
    .remnantFit 0 0 0 256 1 1 0, .remnantFit 0 0 0 3 65536 1 0, .remnantFit 0 0 0 3 1 65536 0, .remnantFit 0 0 0 3 1 1 65536,
    .remnantRelease 0 0 4294967296, .remnantList 0 0 256 3 0, .remnantList 0 0 0 256 0, .remnantList 0 0 0 3 256,
    .logTake 0 0 256 1, .logTake 0 0 1 256, .logRead 0 0 256 0, .logRead 0 0 1 256, .logClearLost 0 0 256,
    .alertClear 0 0 none 256, .paramRead 0 0 256 0, .paramRead 0 0 1 256, .paramSet 0 0 [⟨256, 0, 0⟩],
    .paramSet 0 0 [⟨1, 256, 0⟩], .paramSet 0 0 [⟨1, 0, 4294967296⟩],
    .paramSet 0 0 (List.replicate 34 ⟨1, 0, 0⟩)] : List Instr), i.wellFormed = false := by decide

theorem test_wellFormed_refuses_records : ∀ i ∈ ([.zoneSet 0 0 { zoneWrite with zone := 256 },
    .zoneSet 0 0 { zoneWrite with originX := 4294967296 }, .zoneSet 0 0 { zoneWrite with originY := 65536 },
    .zoneSet 0 0 { zoneWrite with extX := 65536 }, .zoneSet 0 0 { zoneWrite with extY := 65536 },
    .zoneSet 0 0 { zoneWrite with capacity := 256 }, .plateRegister 0 0 { plateWrite with id := 4294967296 } 3 0 0,
    .plateRegister 0 0 { plateWrite with kind := none } 3 0 0, .plateRegister 0 0 { plateWrite with grade := 256 } 3 0 0,
    .plateRegister 0 0 { plateWrite with thickness := 256 } 3 0 0,
    .plateRegister 0 0 { plateWrite with length := 65536 } 3 0 0, .plateRegister 0 0 { plateWrite with width := 65536 } 3 0 0,
    .plateRegister 0 0 { plateWrite with turn := none } 3 0 0,
    .plateRegister 0 0 { plateWrite with parent := 4294967296 } 3 0 0,
    .plateRegister 0 0 { plateWrite with parts := List.replicate 17 (part 1 .unmarked) } 3 0 0,
    .plateRegister 0 0 plateWrite 256 0 0, .plateRegister 0 0 plateWrite 3 4294967296 0,
    .plateRegister 0 0 plateWrite 3 0 65536, .plateRegisterOnHook 0 0 { plateWrite with id := 4294967296 } 4,
    .plateRegisterOnHook 0 0 plateWrite 256] : List Instr), i.wellFormed = false := by decide

theorem test_wellFormed_refuses_lists : ∀ i ∈ ([.platePartsReplace 0 0 4294967296 [], .platePartsAppend 0 0 4294967296 [],
    .platePartsReplace 0 0 1 (List.replicate 18 (part 1 .unmarked)),
    .platePartsAppend 0 0 1 (List.replicate 18 (part 1 .unmarked)), .platePartsReplace 0 0 1 [part 65536 .unmarked],
    .platePartsAppend 0 0 1 [{ part 1 .unmarked with x0 := 65536 }],
    .platePartsAppend 0 0 1 [{ part 1 .unmarked with y0 := 65536 }],
    .platePartsAppend 0 0 1 [{ part 1 .unmarked with x1 := 65536 }],
    .platePartsAppend 0 0 1 [{ part 1 .unmarked with y1 := 65536 }], .jobAdd 0 0 { jobWrite with bed := 256 },
    .jobAdd 0 0 { jobWrite with number := 65536 }, .jobAdd 0 0 { jobWrite with kind := none },
    .jobAdd 0 0 { jobWrite with plate := 4294967296 }, .jobAdd 0 0 { jobWrite with parts := List.replicate 91 1 },
    .jobAdd 0 0 { jobWrite with parts := [65536] }, .jobAdd 0 0 { jobWrite with current := 65536 },
    .jobAdd 0 0 { jobWrite with priority := 256 }, .jobAdd 0 0 { jobWrite with limit := 65536 }] : List Instr),
    i.wellFormed = false := by decide

theorem test_wellFormed_accepts : ∀ i ∈ ([.zoneSet 0 0 zoneWrite, .plateRegister 0 0 plateWrite 255 4294967295 65535,
    .jobAdd 0 0 jobWrite, .spanSet 4 0 255 255] : List Instr), i.wellFormed = true := by decide

/-! ## Frames: words written out from sections 9.6 and 9.9, one for each family -/

set_option maxRecDepth 4000 in
/-- R160: the CRC of the digits 1 to 9 is 0x29B1. R165: a level of 905 is 5A 03 89 E6. -/
theorem test_line_checks : crc16 [0x31, 0x32, 0x33, 0x34, 0x35, 0x36, 0x37, 0x38, 0x39] = 0x29B1
    ∧ readingBytes 905 = [0x5A, 0x03, 0x89, 0xE6] := by decide

theorem test_decode_ports : decodeFrame 4 ⟨0x01, 3, [1]⟩ = .request (.hello 4 3 (some .crane))
    ∧ decodeFrame 4 ⟨0x02, 3, []⟩ = .request (.keepalive 4 3) ∧ decodeFrame 4 ⟨0x02, 3, [0]⟩ = .format := by decide

theorem test_decode_zones : decodeFrame 0 ⟨0x13, 9, [6, 1]⟩ = .request (.zoneService 0 9 6 true)
    ∧ decodeFrame 2 ⟨0x15, 9, [6]⟩ = .request (.bedBind 2 9 6) := by decide

/-- Section 9.9, a plate record: id 9101, flags 1 00 0 1 1 00 = 0x8C (REMNANT, WHOLE, turn 90, in-parent), grade 12, 20 mm,
3 500 × 3 000, zone 4, offset (9 500, 500), parent 9001, one part. -/
theorem test_decode_plates : decodeFrame 0 ⟨0x20, 5, [0, 0, 0x23, 0x8D, 0x8C, 12, 20, 0x0D, 0xAC, 0x0B, 0xB8, 4, 0, 0, 0x25,
      0x1C, 0x01, 0xF4, 0, 0, 0x23, 0x29, 1, 0, 7, 0, 0, 0, 1, 0x0B, 0xB8, 0x0A, 0xF0, 0x81]⟩ =
    .request (.plateRegister 0 5 ⟨9101, some .remnant, 12, 20, 3500, 3000, some .whole, some .deg90, 9001, true,
      [⟨7, 0, 1, 3000, 2800, true, some .marked⟩]⟩ 4 9500 500) := by decide

/-- Section 9.9, a job record: job 2, CUT, plate 9001, priority 0, limit 1 200, 260 A, two parts. -/
theorem test_decode_jobs : decodeFrame 0 ⟨0x30, 5, [4, 0, 2, 0x80, 0, 0, 0x23, 0x29, 0, 0x04, 0xB0, 0x01, 0x04, 0, 0, 0, 0,
      0xFF, 0, 2, 0, 1, 0, 3]⟩ = .request (.jobAdd 0 5 ⟨4, 2, some .cut, 9001, [1, 3], 260, 0, 1200⟩)
    ∧ decodeFrame 0 ⟨0x33, 5, [4, 0x01, 0x02]⟩ = .request (.jobCancel 0 5 4 258) := by decide

theorem test_decode_arcs_cranes : decodeFrame 1 ⟨0x42, 1, [1]⟩ = .request (.arcOff 1 1 (some .interrupted))
    ∧ decodeFrame 4 ⟨0x54, 1, [0, 0, 0x3A, 0x98, 0x03, 0xE8, 0]⟩ = .request (.setDown 4 1 15000 1000 (some .deg0)) := by
  decide

theorem test_decode_remnants_logs : decodeFrame 0 ⟨0x61, 1, [12, 20, 0x0B, 0xB8, 0x0C, 0x80, 0x01, 0x2C]⟩ =
      .request (.remnantFit 0 1 12 20 3000 3200 300)
    ∧ decodeFrame 0 ⟨0x70, 1, [4, 20]⟩ = .request (.logTake 0 1 4 20)
    ∧ decodeFrame 0 ⟨0x73, 1, [7, 4]⟩ = .request (.alertClear 0 1 (some .jobOverdue) 4) := by decide

theorem test_decode_configuration : decodeFrame 0 ⟨0x78, 1, [1, 0x07, 0, 0, 0, 0x04, 0xB0]⟩ =
    .request (.paramSet 0 1 [⟨0x07, 0, 1200⟩]) ∧ decodeFrame 0 ⟨0x79, 1, [0x0F, 1]⟩ = .request (.paramRead 0 1 0x0F 1)
    ∧ decodeTableWord 8 1 = none ∧ hall.withFetchWord 8 1 = hall := by
  refine ⟨by decide, by decide, rfl, rfl⟩

/-- Section 9.8: ALERT opens with 0x0A; R168: CRANE_MOVE LIFTED of section 11.2. -/
theorem test_notices_on_the_line : (Notice.alert .portLapsed 4 1).frame = ⟨0x81, 0, [0x0A, 5, 4, 1]⟩
    ∧ (Notice.craneMove 4 .lifted 9001 4 (.corridor ⟨3000, 3000, 43000, 7000⟩)).frame =
      ⟨0x81, 0, [8, 4, 1, 0, 0, 0x23, 0x29, 4, 0, 0, 0x0B, 0xB8, 0x0B, 0xB8, 0, 0, 0xA7, 0xF8, 0x1B, 0x58]⟩ := by decide

/-! ## The floor: sections 1.1.1, 1.2.1 and 1.3.1 -/

theorem test_enclosing_rectangle : Rect.enclose ⟨10000, 5000, 12000, 3000⟩ ⟨30000, 20000, 6000, 8000⟩ =
    ⟨10000, 5000, 26000, 23000⟩ := by decide

theorem test_turned_plate : footprint 12000 3000 500 200 .deg90 = ⟨500, 200, 3000, 12000⟩
    ∧ placeRect 3000 500 200 .deg90 9000 1000 12000 3000 = ⟨500, 9200, 2000, 3000⟩ := by decide

theorem test_columns : Rect.columns ⟨37500, 0, 9000, 1⟩ = (18, 23) ∧ Rect.columns ⟨38000, 0, 2000, 1⟩ = (19, 19)
    ∧ Rect.columns ⟨40000, 0, 1, 1⟩ = (20, 20) ∧ Rect.columns ⟨10000, 0, 26000, 1⟩ = (5, 17) := by decide

/-! ## Ports (chapter 8) -/

/-- Section 8.11, time 0. -/
theorem test_hello : reply (.hello 2 1 (some .gantry)) { hall with ports := hall.ports.set 2 .afterReset } =
      some (.ok, .hello 1000 50 .auto none)
    ∧ after (.hello 2 1 (some .gantry)) (fun t => t.port 2) { hall with ports := hall.ports.set 2 .afterReset } =
      some ⟨.online, some ⟨0, 500, 1000⟩, 0, 0⟩ := by decide

/-- R147: a keepalive exactly at the early mark is in time. -/
theorem test_keepalive_at_the_mark :
    reply (.keepalive 2 1) { hall with ports := hall.ports.set 2 ⟨.online, some ⟨500, 500, 1000⟩, 0, 0⟩ } =
      some (.ok, .marks 1000 50) := by decide

/-- Section 8.11, time 1 350: 450 < 500. -/
theorem test_keepalive_early :
    let s := { hall with ports := hall.ports.set 2 ⟨.online, some ⟨450, 500, 1000⟩, 0, 0⟩ }
    reply (.keepalive 2 1) s = some (.early, .nothing)
      ∧ after (.keepalive 2 1) (fun t => (t.port 2, t.alerts)) s = some (⟨.lapsed, none, 1, 0⟩, [⟨.portLapsed, 2⟩]) := by
  decide

/-- R158: RANGE comes before ROLE, and a port may not name another. -/
theorem test_statusRead : reply (.statusRead 1 0 6) = some (.range, .nothing)
    ∧ reply (.statusRead 1 0 0) = some (.role, .nothing) := by decide

theorem test_portRestore : reply (.portRestore 0 0 1) = some (.state, .nothing)
    ∧ after (.portRestore 0 0 1) (fun t => (t.port 1).state) lapsed = some .silent := by decide

/-- Section 8.12: the reply carries the cause. -/
theorem test_hallRestore : reply (.hallRestore 0 0) stopped = some (.ok, .cause (some 2))
    ∧ reply (.hallRestore 0 0) = some (.state, .nothing) := by decide

/-! ## Zones and bindings: section 1.8.1 -/

/-- Zone 6 with the record of section 1.2.1 on it, P2 bound to it and holding no job. -/
def edit : State := { hall with
  zones := hall.zones.set 6 ⟨⟨.bed, 40000, 2000, 40, 150, true, 2, true, false, false, false, true⟩, false⟩
  records := [⟨7010, .plate, 1, 10, 12000, 3000, .resting 6 500 200 .deg90, .worked, none, false, [], none⟩]
  tables := Vector.replicate 48 .fresh
  bindings := hall.bindings.set 2 (bound 6) }

theorem test_zoneRead : reply (.zoneRead 1 0 48) = some (.range, .nothing)
    ∧ reply (.zoneRead 1 0 12) = some (.ok, .zone ⟨12, (hall.desc 12), false, ⟨4000, 30000, 14000, 6000⟩, 0, none, false⟩) := by
  decide

theorem test_zoneSet_refused : reply (.zoneSet 0 1 { zoneWrite with extY := 120, capacity := 2 }) edit = some (.fit, .nothing)
    ∧ reply (.zoneSet 0 1 { zoneWrite with capacity := 0 }) edit = some (.occupied, .nothing) := by decide

theorem test_zoneSet_accepted : reply (.zoneSet 0 1 zoneWrite) edit = some (.ok, .rect ⟨40000, 2000, 4000, 12300⟩)
    ∧ after (.zoneSet 0 1 zoneWrite) (fun t => ((t.binding 2).state, (t.link 2).notices)) edit =
      some (.stale, [.bedStale 6]) := by decide

theorem test_zoneClear : reply (.zoneClear 0 0 4) = some (.occupied, .nothing)
    ∧ after (.zoneClear 0 0 15) (fun t => t.zone 15) = some .empty := by decide

/-- Section 1.8.1: no second notice for a STALE binding. -/
theorem test_zoneService :
    let s := { edit with bindings := edit.bindings.set 2 ⟨.stale, 6, none⟩ }
    reply (.zoneService 0 0 6 false) s = some (.ok, .nothing)
      ∧ after (.zoneService 0 0 6 false) (fun t => ((t.desc 6).inService, (t.link 2).notices)) s = some (false, []) := by
  decide

theorem test_zoneUsedClear : reply (.zoneUsedClear 0 0 7) = some (.range, .nothing)
    ∧ after (.zoneUsedClear 0 0 5) (fun t => (t.zone 5).used)
      { hall with zones := hall.zones.set 5 ⟨hall.desc 5, true⟩ } = some false := by decide

theorem test_bedBind : reply (.bedBind 2 0 6) { edit with zones := edit.zones.set 6 ⟨{ edit.desc 6 with inService := false },
      false⟩ } = some (.absent, .nothing)
    ∧ reply (.bedBind 2 0 6) edit = some (.ok, .snapshot 6 (edit.desc 6)) := by decide

theorem test_bedUnbind : reply (.bedUnbind 2 0) = some (.busy, .nothing)
    ∧ after (.bedUnbind 1 0) (fun t => t.binding 1) = some .unbound := by decide

/-! ## The plate register: sections 2.11 and 11.2 -/

theorem test_plateRegister : reply (.plateRegister 0 0 plateWrite 3 1000 1000) = some (.ok, .rect ⟨3000, 3000, 12000, 3000⟩)
    ∧ after (.plateRegister 0 0 plateWrite 3 1000 1000) (fun t => (t.record 9001, (t.zone 3).used)) =
      some (some (plate9001 (.resting 3 1000 1000 .deg0) .whole .unmarked), true) := by decide

/-- Section 11.2's offset moved so that the plate leaves the lane; and R27's step 4 against plate 9050 on bed 5. -/
theorem test_plateRegister_refused : reply (.plateRegister 0 0 plateWrite 3 2001 1000) = some (.fit, .nothing)
    ∧ reply (.plateRegister 0 0 plateWrite 5 2000 1000) = some (.overlap, .nothing) := by decide

/-- R30: span 20..40 gives (40 000, 0, 42 000, 48 000). -/
theorem test_plateRegisterOnHook :
    reply (.plateRegisterOnHook 0 0 plateWrite 4) = some (.span, .nothing)
    ∧ reply (.plateRegisterOnHook 0 0 plateWrite 4)
        { hall with cranes := hall.cranes.set 4 { Crane.powerOn with span := some (20, 40) } } =
      some (.ok, .rect ⟨40000, 0, 42000, 48000⟩) := by decide

/-- Section 11.9: the list is written and the reservation consumed. -/
theorem test_platePartsReplace :
    let s := { hall with records := [{ plate8800 with hold := some (.start 300) }] }
    reply (.platePartsReplace 0 0 8800 [⟨1, 0, 0, 2500, 2000, false, some .unmarked⟩]) s = some (.ok, .parts 1)
    ∧ after (.platePartsReplace 0 0 8800 [⟨1, 0, 0, 2500, 2000, false, some .unmarked⟩])
        (fun t => (t.remnantIndex, (t.record 8800).map Plate.hold)) s = some ([], some none) := by decide

theorem test_platePartsAppend : reply (.platePartsAppend 0 0 9050 [part 1 .unmarked]) = some (.locked, .nothing)
    ∧ reply (.platePartsAppend 0 0 8800 [{ part 1 .separated with x1 := 1 , y1 := 1}]) = some (.range, .nothing) := by decide

theorem test_plateFinish : after (.plateFinish 0 0 8800) (fun t => ((t.record 8800).map Plate.form, t.remnantIndex)) =
      some (some .skeleton, [])
    ∧ reply (.plateFinish 0 0 9050) = some (.locked, .nothing) := by decide

/-- R35: a remnant on the dropped record keeps its parent id and loses its flag. -/
theorem test_plateDrop :
    let s := { hall with records := [{ plate8800 with parent := some 9001, inParent := true },
      plate9001 (.resting 9 0 0 .deg0) .skeleton .separated] }
    after (.plateDrop 0 0 9001) State.records s = some [{ plate8800 with parent := some 9001, inParent := false }]
    ∧ reply (.plateDrop 0 0 9050) = some (.locked, .nothing) := by decide

theorem test_plateRead : reply (.plateRead 3 0 9050 0 true) = some (.none, .fill 2)
    ∧ reply (.plateRead 3 0 9050 1 false) = some (.range, .nothing) := by decide

/-! ## Job tables: sections 3.11 and 11.3 to 11.6 -/

/-- Section 11.3, the second row. -/
theorem test_jobAdd :
    let s := { bed4 .unmarked [job1 .queued none] with tables := (bed4 .unmarked []).tables.set 4 ⟨[job1 .queued none], 2⟩ }
    reply (.jobAdd 0 0 jobWrite) s = some (.ok, .added 2 0 none)
    ∧ reply (.jobAdd 0 0 { jobWrite with limit := 9000 }) s = some (.clamped, .added 2 0 (some 7200)) := by decide

/-- Section 3.11: a MARK that lists a part another MARK lists. -/
theorem test_jobAdd_refused :
    reply (.jobAdd 0 0 ⟨5, 13, some .mark, 9001, [2], 25, 1, 0⟩) (bed4 .unmarked [job1 .queued none]) =
      some (.duplicate, .nothing)
    ∧ reply (.jobAdd 0 0 { jobWrite with bed := 12 }) = some (.range, .nothing) := by decide

/-- Section 11.3: job 2 ranks first and is skipped, its parts being UNMARKED. -/
theorem test_jobTake_skips : reply (.jobTake 1 0) (bed4 .unmarked [job1 .queued none, job2 .queued none]) =
    some (.ok, .taken ⟨4, 1, .mark, 9001, [1, 2], 25, 1, 0, 0, false, 1000, 500, .deg0, 1⟩) := by decide

/-- Section 11.4: job 2 is taken, and its overdue timer starts at 1 200 s. -/
theorem test_jobTake_starts_timer :
    after (.jobTake 1 0) (fun t => t.table 4) (bed4 .marked [job2 .queued none]) =
      some ⟨[{ job2 .taken (some 1) with timer := some 1200000 }], 3⟩ := by decide

theorem test_jobReturn : reply (.jobReturn 2 0 51) = some (.state, .nothing)
    ∧ after (.jobReturn 2 0 50) (fun t => t.table 5) = some ⟨[{ job50 .queued with taker := none }], 2⟩ := by decide

/-- Section 11.5: the cancel reaches a lit arc. -/
theorem test_jobCancel_pending : reply (.jobCancel 0 0 5 50) lit = some (.pending, .nothing)
    ∧ after (.jobCancel 0 0 5 50) (fun t => (t.table 5).jobs) lit = some [{ job50 .burning with cancelPending := true }] := by
  decide

/-- R53: the withdrawal of a WAITING start; R41: the counter returns to 1. -/
theorem test_jobCancel_waiting : after (.jobCancel 0 0 4 2) (fun t => ((t.torch 1).state, t.startQueue, t.table 4,
    (t.link 1).notices)) queued = some (.idle, [], .fresh, [.jobWithdrawn 4 2]) := by decide

/-- Section 11.6. -/
theorem test_jobResume : reply (.jobResume 0 0 4 2) (bed4 .marked [job2 .held none]) = some (.ok, .position 0)
    ∧ reply (.jobResume 0 0 4 2) (bed4 .marked [job2 .queued none]) = some (.state, .nothing) := by decide

/-- Section 11.3: take order, and R58's range of `first`. -/
theorem test_jobList : reply (.jobList 3 0 4 1) { bed4 .unmarked [job1 .queued none, job2 .queued none] with
      ports := hall.ports.set 3 online } =
      some (.ok, .jobs ⟨2, 2, 0, 0, 0, 0, 3, some (1, .bound), [job1 .queued none]⟩)
    ∧ reply (.jobList 1 0 4 1) = some (.range, .nothing) := by decide

/-! ## Arcs and the feeder: sections 4.11 and 11.4 to 11.6 -/

/-- Section 11.4: P2 is granted #1 at 600 A. -/
theorem test_arcStart_granted : reply (.arcStart 2 0 50) = some (.granted, .granted 1)
    ∧ after (.arcStart 2 0 50) (fun t => (t.torch 2, t.committed)) = some (starting 5 50 400 1, 600) := by decide

/-- Section 11.4: 600 + 390 = 990 > 950. -/
theorem test_arcStart_queued : reply (.arcStart 1 0 2) surge = some (.queued, .queued .budget 0 600 950) := by decide

/-- Section 11.4: Q falls to 400, and G1 is admitted with #2. -/
theorem test_arcEstablished : after (.arcEstablished 2 0) (fun t => ((t.torch 1).state, (t.torch 1).seq, t.committed,
    (t.link 1).notices)) queued = some (.starting, 2, 790, [.grant 4 2 390]) := by decide

/-- Section 11.5: the cancelled cut completes from P2. -/
theorem test_arcOff_complete :
    let s := { lit with tables := lit.tables.set 5 ⟨[{ job50 .burning with cancelPending := true }], 2⟩ }
    reply (.arcOff 2 0 (some .complete)) s = some (.ok, .torch .burning (some .doneThenCancel))
    ∧ after (.arcOff 2 0 (some .complete)) (fun t => (t.committed, t.table 5, (t.log 5).records, (t.torch 1).seq)) s =
      some (390, .fresh, [⟨50, .cut, 9050, [], .doneThenCancel, false, 0, 400⟩], 1) := by decide

/-- Section 11.3: the MARK ends, parts 1 and 2 are MARKED and part 3 is not. -/
theorem test_arcOff_marks :
    let s := bed4 .unmarked [job1 .burning (some 1)]
    after (.arcOff 1 0 (some .complete)) (fun t => (t.record 9001).map fun r => r.parts.map Part.status)
      { s with torches := s.torches.set 1 (burning 4 1 25 1), committed := 25 } =
      some (some [.marked, .marked, .unmarked]) := by decide

theorem test_budgetRead : reply (.budgetRead 3 0) queued = some (.ok, .budget ⟨1000, 50, 1000, 950, 600, false, false, 930,
    .trip, 0, 1500, 20, [⟨1, some (4, 2), 260, 390, some 20000⟩], [⟨1, .waiting, some (4, 2), 260, 390, 0, 0, none⟩,
      ⟨2, .starting, some (5, 50), 400, 600, 600, 1, some 1500⟩]⟩) := by decide

/-- Section 11.5: L = 830 sheds G1 and stops at 400 ≤ 780. -/
theorem test_feederReading_sheds : after (.feederReading (clean (readingBytes 830))) (fun t => ((t.torch 1).state,
      (t.torch 2).state, t.committed, t.feeder.capacity, t.feeder.sag)) lit =
      some (.dropped, .burning, 400, 780, true) := by decide

/-- Section 11.5: job 2 is HELD with drop count 1. -/
theorem test_feederReading_holds : after (.feederReading (clean (readingBytes 830))) (fun t => ((t.table 4).jobs, (t.link 1).notices,
      t.alerts)) lit = some ([{ job2 .held none with drops := 1 }], [.shed 4 2], [⟨.feederSag, 0⟩, ⟨.arcShed, 1⟩]) := by decide

set_option maxRecDepth 4000 in
/-- Section 11.5: 945 < 950 leaves the sag flag set, 955 clears it. -/
theorem test_feederReading_hysteresis :
    let s := { hall with feeder := ⟨830, 780, false, true, some 500, 0, .hunting⟩ }
    after (.feederReading (clean (readingBytes 945))) State.feeder s = some ⟨945, 895, false, true, some 500, 0, .hunting⟩
    ∧ after (.feederReading (clean (readingBytes 955))) State.feeder s =
      some ⟨955, 905, false, false, some 500, 0, .hunting⟩ := by decide

/-- The 500 ms of the staleness timer have passed. -/
def silentFeeder : State := { hall with feeder := { hall.feeder with staleTimer := some 0 } }

theorem test_stalenessExpiry : after .stalenessTimerExpiry (fun t => (t.feeder.stale, t.feeder.capacity, t.alerts)) silentFeeder =
    some (true, 950, [⟨.feederStale, 0⟩]) := by decide

set_option maxRecDepth 4000 in
/-- R68: a reading taken before the expiry restarts the timer, which does not expire. -/
theorem test_stalenessExpiry_after_reading :
    (after (.feederReading (clean (readingBytes 1000))) (fun t => after .stalenessTimerExpiry (fun u => u.feeder) t)
      silentFeeder).join = some hall.feeder := by decide

/-- Section 11.4: had G2 been late, it would be DROPPED and 0 + 390 ≤ 950 lets G1 in. -/
theorem test_establishExpiry : after (.establishTimerExpiry 2) (fun t => ((t.torch 2).state, (t.torch 1).state, t.committed,
    (t.link 2).notices)) { queued with torches := queued.torches.set 2 { starting 5 50 400 1 with establish := some 0 } } =
      some (.dropped, .starting, 390, [.startFailed 5 50]) := by decide

theorem test_waitExpiry : after (.waitTimerExpiry 1) (fun t => ((t.torch 1), t.startQueue, (t.link 1).notices))
      { queued with torches := queued.torches.set 1 { waiting 4 2 260 with wait := some 0 } } =
    some (.idle, [], [.startTimeout 4 2]) := by decide

theorem test_overdueExpiry :
    after (.overdueTimerExpiry 4 2) (fun t => ((t.table 4).jobs, t.alerts))
      (bed4 .marked [{ job2 .taken (some 1) with timer := some 0 }]) =
      some ([{ job2 .taken (some 1) with overdue := true }], [⟨.jobOverdue, 4⟩]) := by decide

/-! ## Cranes: sections 5.10 and 11.2 to 11.9 -/

/-- Section 5.10's spans: P4 WEST at 10..40, P5 EAST at 50..70. -/
def runway : State := { hall with
  params := { hall.params with ports := (hall.params.ports.set 1 { PortParams.default .crane with side := .east }) }
  bindings := Vector.replicate 6 .unbound
  cranes := (hall.cranes.set 4 { Crane.powerOn with span := some (10, 40) }).set 1
    { Crane.powerOn with span := some (50, 70) } }

theorem test_spanSet : reply (.spanSet 1 0 38 60) runway = some (.conflict, .columns (10, 40))
    ∧ reply (.spanSet 1 0 45 60) runway = some (.ok, .columns (45, 60)) := by decide

/-- Section 11.2's span narrowed under its load, as the last SPAN-SET of section 5.10. -/
theorem test_spanSet_corridor : reply (.spanSet 4 0 1 21) lifted = some (.corridor, .columns (1, 22))
    ∧ reply (.spanSet 4 0 23 30) lifted = some (.disjoint, .nothing) := by decide

theorem test_spanClear : reply (.spanClear 4 0) lifted = some (.busy, .nothing)
    ∧ after (.spanClear 4 0) (fun t => ((t.crane 4).span, t.permitLine 4)) lane = some (none, false) := by decide

/-- Section 11.2. -/
theorem test_lift : reply (.lift 4 0 9001 4) lane = some (.ok, .corridor ⟨3000, 3000, 43000, 7000⟩ (1, 22))
    ∧ after (.lift 4 0 9001 4) (fun t => (t.crane 4, (t.link 0).notices)) lane = some (lifted.crane 4,
      [.craneMove 4 .lifted 9001 4 (.corridor ⟨3000, 3000, 43000, 7000⟩)]) := by decide

/-- Section 11.2: a job naming the plate would have locked it; section 5.10: a lit bed refuses the corridor. -/
theorem test_lift_refused : reply (.lift 4 0 9001 4) { lane with tables := lane.tables.set 4 ⟨[job2 .queued none], 3⟩ } =
      some (.locked, .nothing)
    ∧ reply (.lift 4 0 9001 4) { lane with torches := lane.torches.set 1 (burning 4 2 260 1), committed := 260 } =
      some (.hot, .nothing) := by decide

/-- R99: a retarget to the present target changes nothing of the crane, be its zone wider by now. -/
theorem test_retarget_present : after (.retarget 4 0 4) (fun t => t.crane 4) { lifted with
      zones := hall.zones.set 4 (bay .bed 20000 4000 26000 7000 2 true true true true) } = some (lifted.crane 4) := by decide

/-- Section 5.10: the corridor grown to a rack at Y 38 000 meets KEEPOUT 15. -/
theorem test_retarget : reply (.retarget 4 0 9) lifted = some (.span, .nothing)
    ∧ reply (.retarget 4 0 20) { lifted with
        zones := hall.zones.set 20 (bay .rack 70000 38000 6000 6000 4 false true true false)
        cranes := lifted.cranes.set 4 { lifted.crane 4 with span := some (1, 40) } } = some (.pass, .nothing) := by decide

/-- Section 11.2: the plate rests on bed 4. -/
theorem test_setDown : reply (.setDown 4 0 1000 500 (some .deg0)) lifted = some (.ok, .rect ⟨21000, 4500, 12000, 3000⟩)
    ∧ after (.setDown 4 0 1000 500 (some .deg0)) (fun t => (t.record 9001, (t.crane 4).hook, (t.crane 4).corridor)) lifted =
      some (some (plate9001 (.resting 4 1000 500 .deg0) .whole .unmarked), none, none) := by decide

/-- Section 11.8: a set-down into the scrap bay deletes the record. -/
theorem test_setDown_scrap : reply (.setDown 4 0 1000 1000 (some .deg0)) { lifted with
      cranes := lifted.cranes.set 4 { lifted.crane 4 with target := 12, targets := [12] } } = some (.ok, .deleted)
    ∧ after (.setDown 4 0 1000 1000 (some .deg0)) State.records { lifted with
      cranes := lifted.cranes.set 4 { lifted.crane 4 with target := 12, targets := [12] } } =
      some [plate8800, plate9050] := by decide

theorem test_liftAbort : reply (.liftAbort 4 0) lane = some (.state, .nothing)
    ∧ after (.liftAbort 4 0) (fun t => (t.records, t.crane 4)) lifted = some (lane.records, lane.crane 4) := by decide

theorem test_craneRead : reply (.craneRead 3 0 1) = some (.range, .nothing)
    ∧ reply (.craneRead 3 0 4) lane = some (.ok, .crane ⟨.west, lane.crane 4, none, .online, true⟩) := by decide

/-! ## Remnants: sections 6.2 and 11.7 -/

/-- Section 6.2: the turned plate of section 1.2.1, WORKED, alone in a zone of capacity 2. -/
theorem test_remnantDeclare_turned : reply (.remnantDeclare 0 0 7010 7011 9000 1000 12000 3000) edit =
    some (.ok, .remnant 7011 3000 2000 500 9200 .deg90 ⟨40500, 11200, 2000, 3000⟩) := by decide

/-- Section 11.7. -/
theorem test_remnantDeclare :
    after (.remnantDeclare 0 0 9001 9101 8500 0 12000 3000) (fun t => (t.record 9101, (t.record 9001).map Plate.form,
      t.remnantIndex.map Plate.id)) (bed4 .separated []) =
      some (some ⟨9101, .remnant, 12, 20, 3500, 3000, .resting 4 9500 500 .deg0, .whole, some 9001, true, [], none⟩,
        some .skeleton, [8800, 9101]) := by decide

/-- Section 11.7: 8800 fails both ways and 9101 passes at orientation 90. -/
theorem test_remnantFit : reply (.remnantFit 0 0 12 20 3000 3200 300) { hall with records := [plate8800,
      ⟨9101, .remnant, 12, 20, 3500, 3000, .resting 4 9500 500 .deg0, .whole, some 9001, true, [], none⟩] } =
    some (.ok, .fit ⟨9101, 3500, 3000, 10500000, .deg90, 4, 9500, 500, .deg0, ⟨29500, 4500, 3500, 3000⟩, true, 0, 300⟩) := by
  decide

/-- R118, R119: a hold of 59 s is clamped to 60; a need too large is answered NONE. -/
theorem test_remnantFit_hold : after (.remnantFit 0 0 12 20 2000 2500 59) (fun t => (t.record 8800).map Plate.hold) =
      some (some (some ⟨60, 60000⟩))
    ∧ reply (.remnantFit 0 0 12 20 2501 2501 0) = some (.none, .noFit 1 0) := by decide

theorem test_remnantRelease : reply (.remnantRelease 0 0 8800) = some (.state, .nothing)
    ∧ reply (.remnantRelease 0 0 8800) { hall with records := [{ plate8800 with hold := some ⟨600, 1⟩ }] } = some (.ok, .nothing) := by
  decide

theorem test_remnantList : reply (.remnantList 1 0 12 0 0) { hall with records := [{ plate8800 with hold := some ⟨600, 1001⟩ }] } =
      some (.ok, .remnants 1 1 [⟨8800, 20, 2500, 2000, 5000000, 9, ⟨60000, 30000, 2500, 2000⟩, false, 0, some 2⟩])
    ∧ reply (.remnantList 1 0 12 2 0) = some (.range, .nothing) := by decide

/-- R120: time runs off the hold timer, and the hold taken stays. -/
theorem test_hold_runs : (tick { hall with records := [{ plate8800 with hold := some (.start 60) }] }).records.map Plate.hold =
    [some ⟨60, 59999⟩] := by decide

theorem test_holdExpiry : after (.holdTimerExpiry 8800) (fun t => ((t.record 8800).map Plate.hold, (t.link 0).notices))
    { hall with records := [{ plate8800 with hold := some ⟨600, 0⟩ }] } = some (some none, [.reserveExpired 8800]) := by decide

/-! ## Logs and alerts: sections 7.3 and 7.5 -/

def logged (parts : Nat) : LogRecord := ⟨1, .cut, 1, (List.range parts).map (· + 1), .done, false, 0, 30⟩

/-- Section 7.3: the log at the LOG-TAKE. -/
def fullLog : State := { hall with
  logs := hall.logs.set 4 ⟨[8, 8, 8, 0, 0, 3, 8, 8, 8, 1, 2, 3, 4, 5, 6, 7].map logged, true⟩ }

theorem test_logTake : reply (.logTake 0 0 4 20) fullLog =
      some (.clamped, .log ⟨4, [8, 8, 8, 0, 0, 3, 8, 8].map logged, 8, true, 12⟩)
    ∧ reply (.logTake 0 0 4 0) fullLog = some (.range, .nothing) := by decide

theorem test_logRead : reply (.logRead 1 0 4 16) fullLog = some (.ok, .log ⟨4, [], 16, true, 12⟩)
    ∧ reply (.logRead 1 0 4 17) fullLog = some (.range, .nothing) := by decide

theorem test_logClearLost : reply (.logClearLost 0 0 4) fullLog = some (.ok, .fill 16)
    ∧ after (.logClearLost 0 0 4) (fun t => (t.log 4).lost) fullLog = some false := by decide

/-- Section 7.3: the push at a fill of 11, and the push at a fill of 16. -/
theorem test_push : (State.push 4 (logged 0) { hall with logs := hall.logs.set 4 ⟨List.replicate 11 (logged 0), false⟩ }).alerts =
      [⟨.logHigh, 4⟩]
    ∧ (State.push 4 (logged 0) fullLog).alerts = [⟨.logLost, 4⟩]
    ∧ (State.push 4 (logged 0) fullLog).log 4 = fullLog.log 4 := by decide

/-- Section 7.5: the list with LOG_LOST(4) in the eighth place and one raise counted. -/
def fullAlerts : State := { hall with
  alerts := [⟨.feederStale, 0⟩, ⟨.feederSag, 0⟩, ⟨.arcShed, 4⟩, ⟨.jobOverdue, 4⟩, ⟨.portLapsed, 5⟩, ⟨.logHigh, 4⟩,
    ⟨.startFail, 1⟩, ⟨.logLost, 4⟩]
  overflow := 1 }

theorem test_raise : (fullAlerts.raise .feederSag 0) = fullAlerts ∧ (fullAlerts.raise .arcShed 2).overflow = 2
    ∧ (State.raise .logLost 4 { fullAlerts with alerts := fullAlerts.alerts.take 7 }).alerts = fullAlerts.alerts := by decide

theorem test_alertClear : reply (.alertClear 0 0 (some .arcShed) 2) fullAlerts = some (.unknownId, .nothing)
    ∧ reply (.alertClear 0 0 (some .jobOverdue) 4) fullAlerts = some (.ok, .alertsLeft 7) := by decide

theorem test_alertAckOldest : reply (.alertAckOldest 0 0) fullAlerts = some (.ok, .acknowledged ⟨.feederStale, 0⟩ 7)
    ∧ reply (.alertAckOldest 0 0) = some (.none, .nothing) := by decide

theorem test_alertClearAll : reply (.alertClearAll 0 0) fullAlerts = some (.ok, .cleared 8 1)
    ∧ after (.alertClearAll 0 0) (fun t => (t.alerts, t.overflow, t.alertLine)) fullAlerts = some ([], 0, false) := by decide

theorem test_alertRead : reply (.alertRead 1 0) fullAlerts = some (.ok, .alerts fullAlerts.alerts 8 1 true) := by decide

/-! ## Configuration: sections 10.6 and 10.7 -/

/-- Section 10.6: a reserve of 700 under a rating of 1 200. -/
theorem test_paramSet_reserve : reply (.paramSet 0 0 [⟨0x08, 0, 700⟩]) { hall with params := { hall.params with rating := 1200 } } =
    some (.clamped, .paramsTaken [⟨0x08, 0, 600⟩]) := by decide

/-- Section 10.7: a second crane on WEST is refused, and on EAST it waits for a reset. -/
theorem test_paramSet_role : reply (.paramSet 0 0 [⟨0x01, 5, 1⟩]) = some (.range, .nothing)
    ∧ after (.paramSet 0 0 [⟨0x01, 5, 1⟩, ⟨0x02, 5, 1⟩]) (fun t => ((t.portParams 5).role, (t.portParams 5).pendingRole,
      (t.portParams 5).pendingSide)) = some (.unused, some .crane, some .east) := by decide

theorem test_paramRead : reply (.paramRead 1 0 0x0F 47) = some (.ok, .params [⟨47, 12, none⟩] .bad)
    ∧ reply (.paramRead 1 0 0x0F 0) = some (.range, .nothing) := by decide

/-- Section 10.6. -/
theorem test_configStore : reply (.configStore 0 0) = some (.pending, .nothing)
    ∧ reply (.configStore 0 0) { hall with image := .writing ⟨hall.params, Vector.replicate 48 .empty⟩ } =
      some (.busy, .nothing) := by decide

theorem test_storeCompletion :
    let s := { hall with image := .writing ⟨hall.params, Vector.replicate 48 .empty⟩ }
    after (.storeCompletion true) (fun t => (t.image.state, (t.link 0).notices)) s = some (.good, [.stored])
    ∧ after (.storeCompletion false) (fun t => (t.image.state, t.alerts)) s = some (.bad, [⟨.storeFailed, 0⟩]) := by decide

theorem test_restart : reply (.restart 0 0) = some (.ok, .nothing)
    ∧ after (.restart 0 0) State.restart = some .replying := by decide

theorem test_causeRead : reply (.causeRead 0 0) = some (.ok, .causes ⟨true, false, false, false⟩)
    ∧ after (.causeRead 0 0) State.causes = some .clear := by decide

/-! ## Links: section 9.10 -/

def frameA : Reply := ⟨1, .ok, false, .nothing⟩
def frame (t : Byte) : Frame := ⟨0x76, t, []⟩

/-- Section 9.10: reply A is being sent, B and C wait, N1 is in the queue, the last frame was a reply. -/
def busy : State := { hall with
  links := hall.links.set 0 ⟨.hunting, [frame 2, frame 3], some frameA, [.stored], false, .reply, .reply⟩ }

set_option maxRecDepth 4000 in
/-- Request D finds the buffer full. -/
theorem test_frameReceived_full : after (.frameReceived 0 (clean (frameBytes (frame 4)))) (fun t => ((t.link 0).buffer,
    (t.port 0).frameErrors)) busy = some ([frame 2, frame 3], 1) := by decide

set_option maxRecDepth 4000 in
/-- A request command is a frame that arrives whole (log 2). -/
theorem test_frameReceived_joins : after (.frameReceived 0 (clean (frameBytes (frame 2)))) (fun t => (t.link 0).buffer) =
    some [frame 2] := by decide

/-- The last byte of A is sent: N1 goes next. -/
theorem test_frameSent : after (.frameSent 0) (fun t => ((t.link 0).slot, (t.link 0).sending, (t.link 0).lastSent)) busy =
    some (none, .notice, .reply) := by decide

/-- B is taken once the slot is empty. -/
theorem test_frameTake :
    let s := { busy with links := busy.links.set 0 { busy.link 0 with slot := none, sending := .notice } }
    after (.frameTake 0) (fun t => ((t.link 0).buffer, (t.link 0).slot, (t.link 0).sending)) s =
      some ([frame 3], some ⟨2, .ok, false, .alerts [] 0 0 false⟩, .notice) := by decide

/-! ## Keepalive expiry and hall stop: section 8.12 -/

/-- P2's port, under return mode HALL_STOP, waits, and its keepalive timer has run out; G1 burns at 260. -/
def stopping : State :=
  let s := bed4 .marked [job2 .burning (some 1)]
  { s with
    tables := s.tables.set 5 ⟨[job50 .taken], 2⟩
    torches := (s.torches.set 1 (burning 4 2 260 1)).set 2 (waiting 5 50 400), startQueue := [2], committed := 260
    ports := s.ports.set 2 ⟨.online, some ⟨1000, 500, 1000⟩, 0, 0⟩
    params := { s.params with ports := s.params.ports.set 2 { PortParams.default .gantry with mode := .hallStop } } }

theorem test_keepaliveExpiry : after (.keepaliveTimerExpiry 2) (fun t => ((t.port 2).state, t.hallStop, (t.torch 1).state,
      (t.torch 2).state, t.committed)) stopping =
      some (.lapsed, some 2, .dropped, .dropped, 0) := by decide

/-- Section 8.12: the job of the lapsed port keeps its drop count, the job of the halted one does not. -/
theorem test_keepaliveExpiry_jobs : after (.keepaliveTimerExpiry 2) (fun t => ((t.table 4).jobs, (t.table 5).jobs, (t.link 1).notices,
      t.alerts)) stopping = some ([{ job2 .held none with drops := 1 }], [{ job50 .held with taker := none }],
      [.halted 4 2], [⟨.portLapsed, 2⟩, ⟨.hallStopped, 0⟩]) := by decide

/-- R149: the keepalive is taken before the expiry, which then does not happen. -/
theorem test_keepaliveExpiry_after_keepalive :
    (after (.keepalive 2 1) (fun t => after (.keepaliveTimerExpiry 2) (fun u => (u.port 2, u.hallStop)) t) stopping).join =
      some (⟨.online, some ⟨0, 500, 1000⟩, 0, 0⟩, none) := by decide

/-- P2 burns at 400 under C = 500, its mode HALL_STOP, and P1 waits for 390 A. -/
def blocking : State :=
  let s := bed4 .marked [job2 .taken (some 1)]
  { s with
    tables := s.tables.set 5 ⟨[job50 .burning], 2⟩, startQueue := [1], committed := 400
    torches := (s.torches.set 1 (waiting 4 2 260)).set 2 (burning 5 50 400 1)
    feeder := { s.feeder with capacity := 500 }
    ports := stopping.ports, params := stopping.params }

/-- R151, R72, R81: the lapse is one event, and its one walk runs at its end: under the latch it admits nothing, and P1's wait has
ended by START_TIMEOUT. -/
theorem test_lapse_latches_before_walk :
    after (.keepaliveTimerExpiry 2) (fun t => ((t.torch 1).state, (t.table 4).jobs, (t.link 1).notices, t.committed)) blocking =
      some (.idle, [job2 .taken (some 1)], [.startTimeout 4 2], 0) := by decide

/-- R80, R72: without the latch the load P2's lapse takes from Q admits P1. -/
theorem test_lapse_walks :
    after (.keepaliveTimerExpiry 2) (fun t => ((t.torch 1).state, (t.table 4).jobs, (t.link 1).notices, t.committed))
      { blocking with params := hall.params } = some (.starting, [job2 .starting (some 1)], [.grant 4 2 390], 390) := by decide

/-! ## Replies on the line: R162, R167, R169 -/

/-- R148, R164: P0's EARLY reply is built before the lapse; the ALERT which that lapse drops is told by the next reply. -/
theorem test_keepalive_early_before_lapse :
    let s := { hall with
      ports := hall.ports.set 0 ⟨.online, some ⟨450, 500, 1000⟩, 0, 0⟩
      links := hall.links.set 0 { hall.link 0 with notices := List.replicate 8 .stored } }
    after (.keepalive 0 1) (fun t => ((t.link 0).slot, (t.link 0).lost)) s =
      some (some ⟨1, .early, false, .nothing⟩, true) := by decide

/-- R167: the reason byte of QUEUED after the header flags (1, BUDGET; then the layout of log 9); ALERT-READ's alert codes. -/
theorem test_reply_frames :
    (after (.arcStart 1 7 2) (fun t => (t.link 1).slot.map Reply.frame) surge).join =
      some ⟨0x80, 7, [0x04, 0, 1, 0, 0x02, 0x58, 0x03, 0xB6]⟩
    ∧ (after (.alertRead 1 7) (fun t => (t.link 1).slot.map Reply.frame) fullAlerts).join =
      some ⟨0x80, 7, [0x00, 0, 8, 1, 0x80, 2, 0, 1, 0, 3, 4, 7, 4, 5, 5, 8, 4, 4, 1, 9, 4]⟩ := by decide

/-- R169: the wait limit of BUDGET-READ is a time in seconds, of 2 bytes. -/
theorem test_budget_wait_limit : (after (.budgetRead 3 0) (fun t => (t.link 3).slot.map fun r => (r.body.drop 19).take 2)).join =
    some [0, 20] := by decide

/-- R169: the six bytes of a LOG-TAKE reply, of an empty log too (R132: NONE with fill 0 and the lost flag). -/
theorem test_log_reply_bytes :
    (after (.logTake 0 7 4 20) (fun t => (t.link 0).slot.map fun r => r.body.take 6) fullLog).join =
      some [0x01, 0, 4, 8, 8, 0x8C]
    ∧ (after (.logTake 0 7 4 1) (fun t => (t.link 0).slot.map Reply.body)
        { hall with logs := hall.logs.set 4 ⟨[], true⟩ }).join = some [0x05, 0, 4, 0, 0, 0x8C] := by decide

/-! ## Resets: R176, R178, R179 -/

theorem test_resetHold : after (.resetHold .line) (fun t => (t.held, t.alertLine, t.permitLine 4)) lane =
    some (true, false, false) := by decide

/-- R176: from the last byte of its reply the part is held, and the reset is released at once. -/
theorem test_restartResetBegin :
    let s := { hall with restart := .replying, links := hall.links.set 0 { hall.link 0 with
      buffer := [frame 2], slot := some frameA, sending := .reply } }
    after (.frameSent 0) (fun t => (t.restart, t.held, t.alertLine)) s = some (.due, true, false)
    ∧ after .restartResetBegin (fun t => (t.restart, t.hold.active, t.causes, t.link 0)) { hall with restart := .due } =
      some (.none, .clear, ⟨true, false, true, false⟩, .afterReset) := by decide

/-- R178: an image never written. -/
theorem test_powerStartUp : resultOf (exec .powerStartUp { hall with hold := ⟨⟨true, false, false, false⟩,
    ⟨true, false, false, false⟩⟩ }) = some State.reset := by decide

/-- Section 10.6: a LINE reset in the middle of a store; R59: a TAKEN job is HELD. -/
theorem test_resetRelease : after (.resetRelease .line) (fun t => (t.causes, t.image, t.alerts, (t.table 5).jobs))
    { heldLine with image := .writing ⟨hall.params, Vector.replicate 48 .empty⟩ } =
    some (⟨true, true, false, false⟩, .bad, [⟨.storeFailed, 0⟩], [{ job50 .held with taker := none }]) := by decide

/-! ## Witnesses: states and operands that meet the hypotheses of the statements, clause by clause -/

/-- The reply to an accepted RESTART has been sent. -/
def due : State := { hall with restart := .due }

theorem witness_IdleStepIsOneMillisecond :
    (hall.pending = [] ∧ hall.held = false) ∧ (heldLine.pending = [] ∧ heldLine.held = true)
    ∧ (due.pending = [] ∧ due.held = true ∧ due.restart = .due)
    ∧ ({ hall with hold := ⟨⟨false, false, true, false⟩, ⟨false, false, true, false⟩⟩ } : State).held = true := by decide

theorem witness_HeldPartDoesNothing : heldLine.held = true ∧ (∀ k, Instr.jobTake 1 0 ≠ .resetHold k)
    ∧ Instr.jobTake 1 0 ≠ .restartResetBegin ∧ Instr.jobTake 1 0 ≠ .powerStartUp
    ∧ ∀ k, Instr.jobTake 1 0 ≠ .resetRelease k := by
  refine ⟨by decide, ?_, by decide, by decide, ?_⟩ <;> intro k <;> cases k <;> decide

theorem witness_CommandsKeepTheirFrames : (∃ t, exec (.jobTake 1 0) hall = .next t)
    ∧ (∀ p tag, requestOf (.jobTake 1 0) = some (p, tag) → hall.listens p) ∧ .zones ∉ mayChange (.jobTake 1 0)
    ∧ (∃ t, exec .stalenessTimerExpiry hall = .next t) ∧ requestOf .stalenessTimerExpiry = none :=
  ⟨⟨_, rfl⟩, fun p _ h => by
    cases Option.some.inj h
    decide, by decide, ⟨_, rfl⟩, rfl⟩

theorem witness_FrameOfRequestDecodesToIt :
    requestOf (.setDown 4 255 4294967295 65535 none) = some (4, 255)
    ∧ (Instr.setDown 4 255 4294967295 65535 none).wellFormed = true := by decide

theorem witness_SampleFramesDecode :
    (List.replicate 12 (⟨1, 0, 0, 1, 1, false, .unmarked⟩ : Part)).length = 12
    ∧ (List.replicate 4 { job2 .queued none with parts := List.range 8 }).length = 4
    ∧ ∀ j ∈ List.replicate 4 { job2 .queued none with parts := List.range 8 }, j.parts.length = 8 := by decide

theorem witness_DecodedFramesHaveTheirKindTagAndLength :
    decodeFrame 4 ⟨0x50, 1, [255, 0]⟩ = .request (.spanSet 4 1 255 0) ∧ (0x7D : Nat) ∉ requestCodes := by decide

set_option maxRecDepth 4000 in
theorem witness_FramesAreReceivedOrCounted : hall.held = false ∧ (hall.link 0).receiver = .hunting
    ∧ (⟨0x20, 1, List.replicate 200 0⟩ : Frame).body.length ≤ 200 ∧ 200 < (201 : Byte).toNat
    ∧ ([0, 0] : List Byte).length = 2 ∧ ([0, 0] : List Byte) ≠ crcBytes (byteOf 0 :: (frame 1).kind :: (frame 1).tag :: []) := by
  decide

theorem witness_FramesAreReceivedOrCounted_collecting :
    let s := hall.setLink 0 { hall.link 0 with receiver := .collecting [3, 0x76] }
    s.held = false ∧ (s.link 0).receiver = .collecting [3, 0x76] ∧ (0xA4#8 : Byte) ≠ 0xA5#8 := by decide

/-- P0 with an empty slot and frame `f` in its buffer. -/
def arrived (f : Frame) : State := hall.setLink 0 { hall.link 0 with buffer := [f] }

theorem witness_FrameTakeServesOldestFrame : (∀ f, ((arrived f).link 0).slot = none ∧ ((arrived f).link 0).buffer = [f])
    ∧ (arrived (frame 1)).held = false ∧ requestOf (.alertRead 0 1) = some (0, 1) ∧ (Instr.alertRead 0 1).wellFormed = true
    ∧ frame 1 = frameOf (.alertRead 0 1) ∧ decodeFrame 0 ⟨0x13, 1, [6, 0x81]⟩ = .request (.zoneService 0 1 6 true)
    ∧ (0x7D : Nat) ∉ requestCodes ∧ decodeFrame 0 ⟨0x76, 1, [0]⟩ = .format :=
  ⟨fun _ => ⟨rfl, rfl⟩, by decide, by decide, by decide, by decide, by decide, by decide, by decide⟩

theorem witness_RequestIsTakenWaitsOrIsLost : requestOf (.alertRead 0 1) = some (0, 1) ∧ hall.held = false
    ∧ ((hall.link 0).slot = none ∧ (hall.link 0).buffer = []) ∧ busy.held = false ∧ (busy.link 0).buffer.length = 2
    ∧ (arrived (frame 1)).held = false ∧ ((arrived (frame 1)).link 0).buffer.length = 1 := by decide

theorem witness_TakenRequestGetsOneReply :
    let s := hall.setLink 1 { hall.link 1 with lost := true }
    requestOf (.jobTake 1 0) = some (1, 0) ∧ s.listens 1 ∧ (s.link 1).lost = true
    ∧ surge.listens 1 ∧ reply (.arcStart 1 7 2) surge = some (.queued, .queued .budget 0 600 950) := by decide

theorem witness_AdmissionTestsComeFirst : requestOf (.zoneSet 1 0 zoneWrite) = some (1, 0) ∧ hall.listens 1
    ∧ hall.role 1 ∉ allowedRoles (.zoneSet 1 0 zoneWrite) ∧ requestOf (.jobTake 1 0) = some (1, 0) ∧ lapsed.listens 1
    ∧ lapsed.role 1 ∈ allowedRoles (.jobTake 1 0) ∧ (lapsed.port 1).state ≠ .online ∧ heardOffline (.jobTake 1 0) = false := by
  decide

theorem witness_TransmitterAlternates : busy.held = false ∧ (busy.link 0).sending = .reply
    ∧ ((busy.setLink 0 { busy.link 0 with slot := none, sending := .notice }).link 0).sending = .notice
    ∧ (hall.link 0).sending = .idle ∧ hall.held = false := by decide

/-- A POWER hold over an image. -/
def powerHeld (i : ImageStore) : State :=
  { hall with hold := ⟨⟨true, false, false, false⟩, ⟨true, false, false, false⟩⟩, image := i }

def image : Image := ⟨.default, Vector.replicate 48 .empty⟩

theorem witness_PowerOnValues : ∀ i ∈ ([.bad, .writing image, .good image] : List ImageStore),
    (powerHeld i).hold.active = ⟨true, false, false, false⟩ ∧ (powerHeld i).hold.occurred.power = true
    ∧ (powerHeld i).image = i := by decide

/-- A LINE hold and a RESTART; the tables hold QUEUED, TAKEN and lit jobs, one with its cancel pending. -/
theorem witness_ReleaseValues :
    (ResetKind.line ≠ .power ∧ heldLine.hold.active = Causes.clear.put .line true ∧ heldLine.hold.occurred.power = false)
    ∧ (due.restart = .due ∧ due.hold.active = .clear ∧ ({ due.hold.occurred with restart := true } : Causes).power = false)
    ∧ (heldLine.TableLaw ∧ heldLine.LogLaw ∧ heldLine.image = .bad) ∧ heldLine.overflow ≤ 255
    ∧ (∀ b < 48, ((heldLine.table b).jobs.any fun j => j.state.lit && j.cancelPending) = false)
    ∧ (lit.table 5).jobs ≠ [] ∧ ({ job50 .burning with cancelPending := true }.state.lit = true)
    ∧ { heldLine with image := .good image }.image = .good image
    ∧ { heldLine with image := .writing image }.image = .writing image := by decide

theorem witness_ReleaseValues_idle : (∀ p, (heldLine.crane p).span = none ∧ (heldLine.crane p).hook = none)
    ∧ ¬ ∀ p, ({ heldLine with cranes := lane.cranes }.crane p).span = none
        ∧ ({ heldLine with cranes := lane.cranes }.crane p).hook = none := by decide

theorem witness_HoldsBeginAndEnd : due.restart = .due ∧ hall.restart ≠ .due ∧ ResetKind.line ≠ .restart
    ∧ ({ due with hold := heldLine.hold }.restart = .due ∧ { due with hold := heldLine.hold }.hold.active.any = true)
    ∧ (let s := { hall with hold := ⟨⟨false, true, false, false⟩, ⟨true, true, false, false⟩⟩ }
      s.hold.active.has .line = true ∧ (s.hold.active.put .line false).any = false ∧ s.hold.occurred.power = true)
    ∧ (heldLine.hold.active.power = false ∧ (⟨true, true, false, true⟩ : Causes).power = true
      ∧ (⟨true, true, false, true⟩ : Causes).line = true)
    ∧ ({ hall with hold := ⟨⟨false, true, false, true⟩, ⟨false, true, false, true⟩⟩ } : State).hold.active.has .line = true
    ∧ ((⟨false, true, false, true⟩ : Causes).put .line false).any = true ∧ hall.hold.active.has .line = false := by decide

theorem witness_StepKeepsAlertAndLogLaws : fullAlerts.AlertLaw ∧ fullLog.LogLaw ∧ hall.AlertLaw ∧ hall.LogLaw
    ∧ ∃ t, step hall = .next t := ⟨by decide, by decide, by decide, by decide, _, rfl⟩

theorem witness_StepKeepsLinkLaw : busy.LinkLaw ∧ ∃ t, step busy = .next t := ⟨by decide, _, rfl⟩

theorem witness_StepKeepsLoadLaw : lit.LoadLaw ∧ ∃ t, step lit = .next t := ⟨by decide, _, rfl⟩

theorem witness_StepKeepsQueueAndNumberLaws : queued.QueueLaw ∧ queued.NumberLaw ∧ ∃ t, step queued = .next t :=
  ⟨by decide, by decide, _, rfl⟩

theorem witness_StepKeepsPermitLaw : queued.QueueLaw ∧ queued.PermitLaw ∧ ∃ t, step queued = .next t :=
  ⟨by decide, by decide, _, rfl⟩

/-- Section 11.1 with remnant 9101 on its SKELETON parent 9001. -/
def paired : State := { hall with records := [plate8800, plate9001 (.resting 4 1000 500 .deg0) .skeleton .separated, plate9050,
  ⟨9101, .remnant, 12, 20, 3500, 3000, .resting 4 9500 500 .deg0, .whole, some 9001, true, [], none⟩] }

theorem witness_StepKeepsRegisterAndCapacityLaws : paired.RegisterLaw ∧ paired.CapacityLaw ∧ paired.HookLaw ∧ paired.FloorLaw
    ∧ paired.ZoneLaw ∧ ∃ t, step paired = .next t :=
  ⟨by decide, by decide, by decide, by decide, by decide, _, rfl⟩

/-- R27, R28: the laws of the floor fail where the flag of the remnant is clear, where a record passes its zone's edge, or where a
ninth entry is BED. -/
theorem test_floor_laws_refuse :
    let clear : State := { paired with records := paired.records.map fun r => { r with inParent := false } }
    let past : State := { paired with records := [{ plate8800 with location := .resting 9 11501 0 .deg0 }] }
    ¬ clear.FloorLaw ∧ ¬ past.FloorLaw ∧ ¬ ({ hall with zones := Vector.replicate 48 (hall.zone 4) } : State).ZoneLaw :=
  ⟨by decide, by decide, by decide⟩

theorem witness_StepKeepsHookLaw : lifted.RegisterLaw ∧ lifted.HookLaw ∧ lifted.TableLaw ∧ lifted.QueueLaw ∧ lifted.ArcLaw
    ∧ lifted.ClearLaw ∧ ∃ t, step lifted = .next t :=
  ⟨by decide, by decide, by decide, by decide, by decide, by decide, _, rfl⟩

theorem witness_StepKeepsRunwayLaw : runway.ConfigLaw ∧ runway.RunwayLaw ∧ ∃ t, step runway = .next t :=
  ⟨by decide, by decide, _, rfl⟩

theorem witness_StepKeepsTableLaw : lit.TableLaw ∧ lit.QueueLaw ∧ lit.ArcLaw ∧ ∃ t, step lit = .next t :=
  ⟨by decide, by decide, by decide, _, rfl⟩

theorem witness_StepKeepsConfigLaw : hall.ConfigLaw ∧ ∃ t, step hall = .next t := ⟨by decide, _, rfl⟩

/-- Section 1.2.1's box and section 1.3.1's rows; rectangles that touch at X = 40 000. -/
theorem witness_FloorArithmetic :
    let a : Rect := ⟨38000, 0, 2000, 1⟩
    let b : Rect := ⟨40000, 0, 1, 1⟩
    (0 < a.w ∧ 0 < a.h ∧ a.x + a.w ≤ b.x ∧ a.within hallRect = true ∧ b.within hallRect = true)
    ∧ Rect.intersects a ⟨39999, 0, 1, 1⟩ = true ∧ (9000 < 12000 ∧ 12000 ≤ 12000 ∧ 1000 < 3000 ∧ 3000 ≤ 3000) := by decide

theorem witness_ZoneSetWritesEntry : hall.hears 0 [.planning] := by decide

theorem witness_StaleBindingsAreNoticed : ((edit.binding 2).state = .bound ∧ (edit.binding 2).zone = 6)
    ∧ ¬ ((edit.binding 1).state = .bound ∧ (edit.binding 1).zone = 6) := by decide

theorem witness_ZoneClearEmptiesEntry : hall.hears 0 [.planning] := by decide

theorem witness_ZoneFlagsAreSetAndCleared :
    let s := { hall with zones := hall.zones.set 47 (bay .rack 0 0 1 1 1 false true true true) }
    s.hears 0 [.planning] ∧ (s.desc 47).kind ≠ .none ∧ (s.desc 46).kind = .none := by decide

theorem witness_BedsAreBoundAndUnbound : hall.hears 1 [.gantry] := by decide

/-- The hypotheses of PlateRegisterRestsRecord that speak of the request and the place, for a record of each kind. -/
theorem witness_PlateRegisterRestsRecord : hall.hears 0 [.planning] ∧ plateWrite.kind = some .plate
    ∧ plateWrite.form = some .whole ∧ plateWrite.turn = some .deg0 ∧ hall.record plateWrite.id = none
    ∧ 1 ≤ plateWrite.id ∧ plateWrite.id ≤ 2147483647 ∧ hall.records.length < 128
    ∧ plateWrite.grade ≤ 63 ∧ 3 ≤ plateWrite.thickness ∧ plateWrite.thickness ≤ 150 ∧ 100 ≤ plateWrite.length ∧ plateWrite.length ≤ 24000
    ∧ 100 ≤ plateWrite.width ∧ plateWrite.width ≤ 4500 ∧ plateWrite.parts.length ≤ 12
    ∧ (plateWrite.parent = 0 ∧ plateWrite.claim = false)
    ∧ (∀ e ∈ plateWrite.parts, entryValid .whole 12000 3000 e = true) ∧ (plateWrite.parts.map (·.number)).Nodup := by
  constructorm* _ ∧ _ <;> decide

theorem witness_PlateRegisterRestsRecord_place : (hall.desc 3).inService = true ∧ (hall.desc 3).kind ≠ .keepout
    ∧ hall.restingCount 3 < (hall.desc 3).capacity
    ∧ (footprint 12000 3000 1000 1000 .deg0).within (hall.desc 3).frame = true ∧ plateWrite.claim = false
    ∧ hall.overlaps (plate9001 (.resting 3 1000 1000 .deg0) .whole .unmarked) 3 1000 1000 .deg0 = false := by decide

/-- Section 2.11: a remnant with an in-parent claim, at the least thickness and the least width. -/
def claimed : PlateWrite :=
  ⟨2147483647, some .remnant, 63, 3, 24000, 100, some .whole, some .deg90, 9001, true, []⟩

def skeleton : State := { hall with
  zones := hall.zones.set 47 (bay .rack 0 0 4000 30000 2 false true true true)
  records := [{ plate9001 (.resting 47 0 0 .deg90) .skeleton .separated with length := 24000 }] }

theorem witness_PlateRegisterRestsRecord_claim : skeleton.hears 0 [.planning] ∧ skeleton.record claimed.id = none
    ∧ 1 ≤ claimed.id ∧ claimed.id ≤ 2147483647 ∧ skeleton.records.length < 128
    ∧ claimed.grade ≤ 63 ∧ 3 ≤ claimed.thickness ∧ claimed.thickness ≤ 150 ∧ 100 ≤ claimed.length ∧ claimed.length ≤ 24000
    ∧ 100 ≤ claimed.width ∧ claimed.width ≤ 4500 ∧ claimed.parts.length ≤ 12
    ∧ (1 ≤ claimed.parent ∧ claimed.parent ≤ 2147483647 ∧ claimed.parent ≠ claimed.id)
    ∧ (skeleton.desc 47).inService = true ∧ (skeleton.desc 47).kind ≠ .keepout
    ∧ skeleton.restingCount 47 < (skeleton.desc 47).capacity
    ∧ (footprint 24000 100 0 0 .deg90).within (skeleton.desc 47).frame = true := by constructorm* _ ∧ _ <;> decide

theorem witness_PlateRegisterRestsRecord_parent :
    let r : Plate := ⟨claimed.id, .remnant, 63, 3, 24000, 100, .resting 47 0 0 .deg90, .whole, some 9001, true, [], none⟩
    (∃ q, skeleton.record claimed.parent = some q ∧ q.form = .skeleton ∧ q.restsIn 47 = true
      ∧ ∃ g, skeleton.hallFootprint q = some g ∧ (skeleton.footprintAt r 47 0 0 .deg90).within g = true)
    ∧ skeleton.overlaps r 47 0 0 .deg90 = false :=
  ⟨⟨_, rfl, rfl, rfl, _, rfl, by decide⟩, by decide⟩

/-- P4's span claimed before the plate is booked. -/
def spanned : State := { lane with records := hall.records }

theorem witness_PlateRegisterOnHookLoadsCrane : spanned.hears 0 [.planning] ∧ plateWrite.kind = some .plate
    ∧ plateWrite.form = some .whole ∧ plateWrite.turn ≠ none ∧ plateWrite.claim = false ∧ spanned.record plateWrite.id = none
    ∧ 1 ≤ plateWrite.id ∧ plateWrite.id ≤ 2147483647 ∧ spanned.records.length < 128
    ∧ plateWrite.grade ≤ 63 ∧ 3 ≤ plateWrite.thickness ∧ plateWrite.thickness ≤ 150 ∧ 100 ≤ plateWrite.length ∧ plateWrite.length ≤ 24000
    ∧ 100 ≤ plateWrite.width ∧ plateWrite.width ≤ 4500 ∧ plateWrite.parts.length ≤ 12
    ∧ plateWrite.parent = 0 ∧ (∀ e ∈ plateWrite.parts, entryValid .whole 12000 3000 e = true)
    ∧ (plateWrite.parts.map (·.number)).Nodup ∧ (4 : Port) ≠ 0 ∧ spanned.role 4 = .crane ∧ (spanned.crane 4).hook = none
    ∧ (spanned.crane 4).span = some (1, 22)
    ∧ ∀ z < 48, spanned.isHot z = true → Rect.intersects ⟨2000, 0, 44000, 48000⟩ (spanned.desc z).rect = false := by
  constructorm* _ ∧ _ <;> decide

theorem witness_PlatePartsRewriteLists : hall.hears 0 [.planning] ∧ hall.record 1 = none ∧ hall.record 9050 = some plate9050
    ∧ hall.refs 9050 ≠ 0 ∧ hall.record 8800 = some plate8800 ∧ hall.refs 8800 = 0 ∧ plate8800.form = .whole := by decide

/-- A WORKED record with 31 parts takes one part more, and not two; a number given twice fails the list test. -/
theorem witness_PlatePartsRewriteLists_append :
    let r := { plate8800 with form := Form.worked, parts := (List.range 31).map fun n => partOf (part (n + 1) .marked) }
    (r.form ≠ .skeleton ∧ r.form ≠ .whole ∧ r.parts.length + 1 ≤ 32 ∧ 32 < r.parts.length + 2)
    ∧ (∀ e ∈ [{ part 32 .separated with x1 := 2500, y1 := 2000 }], entryValid r.form r.length r.width e = true)
    ∧ (r.parts.map (·.number) ++ [32]).Nodup ∧ ¬ (r.parts.map (·.number) ++ [31]).Nodup := by decide

theorem witness_PlatesFinishAndDrop : hall.hears 0 [.planning] ∧ hall.record 1 = none
    ∧ hall.record 8800 = some plate8800 := by decide

theorem witness_JobAddEntersJob : hall.hears 0 [.planning] ∧ 47 < 48 := by decide

theorem witness_JobTakeSelectsFirstEligible :
    let unbound := { hall with bindings := Vector.replicate 6 .unbound }
    let stale := { hall with bindings := hall.bindings.set 1 ⟨.stale, 4, none⟩ }
    (unbound.hears 1 [.gantry] ∧ (unbound.binding 1).state = .none) ∧ (stale.hears 1 [.gantry] ∧ (stale.binding 1).state = .stale)
    ∧ (hall.hears 2 [.gantry] ∧ (hall.binding 2).state = .bound ∧ hall.heldJob 2 ≠ none)
    ∧ (stopped.hears 1 [.gantry] ∧ (stopped.binding 1).state = .bound ∧ stopped.heldJob 1 = none ∧ stopped.hallStop ≠ none)
    ∧ (hall.hears 1 [.gantry] ∧ (hall.binding 1).state = .bound ∧ hall.heldJob 1 = none ∧ hall.hallStop = none
      ∧ (hall.table 4).jobs = []) := by decide

/-- Section 11.3: job 1 is eligible, job 2 ranks ahead of it and is not. -/
theorem witness_JobTakeSelectsFirstEligible_skip :
    let s := bed4 .unmarked [job1 .queued none, job2 .queued none]
    let r := plate9001 (.resting 4 1000 500 .deg0) .whole .unmarked
    (s.hears 1 [.gantry] ∧ (s.binding 1).state = .bound ∧ (s.binding 1).zone = 4 ∧ s.heldJob 1 = none ∧ s.hallStop = none
      ∧ s.TableLaw) ∧ s.record 9001 = some r ∧ (job2 .queued none).before (job1 .queued none) = true
    ∧ ¬ ∀ q ∈ r.parts, q.number ∈ (job2 .queued none).parts → q.markRequired = true → q.status = .marked := by decide

theorem witness_JobsReturnCancelAndResume : hall.hears 2 [.gantry] ∧ hall.heldJob 2 = some (5, job50 .taken)
    ∧ hall.hears 0 [.planning] ∧ (hall.desc 47).kind ≠ .bed ∧ (hall.desc 5).kind = .bed ∧ hall.job 5 51 = none
    ∧ hall.job 5 50 = some (job50 .taken) ∧ (hall.torch 2).state ≠ .waiting := by decide

theorem witness_JobsReturnCancelAndResume_states :
    ((bed4 .marked [job2 .held none]).hears 0 [.planning]
      ∧ (bed4 .marked [job2 .held none]).job 4 2 = some (job2 .held none) ∧ (bed4 .marked [job2 .held none]).TableLaw)
    ∧ (lit.hears 0 [.planning] ∧ lit.job 5 50 = some (job50 .burning))
    ∧ (queued.hears 0 [.planning] ∧ queued.job 4 2 = some (job2 .taken (some 1)) ∧ (queued.torch 1).state = .waiting) := by
  decide

theorem witness_ArcStartIsGrantedOrQueued : (hall.hears 1 [.gantry] ∧ hall.heldJob 1 = none)
    ∧ (hall.hears 2 [.gantry] ∧ hall.heldJob 2 = some (5, job50 .taken))
    ∧ (lit.hears 2 [.gantry] ∧ lit.heldJob 2 = some (5, job50 .burning)) := by decide

/-- A walk that admits P1, one that stops at it, and a closed one. -/
theorem witness_WalkAdmitsInOrderWithinBudget :
    let free := { queued with committed := 0 }
    (free.QueueLaw ∧ free.TableLaw ∧ free.feeder.stale = false ∧ free.feeder.sag = false ∧ free.hallStop = none)
    ∧ (1 ∈ free.startQueue ∧ 1 ∉ (free.walk none).1.startQueue ∧ (free.walk none).2 = false)
    ∧ free.heldJob 1 = some (4, job2 .taken (some 1)) ∧ (free.torch 1).job = some (4, 2)
    ∧ (queued.QueueLaw ∧ (queued.walk none).2 = true) ∧ { queued with hallStop := some 0 }.hallStop ≠ none := by decide

theorem witness_ArcsAreEstablishedAndEnded : (lapsed.torch 1).state = .dropped ∧ hall.hears 1 [.gantry]
    ∧ (hall.torch 1).state = .idle ∧ (queued.hears 1 [.gantry] ∧ (queued.torch 1).state = .waiting)
    ∧ (lit.hears 1 [.gantry] ∧ (lit.torch 1).state = .starting ∧ (lit.torch 1).state.lit = true)
    ∧ (lit.hears 2 [.gantry] ∧ (lit.torch 2).state = .burning)
    ∧ ({ lapsed with ports := hall.ports } : State).hears 1 [.gantry] := by decide

/-- The largest reading; readings of 830 with the flag clear, in each mode; a receiver that collects; a lit torch. -/
theorem witness_ReadingsDriveTheFeeder : lit.held = false ∧ lit.feeder.receiver = .hunting ∧ 65535 < 65536
    ∧ ¬ min 65535 1500 < lit.params.sagLevel ∧ (lit.feeder.sag = false ∧ min 830 1500 < lit.params.sagLevel)
    ∧ lit.params.sagMode = .trip ∧ { lit.params with sagMode := .notify }.sagMode = .notify
    ∧ (0 : Byte) ≠ 0x5A#8 + 3 + 0x89
    ∧ { lit.feeder with receiver := .collecting [3] }.receiver = .collecting [3]
    ∧ (lit.torch 1).state.lit = true ∧ (lit.torch 1).job = some (4, 2) := by decide

theorem witness_TimersExpire :
    let s := { lit with torches := lit.torches.set 1 { starting 4 2 260 2 with establish := some 0 } }
    let w := { queued with torches := queued.torches.set 1 { waiting 4 2 260 with wait := some 0 } }
    s.held = false ∧ (s.torch 1).state = .starting ∧ (s.torch 1).establish = some 0 ∧ (s.torch 1).job = some (4, 2)
    ∧ (s.torch 2).state ≠ .starting ∧ (lit.torch 1).establish ≠ some 0 ∧ w.held = false ∧ (w.torch 1).state = .waiting
    ∧ (w.torch 1).wait = some 0 ∧ (w.torch 1).job = some (4, 2) ∧ (lit.torch 1).state ≠ .waiting
    ∧ (queued.torch 1).wait ≠ some 0 := by decide

/-- P2's keepalive timer at `n` ms. -/
def kept (n : Nat) : State := { hall with ports := hall.ports.set 2 ⟨.online, some ⟨n, 500, 1000⟩, 0, 0⟩ }

/-- R147: 499 ms is early and 500 ms is not. -/
theorem witness_PortsComeKeepAndReturn :
    ((kept 499).hears 2 [.planning, .gantry, .crane] ∧ ((kept 499).port 2).timer = some ⟨499, 500, 1000⟩ ∧ 499 < 500)
    ∧ ((kept 500).hears 2 [.planning, .gantry, .crane] ∧ ((kept 500).port 2).timer = some ⟨500, 500, 1000⟩ ∧ 500 ≤ 500)
    ∧ (kept 500).held = false ∧ lapsed.hearsOffline 1 [.planning, .gantry, .crane] ∧ lapsed.hears 0 [.planning]
    ∧ 5 < 6 := by decide

theorem witness_LapseStopsItsPort : (stopping.QueueLaw ∧ stopping.NumberLaw ∧ stopping.PermitLaw ∧ stopping.TableLaw)
    ∧ (stopping.port 2).state = .online ∧ (stopping.portParams 2).mode = .hallStop ∧ (stopping.portParams 1).mode ≠ .hallStop
    ∧ (stopping.port 1).state = .online ∧ stopping.role 2 = .gantry ∧ stopping.heldJob 2 = some (5, job50 .taken)
    ∧ (stopping.torch 2).state = .waiting ∧ (stopping.torch 1).state.lit = true ∧ stopping.heldJob 1 = some (4, job2 .burning (some 1)) ∧ stopping.LoadLaw := by decide

/-- P2, in mode HALL_STOP, lapses while it burns, and P1's port waits. -/
theorem witness_LapseStopsItsPort_waits :
    (blocking.QueueLaw ∧ blocking.NumberLaw ∧ blocking.PermitLaw ∧ blocking.TableLaw ∧ (blocking.port 2).state = .online)
    ∧ (blocking.portParams 2).mode = .hallStop ∧ (blocking.torch 1).state.lit = false
    ∧ blocking.heldJob 1 = some (4, job2 .taken (some 1)) ∧ (blocking.torch 2).state.lit = true := by decide

/-- Without HALL_STOP: P1 lapses while it waits, P2 while it burns; the crane lapses, and in section 11.1 the idle P1. -/
theorem witness_LapseStopsItsPort_walks :
    let s := { blocking with params := hall.params }
    (s.QueueLaw ∧ s.NumberLaw ∧ s.PermitLaw ∧ s.TableLaw ∧ (s.port 1).state = .online ∧ (s.portParams 1).mode ≠ .hallStop)
    ∧ s.role 1 = .gantry ∧ (s.torch 1).state = .waiting ∧ (s.portParams 2).mode ≠ .hallStop ∧ (s.torch 2).state.lit = true
    ∧ (s.port 4).state = .online ∧ s.role 4 ≠ .gantry ∧ (hall.torch 1).state = .idle ∧ (hall.port 1).state = .online := by decide

theorem witness_SpansAreClaimedAndCleared : runway.hears 1 [.crane] ∧ 60 < 61 ∧ 124 < 125 ∧ 124 ≤ 124
    ∧ ({ runway with hallStop := some 2 } : State).hears 1 [.crane] ∧ runway.hallStop = none ∧ runway.ConfigLaw
    ∧ runway.role 4 = .crane ∧ (runway.crane 4).span = some (10, 40) ∧ (runway.crane 1).span = some (50, 70)
    ∧ runway.side 1 = .east := by decide

/-- Section 11.2's load: its corridor's columns are 1..22. -/
theorem witness_SpansAreClaimedAndCleared_corridor : lifted.hears 4 [.crane] ∧ lifted.hallStop = none ∧ lifted.ConfigLaw
    ∧ (lifted.crane 4).hook ≠ none ∧ (lifted.crane 4).corridor = some ⟨3000, 3000, 43000, 7000⟩
    ∧ Rect.columns ⟨3000, 3000, 43000, 7000⟩ = (1, 22) ∧ lifted.crane 0 = .powerOn := by decide

theorem witness_LiftTakesRecordUp : lane.hears 4 [.crane] := by decide

theorem witness_RetargetGrowsCorridor : (lane.hears 4 [.crane] ∧ (lane.crane 4).hook = none)
    ∧ (lifted.hears 4 [.crane] ∧ (lifted.crane 4).hook = some 9001 ∧ (lifted.crane 4).span = some (1, 22)
      ∧ (lifted.crane 4).corridor = some ⟨3000, 3000, 43000, 7000⟩) := by decide

theorem witness_LoadsAreSetDownAndAborted : (lane.hears 4 [.crane] ∧ (lane.crane 4).hook = none)
    ∧ (lifted.hears 4 [.crane] ∧ (lifted.crane 4).hook = some 9001 ∧ lifted.record 9001 ≠ none)
    ∧ 249999 < 250000 ∧ 249999 ≤ 249999 := by decide

theorem witness_DeclarationBooksRemnant : (hall.hears 0 [.planning] ∧ hall.record 1 = none)
    ∧ (lifted.hears 0 [.planning] ∧ (lifted.record 9001).map Plate.location = some (.onHook 4))
    ∧ (edit.hears 0 [.planning] ∧ (edit.record 7010).map Plate.location = some (.resting 6 500 200 .deg90)) := by decide

theorem witness_FitsReserveAndReleaseFrees : hall.hears 0 [.planning] := by decide

/-- The body of a reply with the oldest `n` records of the full log. -/
def bodyBytes (n : Nat) : Nat := 6 + (((fullLog.log 4).records.take n).map fun r => 11 + 2 * r.parts.length).sum

/-- Section 7.3: eight records fit, and the ninth would make 207 bytes. -/
theorem witness_LogsArePushedAndTaken : fullLog.hears 0 [.planning] ∧ (fullLog.desc 4).kind = .bed
    ∧ (fullLog.desc 47).kind ≠ .bed ∧ 47 < 48 ∧ (hall.log 4).records = [] ∧ (fullLog.log 4).records ≠ []
    ∧ (fullLog.log 4).records = (fullLog.log 4).records.take 8 ++ (fullLog.log 4).records.drop 8
    ∧ bodyBytes 8 = 180 ∧ bodyBytes 9 = 207 := by decide

theorem witness_AlertsAreCleared : fullAlerts.hears 0 [.planning] := by decide

theorem witness_ParametersAreTaken : hall.hears 0 [.planning] ∧ hall.ConfigLaw
    ∧ 8 < (List.replicate 9 (⟨0x0B, 0, 500⟩ : ParamEntry)).length ∧ 0x0F < 0x10 ∧ hall.params.reserve ≤ 100 / 2
    ∧ ¬ hall.params.reserve ≤ 99 / 2
    ∧ (∀ e ∈ [(⟨0x01, 1, 3⟩ : ParamEntry), ⟨0x01, 5, 4294967295⟩], e.code = 0x01 ∧ e.index ∈ [1, 2, 3, 4, 5] ∧ 2 < e.value) := by
  decide

/-- Section 10.7: P5 as a second crane fits with the side EAST, and not with WEST, P4 being WEST; each enumerated value. -/
theorem witness_ParametersAreTaken_roles : (5 : Port) ≠ 0 ∧ 5 < 6 ∧ 47 < 48 ∧ (0x0E ≤ 0x0E ∧ 1 ≠ 0)
    ∧ Role.crane ∈ ([.gantry, .crane, .unused] : List Role)[1]? ∧ Side.east ∈ ([.west, .east] : List Side)[1]?
    ∧ ReturnMode.auto ∈ ([.auto, .manual, .hallStop] : List ReturnMode)[0]?
    ∧ SagMode.trip ∈ ([.notify, .trip] : List SagMode)[1]? ∧ (1 < 2 ∧ 2 < 3)
    ∧ hall.params.ports.toList.countP (fun q => q.pendingRole.getD q.role = .crane) = 1
    ∧ hall.side 4 = .west ∧ hall.side 5 = .west := by decide

theorem witness_StoreRestartAndCauses :
    let s := { hall with image := .writing image }
    s.hears 0 [.planning] ∧ s.held = false ∧ s.image = .writing image ∧ hall.hears 0 [.planning] ∧ hall.held = false
    ∧ hall.image = .bad := by decide

theorem witness_ReadsReportAndChangeNothing : hall.listens 1 ∧ (hall.port 1).state = .online ∧ (hall.desc 47).kind ≠ .bed
    ∧ (hall.desc 4).kind = .bed ∧ (fullLog.log 4).records.length ≤ 16 ∧ (fullLog.listens 1 ∧ (fullLog.desc 4).kind = .bed)
    ∧ 5 < 6 ∧ (1 : Port) ≠ 0 ∧ hall.listens 0 ∧ hall.record 1 = none ∧ hall.record 9050 = some plate9050 ∧ hall.RegisterLaw := by
  decide

/-- PLATE-READ with next set: from 8800 to 9050, and nothing after 9050. -/
theorem witness_ReadsReportAndChangeNothing_next : plate9050 ∈ hall.records
    ∧ (8800 < plate9050.id ∧ ∀ q ∈ hall.records, 8800 < q.id → plate9050.id ≤ q.id)
    ∧ ∀ q ∈ hall.records, q.id ≤ 9050 := by decide

end Sys2Proof.Tests
end

section
/-! Rules for requests that are heard, and for the refusal tables their owners answer by. The statements about single
requests are settled with these, and do not open `take`, `byCases` or `firstCase` again. -/

namespace Sys2Proof.Machine

open Sys2Proof

/-! ## Requests that are heard (R145, R161) -/

/-- A port that is heard passes both admission tests. -/
theorem State.admission_of_hears {s : State} {p : Port} {roles : List Role} (h : s.hears p roles) :
    s.admission p roles false = none := by
  obtain ⟨-, hrole, honline⟩ := h
  simp [State.admission, hrole, honline]

/-- A request of a port that listens is taken in its own step (R161). -/
theorem exec_of_listens {i : Instr} {p : Port} {tag : Byte} {s : State} (hi : requestOf i = some (p, tag))
    (hl : s.listens p) : exec i s = .next (serve i s).settle := by
  obtain ⟨hheld, hslot, hbuffer⟩ := hl
  simp [exec_of_request hi, hheld, State.ready, hslot, hbuffer]

/-- A request that is taken and passes both admission tests ends in its owner's act and answer. -/
theorem exec_of_admitted {i : Instr} {p : Port} {tag : Byte} {roles : List Role} {offline : Bool}
    {owner : State → State × Answer} {s : State} (hi : requestOf i = some (p, tag))
    (hserve : serve i s = s.take p tag roles offline owner) (hl : s.listens p)
    (ha : s.admission p roles offline = none) :
    exec i s = .next ((owner s).1.answered p tag (owner s).2.status (owner s).2.data) := by
  rw [exec_of_listens hi hl, hserve, State.take, ha]
  rfl

/-- An admitted request whose owner refuses by a table: its first case that holds is the whole answer, and otherwise the
owner acts, leaving `t`, and answers `st` with `d`. -/
theorem exec_of_cases {i : Instr} {p : Port} {tag : Byte} {roles : List Role} {offline : Bool} {cases : Cases}
    {act owner : State → State × Answer} {s t : State} {st : Status} {d : ReplyData}
    (hi : requestOf i = some (p, tag)) (hserve : serve i s = s.take p tag roles offline owner)
    (howner : owner s = byCases cases act s) (hact : act s = (t, ⟨st, d⟩)) (hl : s.listens p)
    (ha : s.admission p roles offline = none) :
    exec i s = .next ((firstCase cases).elim (t.answered p tag st d) fun no => s.answered p tag no .nothing) := by
  rw [exec_of_admitted hi hserve hl ha, howner]
  cases h : firstCase cases with
  | none => simp [byCases_accepted h, hact]
  | some no => simp [byCases_refused h, refuse]

/-! ## Refusal tables, case by case -/

section
variable {α : Type} (done : α) (refused : Status → α)

theorem elim_firstCase_nil : (firstCase []).elim done refused = done := rfl

theorem elim_firstCase_cons (b : Bool) (st : Status) (rest : Cases) :
    (firstCase ((b, st) :: rest)).elim done refused =
      if b = true then refused st else (firstCase rest).elim done refused := by
  cases b <;> rfl

theorem elim_firstCase_append (a b : Cases) :
    (firstCase (a ++ b)).elim done refused = (firstCase a).elim ((firstCase b).elim done refused) refused := by
  rw [firstCase_append]
  cases firstCase a <;> rfl

/-- R5: zone 0 and an index above 47. -/
theorem elim_firstCase_zoneCases (z : Nat) :
    (firstCase (zoneCases z)).elim done refused =
      if z = 0 then refused .nullZone else if 47 < z then refused .range else done := by
  simp only [zoneCases, elim_firstCase_cons, elim_firstCase_nil, decide_eq_true_eq]
  rfl

/-- R39, R127: an entry that is no BED is refused as an index out of range is. -/
theorem elim_firstCase_bedCases (s : State) (b : Nat) :
    (firstCase (bedCases s b)).elim done refused =
      if b = 0 then refused .nullZone else if 47 < b ∨ (s.desc b).kind ≠ .bed then refused .range else done := by
  rw [bedCases, elim_firstCase_append, elim_firstCase_zoneCases]
  simp only [elim_firstCase_cons, elim_firstCase_nil, decide_eq_true_eq, ite_or]

end

/-- R14, R15: an empty entry is refused as an index out of range is. -/
theorem firstCase_filledCases (z : Nat) (s : State) :
    firstCase (filledCases z s) =
      if z = 0 then some .nullZone else if 47 < z ∨ (s.desc z).kind = .none then some .range else none := by
  simp only [filledCases, zoneCases, List.cons_append, List.nil_append, firstCase_cons, firstCase_nil,
    decide_eq_true_eq, ite_or]
  rfl

end Sys2Proof.Machine
end

section
/-! The zone flags and the bed bindings (R14, R15, R17, R18). -/

namespace Sys2Proof.Machine

open Sys2Proof

/-! ## Flags of a zone -/

/-- R14: a zone's descriptor with the in-service flag rewritten, and nothing else of the state. -/
def State.withService (s : State) (z : Nat) (f : Bool) : State :=
  { s with zones := s.zones.setIfInBounds z ⟨{ s.desc z with inService := f }, (s.zone z).used⟩ }

/-- R14: `exec` on a heard ZONE-SERVICE, by the table of the filled entry; only a flag that falls stales bindings. -/
theorem exec_zoneService {s : State} {p : Port} (tag : Byte) (z : Nat) (f : Bool) (h : s.hears p [.planning]) :
    exec (.zoneService p tag z f) s = .next ((firstCase (filledCases z s)).elim
      (State.answered p tag .ok .nothing
        (if ((s.desc z).inService && !f) = true then (s.withService z f).staleBindings z else s.withService z f))
      fun st => s.answered p tag st .nothing) :=
  exec_of_cases rfl rfl rfl rfl h.1 (State.admission_of_hears h)

/-- R15: a heard ZONE-USED-CLEAR reads the same table. -/
theorem exec_zoneUsedClear {s : State} {p : Port} (tag : Byte) (z : Nat) (h : s.hears p [.planning]) :
    exec (.zoneUsedClear p tag z) s = .next ((firstCase (filledCases z s)).elim
      ((s.setUsed z false).answered p tag .ok .nothing) fun st => s.answered p tag st .nothing) :=
  exec_of_cases rfl rfl rfl rfl h.1 (State.admission_of_hears h)

/-- Settles O33: both requests refuse by `filledCases`, and a filled entry has its flag rewritten. -/
theorem zoneFlagsAreSetAndCleared : Obligations.ZoneFlagsAreSetAndCleared := by
  intro s p tag z h bad served
  have hbad : firstCase (filledCases z s) = bad := firstCase_filledCases z s
  refine ⟨fun st hst => ?refused, fun hnone => ?accepted⟩
  case refused =>
    simp only [exec_zoneService tag z _ h, exec_zoneUsedClear tag z h, hbad, hst, Option.elim_some, implies_true,
      and_self]
  case accepted =>
    simp only [exec_zoneService tag z _ h, exec_zoneUsedClear tag z h, hbad, hnone, Option.elim_none]
    refine ⟨?_, ?_, rfl⟩
    · simp [served, State.withService]
    · simp [served, State.withService]

/-! ## Bindings of a port -/

/-- R16: the ports that a zone's bindings name. -/
theorem State.mem_bindersOf {s : State} {z : Nat} {q : Port} :
    q ∈ s.bindersOf z ↔ (s.binding q).state ≠ .none ∧ (s.binding q).zone = z := by
  have hall : q ∈ allPorts := by
    revert q
    decide
  simp [State.bindersOf, hall]

/-- R17 case 5: the zone is bound to another port. -/
theorem State.bindersOf_any_ne {s : State} {z : Nat} {p : Port} :
    ((s.bindersOf z).any fun q => decide (q ≠ p)) = true ↔
      ∃ q, q ≠ p ∧ (s.binding q).state ≠ .none ∧ (s.binding q).zone = z := by
  simp only [List.any_eq_true, State.mem_bindersOf, decide_eq_true_eq]
  exact exists_congr fun q => and_comm

/-- R17: a heard BED-BIND. -/
theorem exec_bedBind {s : State} {p : Port} (tag : Byte) (z : Nat) (h : s.hears p [.gantry]) :
    exec (.bedBind p tag z) s = .next ((firstCase (bedBindCases p z s)).elim
      (((s.setBinding p ⟨.bound, z, some (s.desc z)⟩).setUsed z true).answered p tag .ok (.snapshot z (s.desc z)))
      fun st => s.answered p tag st .nothing) :=
  exec_of_cases rfl rfl rfl rfl h.1 (State.admission_of_hears h)

/-- R18: a heard BED-UNBIND. -/
theorem exec_bedUnbind {s : State} {p : Port} (tag : Byte) (h : s.hears p [.gantry]) :
    exec (.bedUnbind p tag) s = .next
      ((firstCase [((s.binding p).state = .none, .unbound), ((s.heldJob p).isSome, .busy)]).elim
        ((s.setBinding p .unbound).answered p tag .ok .nothing) fun st => s.answered p tag st .nothing) :=
  exec_of_cases rfl rfl rfl rfl h.1 (State.admission_of_hears h)

/-- Settles O34: the two tables read in order, their last cases spelled by the bindings and the held job. -/
theorem bedsAreBoundAndUnbound : Obligations.BedsAreBoundAndUnbound := by
  intro s p tag h
  refine ⟨fun z => ?bind, ?unbind⟩
  case bind =>
    rw [exec_bedBind tag z h, bedBindCases, elim_firstCase_append, elim_firstCase_bedCases]
    simp only [elim_firstCase_cons, elim_firstCase_nil, State.bindersOf_any_ne, Option.isSome_iff_ne_none,
      decide_eq_true_eq, Bool.not_eq_true']
    rfl
  case unbind =>
    rw [exec_bedUnbind tag h]
    simp only [elim_firstCase_cons, elim_firstCase_nil, Option.isSome_iff_ne_none, decide_eq_true_eq]
    rfl

end Sys2Proof.Machine
end

section
/-! The planning requests that act on one record (chapter 2): PLATE-PARTS, PLATE-FINISH and PLATE-DROP. -/

namespace Sys2Proof.Machine

open Sys2Proof

/-! ## The list test (R26) and the register -/

/-- R26: the statuses a form allows. -/
theorem statusAllowed_iff (form : Form) (st : Option PartStatus) :
    statusAllowed form st = true ↔
      st = some .unmarked ∨ st = some .marked ∨ (st = some .separated ∧ form ≠ .whole) := by
  rcases st with _ | _ | _ | _ <;> simp [statusAllowed]

/-- R26: the conditions on one entry. -/
theorem entryValid_iff (form : Form) (length width : Nat) (e : PartWrite) :
    entryValid form length width e = true ↔
      1 ≤ e.number ∧ e.number ≤ 65535 ∧ e.x0 < e.x1 ∧ e.x1 ≤ length ∧ e.y0 < e.y1 ∧ e.y1 ≤ width
      ∧ (e.status = some .unmarked ∨ e.status = some .marked ∨ (e.status = some .separated ∧ form ≠ .whole)) := by
  simp only [entryValid, Bool.and_eq_true, decide_eq_true_eq, statusAllowed_iff, and_assoc]

/-- R26: at most 12 entries, each valid, and no number twice in the list as it will stand. -/
theorem listTest_iff (form : Form) (length width : Nat) (already : List Nat) (l : List PartWrite) :
    listTest form length width already l = true ↔
      l.length ≤ 12 ∧ (∀ e ∈ l, entryValid form length width e = true) ∧ (already ++ l.map (·.number)).Nodup := by
  simp only [listTest, Bool.and_eq_true, decide_eq_true_eq, List.all_eq_true, and_assoc]
  rfl

/-- Only the records with the id change; no other part of the state does. -/
theorem State.setRecord_eq (s : State) (id : Nat) (f : Plate → Plate) :
    s.setRecord id f = { s with records := s.records.map fun r => if r.id = id then f r else r } := rfl

/-- R35: the record leaves, and of those that stay only the remnants that name it as parent change, by their flag. -/
theorem State.deleteRecord_eq (s : State) (id : Nat) :
    s.deleteRecord id = { s with
      records := (s.records.filter fun q => q.id ≠ id).map fun q =>
        if q.parent = some id then { q with inParent := false } else q } := rfl

/-! ## The requests, with their tables unread -/

/-- R31: a heard PLATE-PARTS in REPLACE mode. -/
theorem exec_platePartsReplace {s : State} {p : Port} (tag : Byte) (id : Nat) (l : List PartWrite)
    (h : s.hears p [.planning]) :
    exec (.platePartsReplace p tag id l) s = .next ((firstCase (partsReplaceCases id l s)).elim
      (State.answered p tag .ok (.parts l.length) (s.setRecord id fun r => { r with parts := l.map partOf, hold := none }))
      fun st => s.answered p tag st .nothing) :=
  exec_of_cases rfl rfl rfl rfl h.1 (State.admission_of_hears h)

/-- R32: a heard PLATE-PARTS in APPEND mode, whose reply counts the list as it will stand. -/
theorem exec_platePartsAppend {s : State} {p : Port} (tag : Byte) (id : Nat) (l : List PartWrite)
    (h : s.hears p [.planning]) :
    exec (.platePartsAppend p tag id l) s = .next ((firstCase (partsAppendCases id l s)).elim
      (State.answered p tag .ok (.parts (((s.record id).map (·.parts.length)).getD 0 + l.length))
        (s.setRecord id fun r => { r with parts := r.parts ++ l.map partOf, hold := none }))
      fun st => s.answered p tag st .nothing) :=
  exec_of_cases rfl rfl rfl rfl h.1 (State.admission_of_hears h)

/-- R33: a heard PLATE-FINISH. -/
theorem exec_plateFinish {s : State} {p : Port} (tag : Byte) (id : Nat) (h : s.hears p [.planning]) :
    exec (.plateFinish p tag id) s = .next ((firstCase (plateFinishCases id s)).elim
      (State.answered p tag .ok .nothing (s.setRecord id fun r => { r with form := .skeleton }))
      fun st => s.answered p tag st .nothing) :=
  exec_of_cases rfl rfl rfl rfl h.1 (State.admission_of_hears h)

/-- R34: a heard PLATE-DROP. -/
theorem exec_plateDrop {s : State} {p : Port} (tag : Byte) (id : Nat) (h : s.hears p [.planning]) :
    exec (.plateDrop p tag id) s = .next ((firstCase (plateDropCases id s)).elim
      ((s.deleteRecord id).answered p tag .ok .nothing) fun st => s.answered p tag st .nothing) :=
  exec_of_cases rfl rfl rfl rfl h.1 (State.admission_of_hears h)

/-! ## Their tables, by the record -/

section
variable {α : Type} (done : α) (refused : Status → α) {s : State} {id : Nat}

/-- Case 1 of the tables of R31 to R34: no record holds the id, and no further case is tested. -/
theorem elim_firstCase_of_record_none (hr : s.record id = none) (rest : Cases) :
    (firstCase (((s.record id).isNone, .unknownId) :: rest)).elim done refused = refused .unknownId := by
  rw [elim_firstCase_cons, hr]
  rfl

/-- Case 1 passes for a record that is held. -/
theorem elim_firstCase_of_record_some {r : Plate} (hr : s.record id = some r) (rest : Cases) :
    (firstCase (((s.record id).isNone, .unknownId) :: rest)).elim done refused =
      (firstCase rest).elim done refused := by
  rw [elim_firstCase_cons, hr]
  rfl

/-- R31, cases 2 to 4. -/
theorem elim_firstCase_partsReplaceCases {r : Plate} (hr : s.record id = some r) (l : List PartWrite) :
    (firstCase (partsReplaceCases id l s)).elim done refused =
      if s.refs id ≠ 0 then refused .locked
      else if r.form ≠ .whole then refused .state
      else if listTest r.form r.length r.width [] l = false then refused .range
      else done := by
  rw [partsReplaceCases, elim_firstCase_of_record_some _ _ hr]
  simp only [hr, elim_firstCase_cons, elim_firstCase_nil, Option.any_some, decide_eq_true_eq, Bool.not_eq_true']

/-- R32, cases 2 to 6. -/
theorem elim_firstCase_partsAppendCases {r : Plate} (hr : s.record id = some r) (l : List PartWrite) :
    (firstCase (partsAppendCases id l s)).elim done refused =
      if s.refs id ≠ 0 then refused .locked
      else if r.form = .skeleton then refused .state
      else if l = [] then refused .range
      else if 32 < r.parts.length + l.length then refused .full
      else if listTest r.form r.length r.width (r.parts.map (·.number)) l = false then refused .range
      else done := by
  rw [partsAppendCases, elim_firstCase_of_record_some _ _ hr]
  simp only [hr, elim_firstCase_cons, elim_firstCase_nil, Option.any_some, decide_eq_true_eq, Bool.not_eq_true',
    List.isEmpty_iff]
  rfl

/-- R33, cases 2 to 4. -/
theorem elim_firstCase_plateFinishCases {r : Plate} (hr : s.record id = some r) :
    (firstCase (plateFinishCases id s)).elim done refused =
      if r.form = .skeleton then refused .state
      else if s.refs id ≠ 0 then refused .locked
      else if r.hold ≠ none then refused .reserved
      else done := by
  rw [plateFinishCases, elim_firstCase_of_record_some _ _ hr]
  simp only [hr, elim_firstCase_cons, elim_firstCase_nil, Option.any_some, decide_eq_true_eq,
    Option.isSome_iff_ne_none]

/-- R34, cases 2 to 4. -/
theorem elim_firstCase_plateDropCases {r : Plate} (hr : s.record id = some r) :
    (firstCase (plateDropCases id s)).elim done refused =
      if s.refs id ≠ 0 then refused .locked
      else if r.isResting = false then refused .state
      else if r.hold ≠ none then refused .reserved
      else done := by
  rw [plateDropCases, elim_firstCase_of_record_some _ _ hr]
  simp only [hr, elim_firstCase_cons, elim_firstCase_nil, Option.any_some, decide_eq_true_eq, Bool.not_eq_true',
    Option.isSome_iff_ne_none]

end

/-- Settles O38: each clause about a held record picks one branch of its mode's table, the list test deciding the last. -/
theorem platePartsRewriteLists : Obligations.PlatePartsRewriteLists := by
  refine ⟨entryValid_iff, State.setRecord_eq, fun s p tag id l h => ?_⟩
  intro valid
  rw [exec_platePartsReplace tag id l h, exec_platePartsAppend tag id l h]
  refine ⟨fun hnone => ?unknown, fun r hr => ?held⟩
  case unknown =>
    exact ⟨congrArg _ (elim_firstCase_of_record_none _ _ hnone _),
      congrArg _ (elim_firstCase_of_record_none _ _ hnone _)⟩
  case held =>
    have hinvalid (already : List Nat) : listTest r.form r.length r.width already l = false ↔ ¬ valid r already :=
      Bool.eq_false_iff.trans (not_congr (listTest_iff _ _ _ _ _))
    rw [elim_firstCase_partsReplaceCases _ _ hr, elim_firstCase_partsAppendCases _ _ hr, hr]
    refine ⟨fun hlocked => ⟨?_, ?_⟩, fun hfree => ?free⟩
    · rw [if_pos hlocked]
    · rw [if_pos hlocked]
    case free =>
      rw [if_neg (not_not.mpr hfree), if_neg (not_not.mpr hfree)]
      refine ⟨fun hform => ?state, fun hform hbad => ?range, fun hform hgood => ?replaced, fun hform => ?skeleton,
        fun hform hnil => ?empty, fun hform hcons hfull => ?full, fun hform hcons hfits hbad => ?entries,
        fun hform hcons hfits hgood => ?appended⟩
      case state => rw [if_pos hform]
      case range => rw [if_neg (not_not.mpr hform), if_pos ((hinvalid _).mpr hbad)]
      case replaced => rw [if_neg (not_not.mpr hform), if_neg fun hbad => (hinvalid _).mp hbad hgood]
      case skeleton => rw [if_pos hform]
      case empty => rw [if_neg hform, if_pos hnil]
      case full => rw [if_neg hform, if_neg hcons, if_pos hfull]
      case entries =>
        rw [if_neg hform, if_neg hcons, if_neg (not_lt.mpr hfits), if_pos ((hinvalid _).mpr hbad)]
      case appended =>
        rw [if_neg hform, if_neg hcons, if_neg (not_lt.mpr hfits), if_neg fun hbad => (hinvalid _).mp hbad hgood]
        rfl

/-- Settles O39: the tables of R33 and R34 for a held record, and R35's deletion written out. -/
theorem platesFinishAndDrop : Obligations.PlatesFinishAndDrop := by
  intro s p tag id h
  rw [exec_plateFinish tag id h, exec_plateDrop tag id h, State.deleteRecord_eq]
  refine ⟨fun hnone => ?unknown, fun r hr => ?held⟩
  case unknown =>
    exact ⟨congrArg _ (elim_firstCase_of_record_none _ _ hnone _),
      congrArg _ (elim_firstCase_of_record_none _ _ hnone _)⟩
  case held =>
    exact ⟨congrArg _ (elim_firstCase_plateFinishCases _ _ hr), congrArg _ (elim_firstCase_plateDropCases _ _ hr)⟩

end Sys2Proof.Machine
end

section
/-! Rules for the job tables (chapter 3): the take order, what a change of a table's jobs leaves, and the place of a job. -/

namespace Sys2Proof.Machine

open Sys2Proof

/-! ## Refusal tables -/

/-- What an owner does matters to a table's answer only when no case holds. -/
theorem elim_firstCase_congr {α : Type} {done done' : α} (refused : Status → α) {cases : Cases}
    (h : firstCase cases = none → done = done') :
    (firstCase cases).elim done refused = (firstCase cases).elim done' refused := by
  cases hc : firstCase cases with
  | none => exact h hc
  | some st => rfl

/-- R39: an index that names a bed passes. -/
theorem firstCase_bedCases (s : State) (b : Nat) :
    firstCase (bedCases s b) =
      if b = 0 then some .nullZone else if 47 < b ∨ (s.desc b).kind ≠ .bed then some .range else none := by
  rw [← elim_firstCase_bedCases none some]
  cases firstCase (bedCases s b) <;> rfl

/-! ## Take order (R42) -/

theorem Job.before_iff {k j : Job} :
    k.before j = true ↔ k.priority < j.priority ∨ k.priority = j.priority ∧ k.arrival < j.arrival := by
  simp [Job.before]

theorem takeLe_iff {a b : Job} :
    takeLe a b = true ↔ a.priority < b.priority ∨ a.priority = b.priority ∧ a.arrival ≤ b.arrival := by
  unfold takeLe
  split_ifs with h <;> simp <;> omega

/-- R42: the take order is total, and `Job.before` is its strict part. -/
theorem not_takeLe_iff {a b : Job} : ¬ takeLe a b = true ↔ b.before a = true := by
  rw [takeLe_iff, Job.before_iff]
  omega

/-- Two jobs that are not given one arrival number do not tie. -/
theorem takeLe_iff_before {a b : Job} (h : a.arrival ≠ b.arrival) : takeLe a b = true ↔ a.before b = true := by
  rw [takeLe_iff, Job.before_iff]
  omega

theorem takeLe_of_before {a b : Job} (h : a.before b = true) : takeLe a b = true := by
  rw [Job.before_iff] at h
  rw [takeLe_iff]
  omega

theorem takeLe_trans {a b c : Job} (hab : takeLe a b = true) (hbc : takeLe b c = true) : takeLe a c = true := by
  rw [takeLe_iff] at *
  omega

@[simp] theorem Job.before_self (j : Job) : j.before j = false := by
  simp [Job.before]

theorem takeOrder_pairwise (l : List Job) : (takeOrder l).Pairwise fun a b => takeLe a b = true := by
  have total : Std.Total fun a b : Job => takeLe a b = true :=
    ⟨fun a b => or_iff_not_imp_left.mpr fun h => takeLe_of_before (not_takeLe_iff.mp h)⟩
  have trans : IsTrans Job fun a b => takeLe a b = true := ⟨fun _ _ _ => takeLe_trans⟩
  exact List.pairwise_insertionSort _ l

theorem takeOrder_perm (l : List Job) : (takeOrder l).Perm l := List.perm_insertionSort _ l

/-- In a list in take order the jobs ahead of `x` are those at its front. -/
theorem takeWhile_before_eq_filter {x : Job} {l : List Job} (h : l.Pairwise fun a b => takeLe a b = true) :
    l.takeWhile (·.before x) = l.filter (·.before x) := by
  induction l with
  | nil => rfl
  | cons a l ih =>
    obtain ⟨hfirst, hrest⟩ := List.pairwise_cons.mp h
    by_cases ha : a.before x = true
    · simp [ha, ih hrest]
    · have hnone : ∀ b ∈ l, ¬ b.before x = true := fun b hb hbx =>
        not_takeLe_iff.mpr hbx (takeLe_trans (not_not.mp fun hxa => ha (not_takeLe_iff.mp hxa)) (hfirst b hb))
      simp [ha, List.filter_eq_nil_iff.mpr hnone]

/-- Where a job that is inserted goes, when no job ahead of `x` ranks below it: ahead of `x` exactly if it does not rank
below `x`. -/
theorem orderedInsert_append {a x : Job} {A B : List Job} (hA : ∀ e ∈ A, takeLe e x = true) :
    List.orderedInsert (fun a b => takeLe a b = true) a (A ++ x :: B) =
      if takeLe a x = true then List.orderedInsert (fun a b => takeLe a b = true) a A ++ x :: B
      else A ++ x :: List.orderedInsert (fun a b => takeLe a b = true) a B := by
  induction A with
  | nil => simp [List.orderedInsert_cons]
  | cons e A ih =>
    obtain ⟨he, hrest⟩ := List.forall_mem_cons.mp hA
    by_cases hae : takeLe a e = true
    · simp [hae, takeLe_trans hae he]
    · simp [hae, ih hrest, apply_ite (e :: ·)]

/-- Where a job stands in take order: behind those listed before it that do not rank below it, and behind those listed
after it that rank ahead of it. -/
theorem takeOrder_split (pre post : List Job) (x : Job) :
    ∃ A B, takeOrder (pre ++ x :: post) = A ++ x :: B
      ∧ A.Perm (pre.filter (takeLe · x) ++ post.filter (·.before x)) := by
  induction pre with
  | nil =>
    refine ⟨_, _, List.orderedInsert_eq_take_drop _ x (takeOrder post), ?_⟩
    simp only [not_takeLe_iff, Bool.decide_eq_true, takeWhile_before_eq_filter (takeOrder_pairwise post)]
    exact (takeOrder_perm post).filter _
  | cons a pre ih =>
    obtain ⟨A, B, horder, hperm⟩ := ih
    have hA : ∀ e ∈ A, takeLe e x = true := by
      intro e he
      rcases List.mem_append.mp (hperm.subset he) with h | h
      · exact (List.mem_filter.mp h).2
      · exact takeLe_of_before (List.mem_filter.mp h).2
    have hinsert : takeOrder (a :: pre ++ x :: post) = List.orderedInsert _ a (A ++ x :: B) :=
      congrArg (List.orderedInsert _ a) horder
    by_cases hax : takeLe a x = true
    · refine ⟨_, _, hinsert.trans ((orderedInsert_append hA).trans (if_pos hax)), ?_⟩
      rw [List.filter_cons_of_pos (p := (takeLe · x)) hax]
      exact (List.perm_orderedInsert _ a A).trans (hperm.cons a)
    · refine ⟨_, _, hinsert.trans ((orderedInsert_append hA).trans (if_neg hax)), ?_⟩
      rwa [List.filter_cons_of_neg (p := (takeLe · x)) hax]

/-- R42: where no arrival number is given twice, a job stands behind exactly the jobs that rank ahead of it. -/
theorem takeOrder_split_of_nodup {l : List Job} {x : Job} (hl : (l.map Job.arrival).Nodup) (hx : x ∈ l) :
    ∃ A B, takeOrder l = A ++ x :: B ∧ A.Perm (l.filter (·.before x)) := by
  obtain ⟨pre, post, rfl⟩ := List.append_of_mem hx
  obtain ⟨A, B, horder, hperm⟩ := takeOrder_split pre post x
  refine ⟨A, B, horder, ?_⟩
  have hties : ∀ k ∈ pre, k.arrival ≠ x.arrival := by
    intro k hk
    rw [List.map_append] at hl
    exact fun hkx => List.disjoint_of_nodup_append hl (List.mem_map_of_mem hk) (by simp [hkx])
  have hpre : pre.filter (takeLe · x) = pre.filter (·.before x) :=
    List.filter_congr fun k hk => Bool.eq_iff_iff.mpr (takeLe_iff_before (hties k hk))
  rwa [List.filter_append, List.filter_cons_of_neg (by simp), ← hpre]

/-! ## The jobs of a table -/

/-- R39: only a zone that is in the zone table has jobs. -/
theorem State.lt_of_mem_jobs {s : State} {b : Nat} {j : Job} (h : j ∈ (s.table b).jobs) : b < 48 := by
  by_contra hb
  simp [State.table, hb, JobTable.fresh] at h

theorem State.job_eq_none {s : State} {b n : Nat} : s.job b n = none ↔ ∀ j ∈ (s.table b).jobs, j.number ≠ n := by
  simp [State.job]

theorem State.job_isSome {s : State} {b n : Nat} :
    (s.job b n).isSome = true ↔ ∃ j ∈ (s.table b).jobs, j.number = n := by
  simp [State.job]

theorem State.mem_of_job {s : State} {b n : Nat} {j : Job} (h : s.job b n = some j) :
    j ∈ (s.table b).jobs ∧ j.number = n :=
  ⟨List.mem_of_find?_eq_some h, by simpa using List.find?_some h⟩

/-- R57: a job leaves its table with one completion record, and R41: an emptied table's counter returns to 1. -/
theorem State.removeJob_eq (s : State) (b : Nat) (j : Job) (o : Completion) :
    s.removeJob b j o = { s.push b (j.logRecord o) with
      tables := s.tables.setIfInBounds b ⟨(s.table b).jobs.filter fun k => k.number ≠ j.number,
        if ((s.table b).jobs.filter fun k => k.number ≠ j.number) = [] then 1 else (s.table b).counter⟩ } := by
  have htables : (s.push b (j.logRecord o)).tables = s.tables := by simp
  have htable : (s.push b (j.logRecord o)).table b = s.table b := by simp [State.table]
  simp only [State.removeJob, State.setTable, htables, htable, List.isEmpty_iff]

/-- Only the jobs of the bed with the number change; no other part of the state does. -/
theorem State.setJob_eq (s : State) (b n : Nat) (f : Job → Job) :
    s.setJob b n f = { s with
      tables := s.tables.setIfInBounds b
        ⟨(s.table b).jobs.map fun j => if j.number = n then f j else j, (s.table b).counter⟩ } := rfl

theorem State.jobs_setJob {s : State} {b : Nat} (hb : b < 48) (n : Nat) (f : Job → Job) :
    ((s.setJob b n f).table b).jobs = (s.table b).jobs.map (changeJob n f) := by
  simp [State.setJob, State.table_setTable, hb]

/-- R44, R55: the place told is the count of the jobs that stand ahead in take order. -/
theorem State.position_of_takeOrder {s : State} {b : Nat} {x : Job} {A B : List Job}
    (horder : takeOrder (s.table b).jobs = A ++ x :: B) (hA : ∀ k ∈ A, k.number ≠ x.number) :
    s.position b x.number = A.length := by
  have hnone : A.findIdx (fun k => decide (k.number = x.number)) = A.length :=
    List.findIdx_eq_length.mpr fun k hk => decide_eq_false (hA k hk)
  rw [State.position, horder, List.findIdx_append, hnone, if_neg (lt_irrefl _), List.findIdx_cons]
  simp

/-- R44: the place of a job that is entered behind all others of its table, by a number that is new there. -/
theorem State.position_entered {s : State} {b c : Nat} {j : Job} (hb : b < 48) (hnew : s.job b j.number = none) :
    (s.setTable b ⟨(s.table b).jobs ++ [j], c⟩).position b j.number = (s.table b).jobs.countP (takeLe · j) := by
  obtain ⟨A, B, horder, hperm⟩ := takeOrder_split (s.table b).jobs [] j
  rw [List.filter_nil, List.append_nil] at hperm
  have hnumber : ∀ k ∈ A, k.number ≠ j.number := fun k hk =>
    State.job_eq_none.mp hnew k (List.mem_filter.mp (hperm.subset hk)).1
  rw [State.position_of_takeOrder (A := A) (B := B) (by simpa [State.table_setTable, hb] using horder) hnumber,
    hperm.length_eq, List.countP_eq_length_filter]

/-- R36: a job that enters a table is one more among the jobs of all tables. -/
theorem State.allJobs_entered (s : State) {b : Nat} (hb : b < 48) (j : Job) (c : Nat) :
    (s.setTable b ⟨(s.table b).jobs ++ [j], c⟩).allJobs.Perm ((b, j) :: s.allJobs) := by
  obtain ⟨l₁, l₂, hrange⟩ := List.append_of_mem (List.mem_range.mpr hb)
  have hnodup : (b :: (l₁ ++ l₂)).Nodup := List.nodup_middle.mp (hrange ▸ List.nodup_range)
  have hother (l : List Nat) (hl : l ⊆ l₁ ++ l₂) :
      l.flatMap (fun a => ((s.setTable b ⟨(s.table b).jobs ++ [j], c⟩).table a).jobs.map fun k => (a, k)) =
        l.flatMap fun a => (s.table a).jobs.map fun k => (a, k) := by
    refine List.flatMap_congr fun a ha => ?_
    have hne : b ≠ a := fun h => (List.nodup_cons.mp hnodup).1 (h ▸ hl ha)
    simp [State.table_setTable, hne]
  have hbed : ((s.setTable b ⟨(s.table b).jobs ++ [j], c⟩).table b).jobs = (s.table b).jobs ++ [j] := by
    simp [State.table_setTable, hb]
  simp only [State.allJobs, hrange, List.flatMap_append, List.flatMap_cons, hbed,
    hother l₁ (List.subset_append_left _ _), hother l₂ (List.subset_append_right _ _)]
  simpa using (List.perm_middle (l₁ := l₁.flatMap (fun a => (s.table a).jobs.map fun k => (a, k))
    ++ (s.table b).jobs.map fun k => (b, k)))

/-- R45: a job that enters a table raises its plate's job reference count by one. -/
theorem State.refs_entered (s : State) {b : Nat} (hb : b < 48) (j : Job) (c : Nat) :
    (s.setTable b ⟨(s.table b).jobs ++ [j], c⟩).refs j.plate = s.refs j.plate + 1 := by
  rw [State.refs, ((s.allJobs_entered hb j c).filter _).length_eq, List.filter_cons_of_pos (by simp), List.length_cons,
    State.refs]

/-! ## Jobs under the table law (R39, R40, R41) -/

theorem State.TableLaw.numbers {s : State} (h : s.TableLaw) {b : Nat} (hb : b < 48) :
    ((s.table b).jobs.map Job.number).Nodup := (h ⟨b, hb⟩).2.1

theorem State.TableLaw.arrivals {s : State} (h : s.TableLaw) {b : Nat} (hb : b < 48) :
    ((s.table b).jobs.map Job.arrival).Nodup := (h ⟨b, hb⟩).2.2.1

/-- R40: the number names the job in its table. -/
theorem State.TableLaw.eq_of_number {s : State} (h : s.TableLaw) {b : Nat} {j k : Job} (hj : j ∈ (s.table b).jobs)
    (hk : k ∈ (s.table b).jobs) (hn : k.number = j.number) : k = j :=
  List.inj_on_of_nodup_map (h.numbers (State.lt_of_mem_jobs hj)) hk hj hn

/-- A change by number is a change of the one job that has it. -/
theorem State.setJob_of_mem {s : State} (h : s.TableLaw) {b : Nat} {j : Job} (hj : j ∈ (s.table b).jobs) (f : Job → Job) :
    s.setJob b j.number f = { s with tables := s.tables.setIfInBounds b { s.table b with
      jobs := (s.table b).jobs.map fun k => if k.number = j.number then f j else k } } := by
  have hmap : (s.table b).jobs.map (changeJob j.number f) =
      (s.table b).jobs.map fun k => if k.number = j.number then f j else k := by
    refine List.map_congr_left fun k hk => ite_congr rfl (fun hn => ?_) fun _ => rfl
    rw [h.eq_of_number hj hk hn]
  rw [State.setJob, hmap]
  rfl

end Sys2Proof.Machine
end

section
/-! The requests on the job tables: JOB-ADD, JOB-TAKE, JOB-RETURN, JOB-CANCEL and JOB-RESUME. -/

namespace Sys2Proof.Machine

open Sys2Proof

/-! ## JOB-ADD (R44, R45) -/

/-- R44 case 3. -/
theorem badJob_iff (w : JobWrite) :
    badJob w = true ↔ w.number = 0 ∨ 65535 < w.number ∨ w.kind = none ∨ 8 < w.parts.length
      ∨ (w.kind = some .mark ∧ w.parts = []) ∨ ¬ w.parts.Nodup ∨ (∃ n ∈ w.parts, n = 0 ∨ 65535 < n)
      ∨ 255 < w.priority := by
  simp only [badJob, Bool.or_eq_true, decide_eq_true_eq, List.any_eq_true, Bool.not_eq_true', decide_eq_false_iff_not]
  rcases w.kind with _ | _ | _
  · simp
  · simp [or_comm, or_left_comm, or_assoc]
  · simp [or_comm, or_left_comm, or_assoc]

/-- R44 case 4. -/
theorem badCurrent_iff (w : JobWrite) :
    badCurrent w = true ↔ (w.kind = some .mark ∧ (w.current < 10 ∨ 60 < w.current))
      ∨ (w.kind = some .cut ∧ (w.current < 30 ∨ 400 < w.current)) := by
  unfold badCurrent
  rcases w.kind with _ | _ | _ <;> simp

/-- R44 case 8: a number of the list that names no part of the record. -/
theorem Plate.any_missing {r : Plate} {l : List Nat} :
    (l.any fun n => !(r.parts.map (·.number)).contains n) = true ↔ ∃ n ∈ l, ∀ q ∈ r.parts, q.number ≠ n := by
  simp

/-- R44 cases 9 and 10: a part of the record that the list names, with a status. -/
theorem Plate.any_named {r : Plate} {l : List Nat} {st : PartStatus} :
    ((r.named l).any fun q => decide (q.status = st)) = true ↔ ∃ q ∈ r.parts, q.number ∈ l ∧ q.status = st := by
  simp [Plate.named]

/-- R44 case 11: a job of the same kind on one of the parts, in any table. -/
theorem State.any_sameWork {s : State} {w : JobWrite} :
    (s.allJobs.any fun bj => decide (some bj.2.kind = w.kind) && decide (bj.2.plate = w.plate)
        && w.parts.any fun n => bj.2.parts.contains n) = true ↔
      ∃ bj ∈ s.allJobs, some bj.2.kind = w.kind ∧ bj.2.plate = w.plate ∧ ∃ n ∈ w.parts, n ∈ bj.2.parts := by
  simp only [List.any_eq_true, Bool.and_eq_true, decide_eq_true_eq, List.contains_iff_mem, and_assoc]

/-- R44: a job is accepted on a bed of the zone table, under a number that is new there. -/
theorem jobAdd_accepted {w : JobWrite} {s : State} (h : firstCase (jobAddCases w s) = none) :
    w.bed < 48 ∧ s.job w.bed w.number = none := by
  rw [firstCase_eq_none] at h
  have hbed := h (Config.lastZone < w.bed, .range) (by simp [jobAddCases, bedCases, zoneCases])
  have hnew := h ((s.job w.bed w.number).isSome, .duplicate) (by simp [jobAddCases])
  exact ⟨Nat.lt_succ_of_le (not_lt.mp (of_decide_eq_false hbed)),
    Option.isNone_iff_eq_none.mp (Option.isSome_eq_false_iff.mp hnew)⟩

/-- R44, R45: a heard JOB-ADD, its table unread. -/
theorem exec_jobAdd {s : State} {p : Port} (tag : Byte) (w : JobWrite) (h : s.hears p [.planning]) :
    exec (.jobAdd p tag w) s = .next ((firstCase (jobAddCases w s)).elim
      (State.answered p tag (if 7200 < w.limit then .clamped else .ok)
        (.added (s.table w.bed).counter
          ((s.table w.bed).jobs.countP (takeLe · (writtenJob w (s.table w.bed).counter)))
          (if 7200 < w.limit then some 7200 else none))
        (s.setTable w.bed ⟨(s.table w.bed).jobs ++ [writtenJob w (s.table w.bed).counter], (s.table w.bed).counter + 1⟩))
      fun st => s.answered p tag st .nothing) := by
  rw [exec_of_cases (cases := jobAddCases w s) rfl rfl rfl rfl h.1 (State.admission_of_hears h)]
  refine congrArg _ (elim_firstCase_congr _ fun hnone => ?_)
  obtain ⟨hbed, hnew⟩ := jobAdd_accepted hnone
  have hplace := State.position_entered (j := writtenJob w (s.table w.bed).counter)
    (c := (s.table w.bed).counter + 1) hbed hnew
  have hlimit : (if 7200 < w.limit then some (min w.limit 7200) else none) =
      if 7200 < w.limit then some 7200 else none := by
    split_ifs with hl
    · rw [min_eq_right hl.le]
    · rfl
  rw [← hplace, ← hlimit]
  rfl

/-- R44: the eleven cases in order. -/
theorem elim_firstCase_jobAddCases {α : Type} (done : α) (refused : Status → α) (w : JobWrite) (s : State) :
    (firstCase (jobAddCases w s)).elim done refused =
      if w.bed = 0 then refused .nullZone
      else if 47 < w.bed ∨ (s.desc w.bed).kind ≠ .bed then refused .range
      else if w.number = 0 ∨ 65535 < w.number ∨ w.kind = none ∨ 8 < w.parts.length ∨ (w.kind = some .mark ∧ w.parts = [])
          ∨ ¬ w.parts.Nodup ∨ (∃ n ∈ w.parts, n = 0 ∨ 65535 < n) ∨ 255 < w.priority then refused .range
      else if (w.kind = some .mark ∧ (w.current < 10 ∨ 60 < w.current))
          ∨ (w.kind = some .cut ∧ (w.current < 30 ∨ 400 < w.current)) then refused .range
      else if 16 ≤ (s.table w.bed).jobs.length ∨ (s.table w.bed).counter = 4294967295 then refused .full
      else if ∃ j ∈ (s.table w.bed).jobs, j.number = w.number then refused .duplicate
      else match s.record w.plate with
        | none => refused .unknownId
        | some r =>
          if ∃ n ∈ w.parts, ∀ q ∈ r.parts, q.number ≠ n then refused .unknownId
          else if ∃ q ∈ r.parts, q.number ∈ w.parts ∧ q.status = .separated then refused .order
          else if w.kind = some .mark ∧ ∃ q ∈ r.parts, q.number ∈ w.parts ∧ q.status = .marked then refused .order
          else if ∃ bj ∈ s.allJobs, some bj.2.kind = w.kind ∧ bj.2.plate = w.plate ∧ ∃ n ∈ w.parts, n ∈ bj.2.parts then
            refused .duplicate
          else done := by
  rw [jobAddCases, elim_firstCase_append, elim_firstCase_bedCases]
  simp only [elim_firstCase_cons, elim_firstCase_nil, badJob_iff, badCurrent_iff, State.job_isSome, decide_eq_true_eq]
  rcases s.record w.plate with _ | r
  · rfl
  · simp only [Option.isNone_some, Option.any_some, Plate.any_missing, Plate.any_named, State.any_sameWork]
    rfl

/-- Settles O40: the eleven cases, and the place of the job entered behind the others of its table. -/
theorem jobAddEntersJob : Obligations.JobAddEntersJob := by
  refine ⟨fun s b j hb => s.refs_entered hb j _, fun s p tag w h => ?_⟩
  intro t
  rw [exec_jobAdd tag w h, elim_firstCase_jobAddCases]
  have hplace : t.jobs.countP (takeLe · (writtenJob w t.counter)) = t.jobs.countP fun j =>
      j.priority < w.priority ∨ (j.priority = w.priority ∧ j.arrival ≤ t.counter) :=
    List.countP_congr fun j _ => takeLe_iff.trans decide_eq_true_iff.symm
  rw [← hplace]
  rfl

/-! ## JOB-TAKE (R46, R47) -/

/-- R46: eligibility by the plate's record. -/
theorem State.eligible_iff {s : State} {b : Nat} {j : Job} :
    s.eligible b j = true ↔ ∃ r, s.record j.plate = some r ∧ r.restsIn b = true
      ∧ (j.kind = .cut → ∀ q ∈ r.parts, q.number ∈ j.parts → q.markRequired = true → q.status = .marked) := by
  simp only [State.eligible, Option.any_eq_true, Plate.named, Bool.and_eq_true, Bool.or_eq_true, decide_eq_true_eq,
    List.all_filter, List.all_eq_true, Bool.not_eq_true']
  cases j.kind
  · simp
  · simp [imp_iff_not_or]

/-- R46: the cases of JOB-TAKE in order. -/
theorem firstCase_jobTakeCases (p : Port) (s : State) :
    firstCase (jobTakeCases p s) =
      if (s.binding p).state = .none then some .unbound
      else if (s.binding p).state = .stale then some .stale
      else if s.heldJob p ≠ none then some .busy
      else if s.hallStop ≠ none then some .halt
      else none := by
  simp only [jobTakeCases, firstCase_cons, firstCase_nil, decide_eq_true_eq, Option.isSome_iff_ne_none]

section
variable {s : State} {p : Port} (tag : Byte) (h : s.hears p [.gantry])
include h

/-- R46: a heard JOB-TAKE that is refused. -/
theorem exec_jobTake_refused {st : Status} (hcase : firstCase (jobTakeCases p s) = some st) :
    exec (.jobTake p tag) s = .next (s.answered p tag st .nothing) := by
  rw [exec_of_cases (cases := jobTakeCases p s) rfl rfl rfl rfl h.1 (State.admission_of_hears h), hcase]
  rfl

/-- R46: a heard JOB-TAKE whose search ends without a job. -/
theorem exec_jobTake_none (hcase : firstCase (jobTakeCases p s) = none)
    (hfind : (s.queuedJobs (s.binding p).zone).find? (s.eligible (s.binding p).zone) = none) :
    exec (.jobTake p tag) s =
      .next (s.answered p tag .none (.skipped (s.queuedJobs (s.binding p).zone).length)) := by
  rw [exec_of_cases (cases := jobTakeCases p s) rfl rfl rfl (by simp only [hfind]; rfl) h.1 (State.admission_of_hears h),
    hcase]
  rfl

/-- R47: a heard JOB-TAKE whose search ends at a job. -/
theorem exec_jobTake_some {j : Job} (hcase : firstCase (jobTakeCases p s) = none)
    (hfind : (s.queuedJobs (s.binding p).zone).find? (s.eligible (s.binding p).zone) = some j) :
    exec (.jobTake p tag) s = .next (State.answered p tag .ok (.taken (s.takeReport (s.binding p).zone j))
      (s.setJob (s.binding p).zone j.number (Job.taken p))) := by
  rw [exec_of_cases (cases := jobTakeCases p s) rfl rfl rfl (by simp only [hfind]; rfl) h.1
    (State.admission_of_hears h), hcase]
  rfl

end

/-- R42, R46: what the search finds, and what it passes over. -/
theorem State.queuedJobs_search {s : State} (hl : s.TableLaw) {b : Nat} {j : Job}
    (hj : j ∈ (s.table b).jobs.filter fun k => k.state = .queued) (heligible : s.eligible b j = true)
    (hahead : ∀ k ∈ (s.table b).jobs.filter (fun k => k.state = .queued), k.before j = true → ¬ s.eligible b k = true) :
    (s.queuedJobs b).find? (s.eligible b) = some j
      ∧ ((s.queuedJobs b).takeWhile fun k => !s.eligible b k).length =
        ((s.table b).jobs.filter fun k => k.state = .queued).countP (·.before j) := by
  have harrivals : (((s.table b).jobs.filter fun k => k.state = .queued).map Job.arrival).Nodup :=
    (hl.arrivals (State.lt_of_mem_jobs (List.mem_of_mem_filter hj))).sublist (List.filter_sublist.map _)
  obtain ⟨A, B, horder, hperm⟩ := takeOrder_split_of_nodup harrivals hj
  have hA : ∀ k ∈ A, (!s.eligible b k) = true := by
    intro k hk
    obtain ⟨hmem, hbefore⟩ := List.mem_filter.mp (hperm.subset hk)
    simpa using hahead k hmem hbefore
  have hqueue : s.queuedJobs b = A ++ j :: B := horder
  refine ⟨?found, ?skipped⟩
  case found => exact List.find?_eq_some_iff_append.mpr ⟨heligible, A, B, hqueue, hA⟩
  case skipped =>
    rw [hqueue, List.takeWhile_append_of_pos hA, List.takeWhile_cons_of_neg (by simp [heligible]), List.append_nil,
      hperm.length_eq, List.countP_eq_length_filter]

/-- R47: the reply of a take of a job whose plate rests in the bed. -/
theorem State.takeReport_resting {s : State} {b ox oy : Nat} {t : Turn} {j : Job} {r : Plate}
    (hr : s.record j.plate = some r) (hloc : r.location = .resting b ox oy t) :
    s.takeReport b j = ⟨b, j.number, j.kind, j.plate, j.parts, j.current, j.priority, j.limit, j.drops, j.overdue,
      ox, oy, t, ((s.queuedJobs b).takeWhile fun k => !s.eligible b k).length⟩ := by
  simp only [State.takeReport, hr, Option.map_some, hloc]

/-- Settles O41: the jobs ahead of the one taken are those the search passes over. -/
theorem jobTakeSelectsFirstEligible : Obligations.JobTakeSelectsFirstEligible := by
  intro s p tag h b queued eligible
  have helig (j : Job) : s.eligible b j = true ↔ eligible j := State.eligible_iff
  have hcases := firstCase_jobTakeCases p s
  refine ⟨fun hnone => ?unbound, fun hstale => ?stale, fun hbound => ⟨fun hheld => ?busy, fun hfree hstop => ?halt,
    fun hfree hclear => ⟨fun hno => ?none, fun j hj r ox oy t hlaw hj_elig hr hloc hahead => ?taken⟩⟩⟩
  case unbound => exact exec_jobTake_refused tag h (by rw [hcases, if_pos hnone])
  case stale => exact exec_jobTake_refused tag h (by simp [hcases, hstale])
  case busy => exact exec_jobTake_refused tag h (by simp [hcases, hbound, hheld])
  case halt => exact exec_jobTake_refused tag h (by simp [hcases, hbound, hfree, hstop])
  case none =>
    have hfind : (s.queuedJobs b).find? (s.eligible b) = none :=
      List.find?_eq_none.mpr fun k hk => (helig k).not.mpr (hno k ((takeOrder_perm _).subset hk))
    rw [exec_jobTake_none tag h (by simp [hcases, hbound, hfree, hclear]) hfind]
    exact congrArg (fun n => Host.Outcome.next (s.answered p tag .none (.skipped n))) (takeOrder_perm _).length_eq
  case taken =>
    have ⟨hfind, hskipped⟩ := State.queuedJobs_search hlaw hj ((helig j).mpr hj_elig)
      fun k hk hbefore => (helig k).not.mpr (hahead k hk hbefore)
    rw [exec_jobTake_some tag h (by simp [hcases, hbound, hfree, hclear]) hfind,
      State.takeReport_resting hr hloc, hskipped, State.setJob_of_mem hlaw (List.mem_of_mem_filter hj)]
    rfl

/-! ## JOB-RETURN (R48) -/

/-- R48: a heard JOB-RETURN of a port that holds no job. -/
theorem exec_jobReturn_none {s : State} {p : Port} (tag : Byte) (n : Nat) (h : s.hears p [.gantry])
    (hheld : s.heldJob p = none) : exec (.jobReturn p tag n) s = .next (s.answered p tag .state .nothing) := by
  rw [exec_of_cases (cases := jobReturnCases p n s) rfl rfl rfl rfl h.1 (State.admission_of_hears h)]
  simp [jobReturnCases, elim_firstCase_cons, hheld]

/-- R48: a heard JOB-RETURN of a port that holds a job. -/
theorem exec_jobReturn_some {s : State} {p : Port} {b : Nat} {j : Job} (tag : Byte) (n : Nat) (h : s.hears p [.gantry])
    (hheld : s.heldJob p = some (b, j)) :
    exec (.jobReturn p tag n) s = .next (
      if j.number ≠ n ∨ j.state.lit = true then s.answered p tag .state .nothing
      else if (s.torch p).state = .waiting then s.answered p tag .busy .nothing
      else State.answered p tag .ok .nothing (s.setJob b n Job.requeued)) := by
  rw [exec_of_cases (cases := jobReturnCases p n s) rfl rfl rfl (by simp only [hheld]; rfl) h.1
    (State.admission_of_hears h)]
  simp only [jobReturnCases, elim_firstCase_cons, elim_firstCase_nil, hheld, Option.any_some, Bool.not_eq_true',
    decide_eq_false_iff_not, decide_eq_true_eq, ← ite_or, ne_eq]
  by_cases hn : j.number = n
  · rw [hn]
  · rw [if_pos (Or.inl hn), if_pos (Or.inl hn)]

/-! ## JOB-CANCEL (R53) -/

/-- R61: a torch that waits holds no load and no number, so nothing else changes when it becomes IDLE. -/
theorem State.idleTorch_of_waiting {s : State} {q : Port} (h : (s.torch q).state = .waiting) :
    s.idleTorch q = { s with torches := s.torches.set q.val .idle } := by
  simp [State.idleTorch, State.leaveTorch, State.setTorch, Torch.load, Torch.idle, TorchState.lit, h]

/-- R53: a port whose torch does not wait is only told. -/
theorem State.withdraw_of_not_waiting {s : State} {q : Port} (h : (s.torch q).state ≠ .waiting) (b : Nat) (j : Job) :
    s.withdraw b j q = (s.removeJob b j .cancelled).notify q (.jobWithdrawn b j.number) := by
  simp [State.withdraw, h]

/-- R53, R72: a port whose torch waits gives up the wait first, and a walk runs last. -/
theorem State.withdraw_of_waiting {s : State} {q : Port} (h : (s.torch q).state = .waiting) (b : Nat) (j : Job) :
    s.withdraw b j q = State.runWalk (State.notify q (.jobWithdrawn b j.number) { s.removeJob b j .cancelled with
      torches := (s.removeJob b j .cancelled).torches.set q.val .idle
      startQueue := s.startQueue.filter (· ≠ q) }) := by
  have hgone : (((s.removeJob b j .cancelled).unqueue q).torch q).state = .waiting := by
    simpa [State.torch] using h
  simp only [State.withdraw, h, decide_true, if_true, State.idleTorch_of_waiting hgone]
  simp [State.unqueue]

section
variable {s : State} {b n : Nat}

theorem ownJobCancel_refused {st : Status} (hbed : firstCase (bedCases s b) = some st) :
    ownJobCancel b n s = (s, refuse st) := byCases_refused hbed

variable (hbed : firstCase (bedCases s b) = none)
include hbed

theorem ownJobCancel_unknown (hj : s.job b n = none) : ownJobCancel b n s = (s, refuse .unknownId) := by
  simp only [ownJobCancel, byCases_accepted hbed, hj]

variable {j : Job} (hj : s.job b n = some j)
include hj

theorem ownJobCancel_of_not_active (hstate : j.state = .queued ∨ j.state = .held) :
    ownJobCancel b n s = (s.removeJob b j .cancelled, okWith .nothing) := by
  rcases hstate with hstate | hstate <;> simp only [ownJobCancel, byCases_accepted hbed, hj, hstate]

theorem ownJobCancel_of_lit (hstate : j.state.lit = true) :
    ownJobCancel b n s = (s.setJob b n fun k => { k with cancelPending := true }, ⟨.pending, .nothing⟩) := by
  simp only [ownJobCancel, byCases_accepted hbed, hj]
  cases hs : j.state <;> simp [hs, JobState.lit] at hstate ⊢

theorem ownJobCancel_of_taken {q : Port} (hstate : j.state = .taken) (htaker : j.taker = some q) :
    ownJobCancel b n s = (s.withdraw b j q, okWith .nothing) := by
  simp only [ownJobCancel, byCases_accepted hbed, hj, hstate, htaker]

end

/-- R53: a heard JOB-CANCEL ends in what its owner does and answers. -/
theorem exec_jobCancel {s t : State} {p : Port} {b n : Nat} {a : Answer} (tag : Byte) (h : s.hears p [.planning])
    (howner : ownJobCancel b n s = (t, a)) :
    exec (.jobCancel p tag b n) s = .next (t.answered p tag a.status a.data) := by
  rw [exec_of_admitted (owner := ownJobCancel b n) rfl rfl h.1 (State.admission_of_hears h), howner]

/-! ## JOB-RESUME (R55) -/

@[simp] theorem Job.number_requeued (j : Job) : j.requeued.number = j.number := rfl

@[simp] theorem Job.before_requeued (k j : Job) : k.before j.requeued = k.before j := rfl

@[simp] theorem number_changeJob_requeued (n : Nat) (k : Job) : (changeJob n Job.requeued k).number = k.number := by
  unfold changeJob
  split_ifs <;> rfl

@[simp] theorem arrival_changeJob_requeued (n : Nat) (k : Job) : (changeJob n Job.requeued k).arrival = k.arrival := by
  unfold changeJob
  split_ifs <;> rfl

@[simp] theorem before_changeJob_requeued (n : Nat) (k j : Job) :
    (changeJob n Job.requeued k).before j = k.before j := by
  unfold changeJob
  split_ifs <;> rfl

/-- R55: a job that is queued again keeps its priority and arrival number, and with them its place. -/
theorem State.position_requeued {s : State} (hl : s.TableLaw) {b : Nat} {j : Job} (hj : j ∈ (s.table b).jobs) :
    (s.setJob b j.number Job.requeued).position b j.number = (s.table b).jobs.countP (·.before j) := by
  have hb := State.lt_of_mem_jobs hj
  have hjobs : ((s.setJob b j.number Job.requeued).table b).jobs =
      (s.table b).jobs.map (changeJob j.number Job.requeued) := State.jobs_setJob hb _ _
  have harrivals : (((s.table b).jobs.map (changeJob j.number Job.requeued)).map Job.arrival).Nodup := by
    simpa [Function.comp_def] using hl.arrivals hb
  obtain ⟨A, B, horder, hperm⟩ := takeOrder_split_of_nodup harrivals (List.mem_map.mpr ⟨j, hj, if_pos rfl⟩)
  have hA : ∀ k ∈ A, k.number ≠ j.requeued.number := by
    intro k' hk' hn
    obtain ⟨hmap, hahead⟩ := List.mem_filter.mp (hperm.subset hk')
    obtain ⟨k, hk, rfl⟩ := List.mem_map.mp hmap
    have hkj : k = j := hl.eq_of_number hj hk (by simpa using hn)
    simp [hkj] at hahead
  rw [← Job.number_requeued j, State.position_of_takeOrder (hjobs ▸ horder) hA, hperm.length_eq,
    ← List.countP_eq_length_filter, List.countP_map]
  exact List.countP_congr fun k _ => by simp

section
variable {s : State} {p : Port} {b n : Nat} (tag : Byte) (h : s.hears p [.planning])
include h

/-- R55: a heard JOB-RESUME that is refused. -/
theorem exec_jobResume_refused {st : Status} (hcase : firstCase (jobResumeCases b n s) = some st) :
    exec (.jobResume p tag b n) s = .next (s.answered p tag st .nothing) := by
  rw [exec_of_cases (cases := jobResumeCases b n s) rfl rfl rfl rfl h.1 (State.admission_of_hears h), hcase]
  rfl

/-- R55: a heard JOB-RESUME that is accepted. -/
theorem exec_jobResume_accepted (hcase : firstCase (jobResumeCases b n s) = none) :
    exec (.jobResume p tag b n) s = .next (State.answered p tag .ok
      (.position ((s.setJob b n Job.requeued).position b n)) (s.setJob b n Job.requeued)) := by
  rw [exec_of_cases (cases := jobResumeCases b n s) rfl rfl rfl rfl h.1 (State.admission_of_hears h), hcase]
  rfl

end

/-- R55: the cases of JOB-RESUME in order, behind those of the bed. -/
theorem firstCase_jobResumeCases (b n : Nat) (s : State) :
    firstCase (jobResumeCases b n s) = (firstCase (bedCases s b)).or (
      if s.job b n = none then some .unknownId
      else if (s.job b n).any (fun j => decide (j.state ≠ .held)) = true then some .state
      else none) := by
  simp only [jobResumeCases, firstCase_append, firstCase_cons, firstCase_nil, Option.isNone_iff_eq_none]

/-- Settles O42: JOB-CANCEL by the state of the job, JOB-RESUME by its table, both behind the cases of the bed. -/
theorem jobsReturnCancelAndResume : Obligations.JobsReturnCancelAndResume := by
  refine ⟨fun s p tag n h => ?requeued, fun s p tag b n h => ?_, State.removeJob_eq, State.setJob_eq⟩
  case requeued =>
    rcases hheld : s.heldJob p with _ | ⟨b, j⟩
    · exact exec_jobReturn_none tag n h hheld
    · exact exec_jobReturn_some tag n h hheld
  intro both
  have hcases := firstCase_bedCases s b
  have hrefused {st : Status} (hbed : firstCase (bedCases s b) = some st) : both st :=
    ⟨exec_jobCancel tag h (ownJobCancel_refused hbed),
      exec_jobResume_refused tag h (by rw [firstCase_jobResumeCases, hbed, Option.some_or])⟩
  refine ⟨fun hzero => hrefused (by rw [hcases, if_pos hzero]), fun hout => hrefused ?range,
    fun hzero hlast hkind => ?bed⟩
  case range =>
    have hzero : b ≠ 0 := hout.elim (fun hb => by omega) And.left
    rw [hcases, if_neg hzero, if_pos (hout.imp_right And.right)]
  case bed =>
    have hbed : firstCase (bedCases s b) = none := by simp [hcases, hzero, hlast, hkind]
    have hresume := firstCase_jobResumeCases b n s
    rw [hbed, Option.none_or] at hresume
    refine ⟨fun hnone => ⟨exec_jobCancel tag h (ownJobCancel_unknown hbed hnone),
      exec_jobResume_refused tag h (by rw [hresume, if_pos hnone])⟩, fun j hj => ?_⟩
    obtain ⟨hmem, rfl⟩ := State.mem_of_job hj
    refine ⟨fun hstate => exec_jobResume_refused tag h (by simp [hresume, hj, hstate]), fun hstate hlaw => ?resumed,
      fun hstate => exec_jobCancel tag h (ownJobCancel_of_not_active hbed hj hstate),
      fun hstate => exec_jobCancel tag h (ownJobCancel_of_lit hbed hj hstate), fun q hstate htaker => ?taken⟩
    case resumed =>
      rw [exec_jobResume_accepted tag h (by simp [hresume, hj, hstate]), State.position_requeued hlaw hmem]
      rfl
    case taken =>
      have hcancel := exec_jobCancel tag h (ownJobCancel_of_taken hbed hj hstate htaker)
      exact ⟨fun hidle => by rw [hcancel, State.withdraw_of_not_waiting hidle]; rfl,
        fun hwaits => by rw [hcancel, State.withdraw_of_waiting hwaits]; rfl⟩

end Sys2Proof.Machine
end

section
/-! ARC-START (R73): the torch that starts to wait, and the reply by the walk. -/

namespace Sys2Proof.Machine

open Sys2Proof

/-! ## The torch that starts to wait (R60, R72) -/

/-- R73: the torch of port `p` waits for job `j` of bed `b`, and its entry joins the start queue at the tail. -/
def State.startWait (p : Port) (b : Nat) (j : Job) (s : State) : State :=
  { s with
    torches := s.torches.set p.val (.forJob b j s.params.waitLimit)
    startQueue := s.startQueue ++ [p] }

/-- R63: a torch that changes without its load leaves Q as it is. -/
theorem State.setTorch_of_load_eq {s : State} {p : Port} {t : Torch} (h : t.load = (s.torch p).load) :
    s.setTorch p t = { s with torches := s.torches.set p.val t } := by
  rw [State.setTorch, h, Nat.add_sub_cancel]

/-- R60: a torch draws nothing while it is idle or waits, so Q stays when the wait begins. -/
theorem State.setTorch_forJob_of_idle {s : State} {p : Port} (h : (s.torch p).state = .idle) (b : Nat) (j : Job)
    (limit : Nat) :
    s.setTorch p (.forJob b j limit) = { s with torches := s.torches.set p.val (.forJob b j limit) } :=
  State.setTorch_of_load_eq (by simp only [Torch.load, h, Torch.forJob])

/-! ## The reply (R73) -/

/-- R73: the walk that an accepted ARC-START runs, with whether it stopped on the budget. -/
def State.startWalk (p : Port) (b : Nat) (j : Job) (s : State) : State × Bool := (s.startWait p b j).walk (some p)

/-- R64, R67, R70: neither the wait nor the walk changes the level, its flags or C. -/
theorem State.feeder_startWalk (s : State) (p : Port) (b : Nat) (j : Job) :
    (s.startWalk p b j).1.feeder = s.feeder := by
  simp only [State.startWalk, State.walk_frame]
  rfl

/-- R73: the reply by the torch and the queue of `t`; its reason and C are those of a state with the same feeder. -/
theorem State.answered_startAnswer {s t : State} (hfeeder : t.feeder = s.feeder) (p : Port) (tag : Byte)
    (stopped : Bool) :
    t.answered p tag (t.startAnswer p stopped).status (t.startAnswer p stopped).data =
      if (t.torch p).state = .starting then t.answered p tag .granted (.granted (t.torch p).seq)
      else t.answered p tag .queued
        (.queued (s.queueReason stopped) (t.startQueue.idxOf p) t.committed s.feeder.capacity) := by
  have hreason : t.queueReason stopped = s.queueReason stopped := by simp only [State.queueReason, hfeeder]
  rw [State.startAnswer, hreason, hfeeder]
  split_ifs <;> rfl

/-! ## The four cases (R73) -/

section
variable {α : Type} (done : α) (refused : Status → α) {s : State} {p : Port} (n : Nat)

/-- R73 case 1: a port that holds no job. -/
theorem elim_firstCase_arcStartCases_none (hheld : s.heldJob p = none) :
    (firstCase (arcStartCases p n s)).elim done refused = refused .state := by
  rw [arcStartCases, elim_firstCase_cons, hheld]
  rfl

/-- R73: the cases in order for a port that holds a job. -/
theorem elim_firstCase_arcStartCases_some {b : Nat} {j : Job} (hheld : s.heldJob p = some (b, j)) :
    (firstCase (arcStartCases p n s)).elim done refused =
      if j.state ≠ .taken ∨ j.number ≠ n then refused .state
      else if (s.binding p).state = .stale then refused .stale
      else if (s.torch p).state ≠ .idle then refused .busy
      else if s.hallStop ≠ none then refused .halt
      else done := by
  simp only [arcStartCases, elim_firstCase_cons, elim_firstCase_nil, hheld, Option.any_some, Bool.not_eq_true',
    Bool.and_eq_false_iff, decide_eq_false_iff_not, decide_eq_true_eq, Option.isSome_iff_ne_none, ne_eq]

end

/-- R73: an ARC-START that none of the cases refuses finds its torch idle. -/
theorem torch_idle_of_arcStart_accepted {s : State} {p : Port} {n : Nat} (h : firstCase (arcStartCases p n s) = none) :
    (s.torch p).state = .idle := by
  have hbusy := (firstCase_eq_none _).mp h ((s.torch p).state ≠ .idle, .busy) (by simp [arcStartCases])
  exact not_not.mp (of_decide_eq_false hbusy)

/-! ## The request -/

section
variable {s : State} {p : Port} (tag : Byte) (n : Nat) (h : s.hears p [.gantry])
include h

/-- R73: a heard ARC-START of a port that holds no job. -/
theorem exec_arcStart_none (hheld : s.heldJob p = none) :
    exec (.arcStart p tag n) s = .next (s.answered p tag .state .nothing) := by
  rw [exec_of_cases (cases := arcStartCases p n s) rfl rfl rfl rfl h.1 (State.admission_of_hears h),
    elim_firstCase_arcStartCases_none _ _ _ hheld]

/-- R73: a heard ARC-START of a port that holds a job, its table unread: the wait, the walk and the reply. -/
theorem exec_arcStart_some {b : Nat} {j : Job} (hheld : s.heldJob p = some (b, j)) :
    exec (.arcStart p tag n) s = .next ((firstCase (arcStartCases p n s)).elim
      ((s.startWalk p b j).1.answered p tag
        ((s.startWalk p b j).1.startAnswer p (s.startWalk p b j).2).status
        ((s.startWalk p b j).1.startAnswer p (s.startWalk p b j).2).data)
      fun st => s.answered p tag st .nothing) := by
  rw [exec_of_cases (cases := arcStartCases p n s) rfl rfl rfl (by simp only [hheld]; rfl) h.1
    (State.admission_of_hears h)]
  refine congrArg _ (elim_firstCase_congr _ fun hnone => ?_)
  rw [State.setTorch_forJob_of_idle (torch_idle_of_arcStart_accepted hnone)]
  rfl

end

/-- Settles O43: the cases of R73 in order, and behind them the reply by the walk of the state that waits. -/
theorem arcStartIsGrantedOrQueued : Obligations.ArcStartIsGrantedOrQueued := by
  intro s p tag n h
  refine ⟨exec_arcStart_none tag n h, fun b j hheld => ?held⟩
  case held =>
    intro w
    rw [exec_arcStart_some tag n h hheld, elim_firstCase_arcStartCases_some _ _ _ hheld,
      State.answered_startAnswer (s.feeder_startWalk p b j)]
    refine ⟨fun hrefused => ?refused, fun htaken hnumber => ?answered⟩
    case refused => rw [if_pos hrefused]
    case answered =>
      subst hnumber
      rw [if_neg (by simp [htaken])]
      rfl

end Sys2Proof.Machine
end

section
/-! The spans of the cranes (R85, R87, R88, R89). -/

namespace Sys2Proof.Machine

open Sys2Proof

/-! ## The other crane (R85, R143) -/

/-- R143: two ports whose role is CRANE have different sides of the runway. -/
theorem State.ConfigLaw.side_ne {s : State} (hl : s.ConfigLaw) {p q : Port} (hp : s.role p = .crane)
    (hq : s.role q = .crane) (hne : p ≠ q) : s.side p ≠ s.side q := by
  obtain ⟨hparams, -⟩ := hl
  have hnodup : ((s.params.ports.toList.filter fun r => decide (r.role = .crane)).map PortParams.side).Nodup := by
    simp only [validParams, validInForce, Bool.and_eq_true, decide_eq_true_eq] at hparams
    obtain ⟨⟨⟨⟨-, hsides⟩, -⟩, -⟩, -⟩ := hparams
    exact hsides
  have hpair (i j : Port) (hij : i < j) (hi : s.role i = .crane) (hj : s.role j = .crane) : s.side i ≠ s.side j := by
    rw [List.Nodup, List.pairwise_map, List.pairwise_filter, List.pairwise_iff_getElem] at hnodup
    have h := hnodup i.val j.val (by simp) (by simp) hij
    simp only [Vector.getElem_toList, decide_eq_true_eq] at h
    exact h hi hj
  rcases lt_or_gt_of_ne hne with hlt | hgt
  · exact hpair p q hlt hp hq
  · exact (hpair q p hgt hq hp).symm

/-- R170: the runway has two sides. -/
theorem Side.eq_of_ne_of_ne {a b c : Side} (ha : a ≠ c) (hb : b ≠ c) : a = b := by
  revert ha hb
  cases a <;> cases b <;> cases c <;> decide

/-- R143: beside a crane port there is at most one more, the runway having two sides. -/
theorem State.ConfigLaw.other_unique {s : State} (hl : s.ConfigLaw) {p q q' : Port} (hp : s.role p = .crane)
    (hq : s.role q = .crane) (hq' : s.role q' = .crane) (hqp : q ≠ p) (hqp' : q' ≠ p) : q = q' := by
  by_contra hne
  exact hl.side_ne hq hq' hne (Side.eq_of_ne_of_ne (hl.side_ne hq hp hqp) (hl.side_ne hq' hp hqp'))

theorem mem_allPorts (p : Port) : p ∈ allPorts := by
  revert p
  decide

/-- R85: SPAN-SET is tested against the span of the one other crane. -/
theorem State.otherSpan_eq_some {s : State} (hl : s.ConfigLaw) {p : Port} (hp : s.role p = .crane) {o : Nat × Nat} :
    s.otherSpan p = some o ↔ ∃ q, q ≠ p ∧ s.role q = .crane ∧ (s.crane q).span = some o := by
  simp only [State.otherSpan, Option.bind_eq_some_iff]
  constructor
  · rintro ⟨q, hfind, hspan⟩
    have hq := List.find?_some hfind
    simp only [Bool.and_eq_true, decide_eq_true_eq] at hq
    exact ⟨q, hq.1, hq.2, hspan⟩
  · rintro ⟨q, hqp, hq, hspan⟩
    rcases hfind : allPorts.find? (fun q => decide (q ≠ p) && decide (s.role q = .crane)) with _ | q'
    · exact absurd (by simp [hqp, hq]) (List.find?_eq_none.mp hfind q (mem_allPorts q))
    · have hq' := List.find?_some hfind
      simp only [Bool.and_eq_true, decide_eq_true_eq] at hq'
      exact ⟨q', rfl, hl.other_unique hp hq hq'.2 hqp hq'.1 ▸ hspan⟩

/-! ## The cases of SPAN-SET (R88) -/

/-- R88 case 3: the new span shares no column with the one in force. -/
theorem Crane.any_apart {c : Crane} {lo hi : Nat} :
    (c.span.any fun sp => !columnsShare (lo, hi) sp) = true ↔ ∃ a, c.span = some a ∧ (hi < a.1 ∨ a.2 < lo) := by
  simp only [Option.any_eq_true, columnsShare, Bool.not_eq_true', Bool.and_eq_false_iff, decide_eq_false_iff_not,
    not_le, or_comm]

/-- R88 case 4: the order of the runway. -/
theorem breaksOrder_iff {side : Side} {lo hi : Nat} {o : Nat × Nat} :
    breaksOrder side lo hi o = true ↔ (side = .west ∧ o.1 ≤ hi) ∨ (side = .east ∧ lo ≤ o.2) := by
  cases side <;> simp [breaksOrder]

/-- R4: a column range that is not within a span ends outside it. -/
theorem columnsWithin_some_eq_false {c a : Nat × Nat} :
    columnsWithin c (some a) = false ↔ c.1 < a.1 ∨ a.2 < c.2 := by
  simp only [columnsWithin, Bool.and_eq_false_iff, decide_eq_false_iff_not, not_le]

/-- R88 case 5: the corridor of the load leaves the new span. -/
theorem Crane.any_outside {c : Crane} {lo hi : Nat} :
    (c.hook.isSome && c.corridor.any fun r => !columnsWithin r.columns (some (lo, hi))) = true ↔
      ∃ r, c.hook ≠ none ∧ c.corridor = some r ∧ (r.columns.1 < lo ∨ hi < r.columns.2) := by
  simp only [Bool.and_eq_true, Option.isSome_iff_ne_none, Option.any_eq_true, Bool.not_eq_true',
    columnsWithin_some_eq_false, exists_and_left]

/-- R88: a heard SPAN-SET, its table unread. -/
theorem exec_spanSet {s : State} {p : Port} (tag : Byte) (lo hi : Nat) (h : s.hears p [.crane]) :
    exec (.spanSet p tag lo hi) s = .next ((firstCase (spanSetCases p lo hi s)).elim
      (State.answered p tag .ok (.columns (lo, hi)) (s.setCrane p { s.crane p with span := some (lo, hi) }))
      fun st => s.answered p tag (s.spanRefusal p st).status (s.spanRefusal p st).data) := by
  rw [exec_of_admitted (owner := ownSpanSet p lo hi) rfl rfl h.1 (State.admission_of_hears h)]
  unfold ownSpanSet
  cases firstCase (spanSetCases p lo hi s) <;> rfl

/-- R89: a heard SPAN-CLEAR. -/
theorem exec_spanClear {s : State} {p : Port} (tag : Byte) (h : s.hears p [.crane]) :
    exec (.spanClear p tag) s = .next ((firstCase [((s.crane p).hook.isSome, .busy)]).elim
      (State.answered p tag .ok .nothing (s.setCrane p { s.crane p with span := none }))
      fun st => s.answered p tag st .nothing) :=
  exec_of_cases rfl rfl rfl rfl h.1 (State.admission_of_hears h)

/-- R88: the five cases in order. -/
theorem elim_firstCase_spanSetCases {α : Type} (done : α) (refused : Status → α) (p : Port) (lo hi : Nat) (s : State) :
    (firstCase (spanSetCases p lo hi s)).elim done refused =
      if hi < lo ∨ 124 < hi then refused .range
      else if s.hallStop ≠ none then refused .halt
      else if ((s.crane p).span.any fun sp => !columnsShare (lo, hi) sp) = true then refused .disjoint
      else if (s.otherSpan p).any (breaksOrder (s.side p) lo hi) = true then refused .conflict
      else if ((s.crane p).hook.isSome && (s.crane p).corridor.any fun c => !columnsWithin c.columns (some (lo, hi))) = true
        then refused .corridor
      else done := by
  simp only [spanSetCases, elim_firstCase_cons, elim_firstCase_nil, decide_eq_true_eq, Option.isSome_iff_ne_none]
  rfl

/-- Settles O50: the table of R88 read in order, its fourth case spelled by the one other crane. -/
theorem spansAreClaimedAndCleared : Obligations.SpansAreClaimedAndCleared := by
  intro s p tag lo hi h answers disjoint crosses outside
  have hrole : s.role p = .crane := by simpa using h.2.1
  have hset := exec_spanSet tag lo hi h
  rw [elim_firstCase_spanSetCases] at hset
  refine ⟨fun hrange => ?range, fun hlo hhi hstop => ?halt, fun hlo hhi hclear => ?free, ?clear⟩
  case range =>
    rw [if_pos hrange] at hset
    exact hset
  case halt =>
    rw [if_neg (by omega), if_pos hstop] at hset
    exact hset
  case clear =>
    rw [exec_spanClear tag h, elim_firstCase_cons, elim_firstCase_nil]
    simp only [Option.isSome_iff_ne_none]
  case free =>
    rw [if_neg (by omega), if_neg (not_not.mpr hclear)] at hset
    refine ⟨fun hapart => ?disjoint, fun hshares hlaw => ?shares⟩
    case disjoint =>
      rw [if_pos (Crane.any_apart.mpr hapart)] at hset
      exact hset
    case shares =>
      rw [if_neg (Crane.any_apart.not.mpr hshares)] at hset
      refine ⟨fun q o hcross => ?conflict, fun hnone => ?ordered⟩
      case conflict =>
        obtain ⟨hqp, hq, hspan, hbreaks⟩ := hcross
        have hother : s.otherSpan p = some o := (State.otherSpan_eq_some hlaw hrole).mpr ⟨q, hqp, hq, hspan⟩
        rw [if_pos (by rw [hother]; exact breaksOrder_iff.mpr hbreaks)] at hset
        simpa only [State.spanRefusal, hother] using hset
      case ordered =>
        have hordered : ¬ (s.otherSpan p).any (breaksOrder (s.side p) lo hi) = true := by
          rw [Option.any_eq_true]
          rintro ⟨o, hother, hbreaks⟩
          obtain ⟨q, hqp, hq, hspan⟩ := (State.otherSpan_eq_some hlaw hrole).mp hother
          exact hnone q o ⟨hqp, hq, hspan, breaksOrder_iff.mp hbreaks⟩
        rw [if_neg hordered] at hset
        refine ⟨fun c hout => ?corridor, fun hwithin => ?accepted⟩
        case corridor =>
          obtain ⟨hloaded, hcorridor, hcolumns⟩ := hout
          rw [if_pos (Crane.any_outside.mpr ⟨c, hloaded, hcorridor, hcolumns⟩)] at hset
          simpa only [State.spanRefusal, hcorridor] using hset
        case accepted =>
          rw [if_neg (Crane.any_outside.not.mpr fun ⟨c, hout⟩ => hwithin c hout)] at hset
          exact hset

end Sys2Proof.Machine
end

section
/-! The corridors of the cranes, and LIFT (R91, R92, R95, R96). -/

namespace Sys2Proof.Machine

open Sys2Proof

/-! ## The corridor tests (R92) -/

/-- A search by index is a search over the entries. -/
theorem any_range_iff_exists_fin {n : Nat} {f : Nat → Bool} :
    (List.range n).any f = true ↔ ∃ k : Fin n, f k.val = true := by
  simp only [List.any_eq_true, List.mem_range, Fin.exists_iff, exists_prop]

/-- R92 case 2: a hot bed lies in the corridor. -/
theorem State.overHotBed_iff {s : State} {c : Rect} :
    s.overHotBed c = true ↔ ∃ k : Fin 48, s.isHot k.val = true ∧ c.intersects (s.desc k.val).rect = true := by
  simp only [State.overHotBed, any_range_iff_exists_fin, Bool.and_eq_true]

/-- R92 case 3: a KEEPOUT lies in the corridor, or a zone without the PASS right that is not exempt. -/
theorem State.barredBy_iff {s : State} {c : Rect} {exempt : List Nat} :
    s.barredBy c exempt = true ↔ ∃ k : Fin 48, (s.desc k.val).inService = true ∧ (s.desc k.val).kind ≠ .none
      ∧ c.intersects (s.desc k.val).rect = true
      ∧ ((s.desc k.val).kind = .keepout ∨ k.val ∉ exempt ∧ (s.desc k.val).pass = false) := by
  simp only [State.barredBy, any_range_iff_exists_fin, Bool.and_eq_true, Bool.or_eq_true, Bool.not_eq_true',
    decide_eq_true_eq, ← Bool.not_eq_true, List.contains_iff_mem, and_assoc]

/-- R92: the three tests on a corridor of a crane that has a span. -/
theorem elim_firstCase_corridorCases {α : Type} (done : α) (refused : Status → α) {s : State} {p : Port}
    {span : Nat × Nat} (hspan : (s.crane p).span = some span) (c : Rect) (exempt : List Nat) :
    (firstCase (corridorCases p c exempt s)).elim done refused =
      if c.columns.1 < span.1 ∨ span.2 < c.columns.2 then refused .span
      else if s.overHotBed c = true then refused .hot
      else if s.barredBy c exempt = true then refused .pass
      else done := by
  simp only [corridorCases, elim_firstCase_cons, elim_firstCase_nil, hspan, Bool.not_eq_true',
    columnsWithin_some_eq_false]

/-! ## LIFT (R95, R96) -/

/-- R91: the corridor of a lift holds the record where it rests and the whole target zone. -/
theorem State.liftCorridor_resting (s : State) {r : Plate} {a ox oy : Nat} {t : Turn}
    (hloc : r.location = .resting a ox oy t) (z : Nat) :
    s.liftCorridor r z = ((footprint r.length r.width ox oy t).moved (s.desc a).originX (s.desc a).originY).enclose
      (s.desc z).rect := by
  simp only [State.liftCorridor, State.hallFootprint, Plate.zoneFootprint, Plate.zoneOf, hloc, Option.map_some,
    Option.getD_some]

/-- R96: the lifted record goes on the hook, and no remnant of it lies on it any more; its own in-parent flag falls too. -/
theorem leftBy_changeRecord (p : Port) (id : Nat) (q : Plate) :
    Plate.leftBy id (changeRecord id (fun q => { q with location := .onHook p, inParent := false }) q) =
      if q.id = id then { q with location := .onHook p, inParent := false }
      else if q.parent = some id then { q with inParent := false } else q := by
  unfold changeRecord
  split_ifs with hid hparent
  · unfold Plate.leftBy
    split_ifs <;> rfl
  · exact if_pos hparent
  · exact if_neg hparent

/-- R96: the state a granted lift leaves. -/
theorem State.grantLift_resting {s : State} {p : Port} {r : Plate} {a ox oy : Nat} {t : Turn} {span : Nat × Nat}
    (hspan : (s.crane p).span = some span) (hloc : r.location = .resting a ox oy t) (z : Nat) :
    s.grantLift p r z = State.notify 0 (.craneMove p .lifted r.id z (.corridor (s.liftCorridor r z))) { s with
      cranes := s.cranes.set p.val ⟨some span, some r.id, some (s.liftCorridor r z), z, [z], ⟨a, ox, oy, t⟩⟩
      zones := s.zones.setIfInBounds a ⟨s.desc a, true⟩
      records := s.records.map fun q =>
        if q.id = r.id then { q with location := .onHook p, inParent := false }
        else if q.parent = some r.id then { q with inParent := false } else q } := by
  have hrecords : (s.records.map (changeRecord r.id fun q => { q with location := .onHook p, inParent := false })).map
      (Plate.leftBy r.id) = s.records.map fun q =>
        if q.id = r.id then { q with location := .onHook p, inParent := false }
        else if q.parent = some r.id then { q with inParent := false } else q := by
    rw [List.map_map]
    exact List.map_congr_left fun q _ => leftBy_changeRecord p r.id q
  have horigin : r.origin = ⟨a, ox, oy, t⟩ := by simp only [Plate.origin, hloc]
  have hzone : r.zoneOf = a := by simp only [Plate.zoneOf, hloc]
  rw [← hrecords, ← hspan, ← horigin, ← hzone]
  rfl

/-- R21: the record found under an id has it. -/
theorem State.id_of_record {s : State} {id : Nat} {r : Plate} (h : s.record id = some r) : r.id = id := by
  simpa using List.find?_some h

/-- R95: a heard LIFT of an id that no record holds, its table unread. -/
theorem exec_lift_unknown {s : State} {p : Port} (tag : Byte) {id : Nat} (z : Nat) (h : s.hears p [.crane])
    (hr : s.record id = none) :
    exec (.lift p tag id z) s = .next ((firstCase (liftCases p id z s)).elim (s.answered p tag .unknownId .nothing)
      fun st => s.answered p tag st .nothing) :=
  exec_of_cases (cases := liftCases p id z s) rfl rfl rfl (by simp only [hr]; rfl) h.1 (State.admission_of_hears h)

/-- R95, R96: a heard LIFT of a record that is held, its table unread. -/
theorem exec_lift_known {s : State} {p : Port} (tag : Byte) {id : Nat} (z : Nat) (h : s.hears p [.crane]) {r : Plate}
    (hr : s.record id = some r) :
    exec (.lift p tag id z) s = .next ((firstCase (liftCases p id z s)).elim
      (State.answered p tag .ok (.corridor (s.liftCorridor r z) (s.liftCorridor r z).columns) (s.grantLift p r z))
      fun st => s.answered p tag st .nothing) :=
  exec_of_cases (cases := liftCases p id z s) rfl rfl rfl (by simp only [hr]; rfl) h.1 (State.admission_of_hears h)

section
variable {α : Type} (done : α) (refused : Status → α) {s : State} {p : Port} {id z : Nat}

/-- R95, cases 1 and 2: a crane without a span lifts nothing. -/
theorem elim_firstCase_liftCases_of_span_none (hspan : (s.crane p).span = none) :
    (firstCase (liftCases p id z s)).elim done refused =
      if (s.crane p).hook ≠ none then refused .busy else refused .span := by
  simp only [liftCases, List.cons_append, elim_firstCase_cons, hspan, Option.isSome_iff_ne_none, Option.isNone_none,
    if_true]

variable {span : Nat × Nat} (hspan : (s.crane p).span = some span)
include hspan

/-- R95, case 4: no record holds the id. -/
theorem elim_firstCase_liftCases_of_record_none (hr : s.record id = none) :
    (firstCase (liftCases p id z s)).elim done refused =
      if (s.crane p).hook ≠ none then refused .busy
      else if s.hallStop ≠ none then refused .halt
      else refused .unknownId := by
  simp only [liftCases, List.cons_append, elim_firstCase_cons, hspan, hr, Option.isSome_iff_ne_none,
    Option.isNone_some, Option.isNone_none, Bool.false_eq_true, if_false, if_true]

variable {r : Plate} (hr : s.record id = some r)
include hr

/-- R95, case 5: the record is on a hook, which may be the other crane's. -/
theorem elim_firstCase_liftCases_of_onHook {q : Port} (hloc : r.location = .onHook q) :
    (firstCase (liftCases p id z s)).elim done refused =
      if (s.crane p).hook ≠ none then refused .busy
      else if s.hallStop ≠ none then refused .halt
      else refused .state := by
  simp only [liftCases, List.cons_append, elim_firstCase_cons, hspan, hr, Plate.isResting, hloc,
    Option.isSome_iff_ne_none, Option.isNone_some, Option.any_some, Bool.not_false, Bool.false_eq_true, if_false,
    if_true]

/-- R95: the cases in order for a record that rests, the corridor tests last. -/
theorem elim_firstCase_liftCases_of_resting {a ox oy : Nat} {t : Turn} (hloc : r.location = .resting a ox oy t) :
    (firstCase (liftCases p id z s)).elim done refused =
      if (s.crane p).hook ≠ none then refused .busy
      else if s.hallStop ≠ none then refused .halt
      else if (s.desc a).inService = false then refused .absent
      else if (s.desc a).lift = false then refused .rights
      else if z = 0 then refused .nullZone
      else if 47 < z then refused .range
      else if (s.desc z).inService = false then refused .absent
      else if (s.desc z).kind = .keepout ∨ (s.desc z).place = false then refused .rights
      else if s.refs id ≠ 0 then refused .locked
      else (firstCase (corridorCases p (s.liftCorridor r z) [a, z] s)).elim done refused := by
  simp only [liftCases, elim_firstCase_append, elim_firstCase_cons, elim_firstCase_nil, hspan, hr, Plate.isResting,
    Plate.zoneOf, hloc, Option.map_some, Option.getD_some, Option.isSome_iff_ne_none, Option.isNone_some,
    Option.any_some, Bool.not_true, Bool.not_eq_true', Bool.false_eq_true, if_false, decide_eq_true_eq]
  rfl

end

/-- Settles O51: a missing span, a missing record and a record on a hook each end the table; for a record that rests, the
corridor tests decide, and the lift that they let through is R96's. -/
theorem liftTakesRecordUp : Obligations.LiftTakesRecordUp := by
  intro s p tag id z h
  rcases hr : s.record id with _ | r
  case none =>
    rw [exec_lift_unknown tag z h hr]
    rcases hspan : (s.crane p).span with _ | span
    · rw [elim_firstCase_liftCases_of_span_none _ _ hspan]
    · rw [elim_firstCase_liftCases_of_record_none _ _ hspan hr]
  case some =>
    rw [exec_lift_known tag z h hr]
    rcases hspan : (s.crane p).span with _ | span
    · rw [elim_firstCase_liftCases_of_span_none _ _ hspan]
    rcases hloc : r.location with ⟨a, ox, oy, t⟩ | q
    case some.onHook => simp only [elim_firstCase_liftCases_of_onHook _ _ hspan hr hloc, hloc]
    case some.resting =>
      obtain rfl := State.id_of_record hr
      rw [elim_firstCase_liftCases_of_resting _ _ hspan hr hloc, elim_firstCase_corridorCases _ _ hspan,
        State.grantLift_resting hspan hloc, s.liftCorridor_resting hloc]
      simp only [hloc, State.overHotBed_iff, State.barredBy_iff, List.mem_cons, List.not_mem_nil, or_false, not_or,
        and_assoc, ne_eq]

end Sys2Proof.Machine
end

section
/-! REMNANT-DECLARE (R111 to R114). -/

namespace Sys2Proof.Machine

open Sys2Proof

/-! ## The remnant and where it lies (R113, R114) -/

section
variable {r : Plate} {z ox oy : Nat}

/-- R113: on a parent that is not turned, the remnant lies where its rectangle does. -/
theorem Plate.remnantOf_deg0 (hloc : r.location = .resting z ox oy .deg0) (id x0 y0 x1 y1 : Nat) :
    r.remnantOf id x0 y0 x1 y1 = ⟨id, .remnant, r.grade, r.thickness, x1 - x0, y1 - y0,
      .resting z (ox + x0) (oy + y0) .deg0, .whole, some r.id, true, [], none⟩ := by
  rw [Plate.remnantOf, hloc]

/-- R113: on a turned parent, whose width runs against the zone's length, the far edge of the rectangle comes first. -/
theorem Plate.remnantOf_deg90 (hloc : r.location = .resting z ox oy .deg90) (id x0 y0 x1 y1 : Nat) :
    r.remnantOf id x0 y0 x1 y1 = ⟨id, .remnant, r.grade, r.thickness, x1 - x0, y1 - y0,
      .resting z (ox + r.width - y1) (oy + x0) .deg90, .whole, some r.id, true, [], none⟩ := by
  rw [Plate.remnantOf, hloc]

end

/-! ## The request, with its table unread -/

section
variable {s : State} {p : Port} (tag : Byte) {pl : Nat} (id x0 y0 x1 y1 : Nat) (h : s.hears p [.planning])
include h

/-- R111: a heard REMNANT-DECLARE on an id that no record holds. -/
theorem exec_remnantDeclare_unknown (hr : s.record pl = none) :
    exec (.remnantDeclare p tag pl id x0 y0 x1 y1) s = .next (s.answered p tag .unknownId .nothing) := by
  rw [exec_of_cases (cases := declareCases pl id x0 y0 x1 y1 s) rfl rfl rfl (by simp only [hr]; rfl) h.1
    (State.admission_of_hears h)]
  exact congrArg _ (elim_firstCase_of_record_none _ _ hr _)

/-- R111, R112: a heard REMNANT-DECLARE on a record that is held, with whatever answer the new remnant has. -/
theorem exec_remnantDeclare_known {r : Plate} (hr : s.record pl = some r) :
    exec (.remnantDeclare p tag pl id x0 y0 x1 y1) s = .next ((firstCase (declareCases pl id x0 y0 x1 y1 s)).elim
      (State.answered p tag (s.declareAnswer (r.remnantOf id x0 y0 x1 y1)).status
        (s.declareAnswer (r.remnantOf id x0 y0 x1 y1)).data
        ((s.setRecord pl fun r => { r with form := .skeleton }).addRecord (r.remnantOf id x0 y0 x1 y1)))
      fun st => s.answered p tag st .nothing) :=
  exec_of_cases (cases := declareCases pl id x0 y0 x1 y1 s) rfl rfl rfl (by simp only [hr]) h.1
    (State.admission_of_hears h)

end

/-! ## Its table, by the record (R111) -/

/-- R111 case 6: a part that is not separated lies under the declared rectangle. -/
theorem Plate.any_partUnder {r : Plate} {c : Rect} :
    (r.parts.any fun q => decide (q.status ≠ .separated) && c.intersects q.box) = true ↔
      ∃ q ∈ r.parts, q.status ≠ .separated ∧ c.intersects ⟨q.x0, q.y0, q.x1 - q.x0, q.y1 - q.y0⟩ = true := by
  simp only [List.any_eq_true, Bool.and_eq_true, decide_eq_true_eq, Part.box]

section
variable {α : Type} (done : α) (refused : Status → α) {s : State} {pl : Nat} (id x0 y0 x1 y1 : Nat) {r : Plate}
  (hr : s.record pl = some r)
include hr

/-- R111 case 2: nothing is cut from a record on a hook. -/
theorem elim_firstCase_declareCases_of_onHook {q : Port} (hloc : r.location = .onHook q) :
    (firstCase (declareCases pl id x0 y0 x1 y1 s)).elim done refused = refused .state := by
  rw [declareCases, elim_firstCase_of_record_some _ _ hr, elim_firstCase_cons]
  simp only [hr, Option.any_some, Plate.isResting, hloc, Bool.not_false, Bool.true_or, if_true]

/-- R111, cases 2 to 12, for a record that rests. -/
theorem elim_firstCase_declareCases_of_resting {z ox oy : Nat} {t : Turn} (hloc : r.location = .resting z ox oy t) :
    (firstCase (declareCases pl id x0 y0 x1 y1 s)).elim done refused =
      if r.form = .skeleton ∨ (r.kind = .remnant ∧ r.inParent = true) then refused .state
      else if s.refs pl ≠ 0 then refused .locked
      else if r.hold ≠ none then refused .reserved
      else if id = 0 ∨ 2147483647 < id ∨ x1 ≤ x0 ∨ r.length < x1 ∨ y1 ≤ y0 ∨ r.width < y1 then refused .range
      else if ∃ q ∈ r.parts, q.status ≠ .separated ∧ Rect.intersects ⟨x0, y0, x1 - x0, y1 - y0⟩
          ⟨q.x0, q.y0, q.x1 - q.x0, q.y1 - q.y0⟩ = true then refused .overlap
      else if min (x1 - x0) (y1 - y0) < s.params.minSide ∨ (x1 - x0) * (y1 - y0) < s.params.minArea then refused .small
      else if s.record id ≠ none then refused .duplicate
      else if 128 ≤ s.records.length ∨ (s.desc z).capacity ≤ s.restingCount z then refused .full
      else if (s.desc z).inService = false then refused .absent
      else done := by
  have hrange : (id = 0 ∨ Config.maxId < id ∨ x1 ≤ x0 ∨ y1 ≤ y0 ∨ r.length < x1 ∨ r.width < y1) ↔
      (id = 0 ∨ 2147483647 < id ∨ x1 ≤ x0 ∨ r.length < x1 ∨ y1 ≤ y0 ∨ r.width < y1) := by
    rw [Config.maxId, or_left_comm (a := y1 ≤ y0)]
  rw [declareCases, elim_firstCase_of_record_some _ _ hr]
  simp only [hr, elim_firstCase_cons, elim_firstCase_nil, Option.any_some, Option.map_some, Option.getD_some,
    Plate.isResting, Plate.zoneOf, hloc, Bool.not_true, Bool.false_or, Bool.or_eq_true, Bool.and_eq_true,
    Bool.not_eq_true', decide_eq_true_eq, Option.isSome_iff_ne_none, Plate.any_partUnder, declaredRect, hrange, ite_or]
  rfl

end

/-- Settles O54: a missing record and a record on a hook each end the table; for a record that rests the table is read in
order, and the remnant it lets through lies by the turn of its parent. -/
theorem declarationBooksRemnant : Obligations.DeclarationBooksRemnant := by
  intro s p tag pl id x0 y0 x1 y1 h answers
  refine ⟨exec_remnantDeclare_unknown tag id x0 y0 x1 y1 h, fun r q hr hloc => ?onHook,
    fun r z ox oy t hr hloc => ?resting⟩
  case onHook =>
    exact (exec_remnantDeclare_known tag id x0 y0 x1 y1 h hr).trans
      (congrArg _ (elim_firstCase_declareCases_of_onHook _ _ id x0 y0 x1 y1 hr hloc))
  case resting =>
    intro w hgt ax ay n
    have hn : r.remnantOf id x0 y0 x1 y1 = n := by
      obtain rfl := State.id_of_record hr
      cases t with
      | deg0 => exact Plate.remnantOf_deg0 hloc id x0 y0 x1 y1
      | deg90 => exact Plate.remnantOf_deg90 hloc id x0 y0 x1 y1
    have hexec := exec_remnantDeclare_known tag id x0 y0 x1 y1 h hr
    rw [elim_firstCase_declareCases_of_resting _ _ id x0 y0 x1 y1 hr hloc, hn] at hexec
    exact hexec

end Sys2Proof.Machine
end

section
/-! Notices and raises (R137, R164, R167, R168). -/

namespace Sys2Proof.Machine

open Sys2Proof

/-! ## Offers of notices (R164) -/

/-- R164: a notice that finds 8 waiting is dropped, and only the notices-lost flag tells of it. -/
theorem State.notify_eq (s : State) (p : Port) (n : Notice) :
    s.notify p n = s.setLink p (if (s.link p).notices.length < 8 then
      { s.link p with notices := (s.link p).notices ++ [n] } else { s.link p with lost := true }) := rfl

/-- R164: the reply that is built takes the notices-lost flag with it. -/
theorem State.reply_eq (s : State) (p : Port) (tag : Byte) (a : Answer) :
    s.reply p tag a =
      s.setLink p { s.link p with slot := some ⟨tag, a.status, (s.link p).lost, a.data⟩, lost := false } := rfl

/-! ## The bodies of notices (9.8) -/

/-- A code that agrees with every row of a table of codes has the byte of the row it stands in. -/
theorem byteOf_code_of_mem_table {α : Type} {code : α → Nat} {table : List (α × Byte)}
    (htable : ∀ row ∈ table, byteOf (code row.1) = row.2) {a : α} {k : Byte} (hmem : (a, k) ∈ table) :
    byteOf (code a) = k :=
  htable (a, k) hmem

theorem Notice.frame_alert (c : AlertCode) (subject n : Nat) :
    (Notice.alert c subject n).frame = ⟨0x81, 0, [0x0A, byteOf c.code, byteOf subject, byteOf n]⟩ := rfl

theorem Notice.frame_craneMove (q : Port) (act : CraneAction) (id z : Nat) (d : MoveData) :
    (Notice.craneMove q act id z d).frame =
      ⟨0x81, 0, [0x08, byteOf q.val, byteOf act.code] ++ bytes32 id ++ [byteOf z] ++ d.bytes⟩ := rfl

/-! ## Raises (R137) -/

/-- R137: the alert list is searched before its room is tested. -/
theorem State.raise_eq (s : State) (c : AlertCode) (subject : Nat) :
    s.raise c subject =
      if ⟨c, subject⟩ ∈ s.alerts then s
      else if s.alerts.length < 8 then
        State.notify 0 (.alert c subject (s.alerts.length + 1)) { s with alerts := s.alerts ++ [⟨c, subject⟩] }
      else { s with overflow := min 255 (s.overflow + 1) } := by
  obtain ⟨hmem, hraise⟩ | ⟨hmem, hroom, hraise⟩ | ⟨hmem, hfull, hraise⟩ := s.raise_cases c subject
  · rw [hraise, if_pos hmem]
  · rw [Config.maxAlerts] at hroom
    rw [hraise, if_neg hmem, if_pos hroom]
  · rw [Config.maxAlerts] at hfull
    rw [hraise, if_neg hmem, if_neg (not_lt.mpr hfull), countUp, Config.maxOverflow]

/-- Settles O14: the frames without a code of R167 or R168 are their bodies as they stand, and the codes are read from the
two tables. -/
theorem noticeOffersAndRaises : Obligations.NoticeOffersAndRaises := by
  refine ⟨State.notify_eq, State.reply_eq, fun b n v => ?frames, State.raise_eq⟩
  refine ⟨rfl, rfl, rfl, rfl, rfl, rfl, rfl, rfl, rfl, fun c k hk => ?alert, fun q act k hk => ?craneMove⟩
  case alert =>
    rw [Notice.frame_alert, byteOf_code_of_mem_table (code := AlertCode.code) (by decide) hk]
  case craneMove =>
    simp only [Notice.frame_craneMove, byteOf_code_of_mem_table (code := CraneAction.code) (by decide) hk]
    refine ⟨fun r => rfl, fun x y t => ?place, rfl⟩
    cases t <;> rfl

end Sys2Proof.Machine
end

section
/-! The completion logs (R129 to R134): pushes, LOG-TAKE and LOG-CLEAR-LOST. -/

namespace Sys2Proof.Machine

open Sys2Proof

/-! ## Pushes (R129, R130, R131) -/

section
variable {s : State} {b : Nat} (r : LogRecord)

/-- R131: a push on a full log loses the record. -/
theorem State.push_of_full (h : 16 ≤ (s.log b).records.length) :
    s.push b r = (s.setLog b { s.log b with lost := true }).raise .logLost b :=
  if_neg (not_lt.mpr h)

/-- R129, R130: a push with room appends; the watermark is tested against the new fill. -/
theorem State.push_of_room (h : (s.log b).records.length < 16) :
    s.push b r =
      let pushed := s.setLog b { s.log b with records := (s.log b).records ++ [r] }
      if s.watermark b ≠ 0 ∧ s.watermark b ≤ (s.log b).records.length + 1 then pushed.raise .logHigh b else pushed :=
  if_pos h

end

/-! ## The records that fit a reply (R132, R169) -/

/-- The bytes of a LOG-TAKE reply that carries these records after `used` bytes. -/
def logBytes (used : Nat) (l : List LogRecord) : Nat := used + (l.map LogRecord.size).sum

@[simp] theorem logBytes_cons (used : Nat) (r : LogRecord) (l : List LogRecord) :
    logBytes used (r :: l) = logBytes (used + r.size) l := by
  simp only [logBytes, List.map_cons, List.sum_cons, Nat.add_assoc]

theorem le_logBytes (used : Nat) (l : List LogRecord) : used ≤ logBytes used l := Nat.le_add_right _ _

/-- R132: the records taken are the oldest ones that the count allows and 200 bytes hold, where not one more could join
them. -/
theorem fitting_append_of_maximal {taken left : List LogRecord} {used n : Nat} (hcount : taken.length ≤ n)
    (hfits : taken ≠ [] → logBytes used taken ≤ 200)
    (hmax : taken.length = n ∨ left = [] ∨ ∃ r rest, left = r :: rest ∧ 200 < logBytes used (taken ++ [r])) :
    fitting used n (taken ++ left) = taken := by
  induction taken generalizing used n with
  | nil =>
    obtain hn | rfl | ⟨r, rest, rfl, hlarge⟩ := hmax
    · obtain rfl : n = 0 := hn.symm
      rfl
    · cases n <;> rfl
    · have hr : ¬ used + r.size ≤ Config.maxBody := not_le.mpr hlarge
      cases n with
      | zero => rfl
      | succ n => exact if_neg hr
  | cons x xs ih =>
    obtain _ | n := n
    · cases hcount
    have hbytes : logBytes (used + x.size) xs ≤ 200 := by simpa using hfits (List.cons_ne_nil x xs)
    have hx : used + x.size ≤ Config.maxBody := (le_logBytes _ xs).trans hbytes
    have hxs : fitting (used + x.size) n (xs ++ left) = xs :=
      ih (Nat.le_of_succ_le_succ hcount) (fun _ => hbytes) (by simpa using hmax)
    rw [List.cons_append, fitting, if_pos hx, hxs]

/-! ## What a LOG-TAKE leaves and answers (R132) -/

/-- R132: what LOG-TAKE does once its table lets it through. -/
def logTaken (b n : Nat) (s : State) : State × Answer :=
  if (s.log b).records.isEmpty then (s, ⟨.none, .log ⟨b, [], 0, (s.log b).lost, s.watermark b⟩⟩)
  else
    let taken := fitting 6 (min n 16) (s.log b).records
    let left := (s.log b).records.drop taken.length
    (s.setLog b { s.log b with records := left },
      ⟨if 16 < n then .clamped else .ok, .log ⟨b, taken, left.length, (s.log b).lost, s.watermark b⟩⟩)

theorem ownLogTake_eq (b n : Nat) (s : State) :
    ownLogTake b n s = byCases (bedCases s b ++ [(decide (n = 0), .range)]) (logTaken b n) s := rfl

section
variable {s : State} {b : Nat} (n : Nat)

theorem logTaken_of_empty (h : (s.log b).records = []) :
    logTaken b n s = (s, ⟨.none, .log ⟨b, [], 0, (s.log b).lost, s.watermark b⟩⟩) :=
  if_pos (List.isEmpty_iff.mpr h)

theorem logTaken_of_fitting {taken left : List LogRecord} (hne : (s.log b).records ≠ [])
    (hsplit : (s.log b).records = taken ++ left) (hfitting : fitting 6 (min n 16) (taken ++ left) = taken) :
    logTaken b n s = (s.setLog b { s.log b with records := left },
      ⟨if 16 < n then .clamped else .ok, .log ⟨b, taken, left.length, (s.log b).lost, s.watermark b⟩⟩) := by
  rw [logTaken, if_neg (mt List.isEmpty_iff.mp hne), hsplit, hfitting]
  simp only [List.drop_left]

end

/-! ## The requests (R132, R134) -/

section
variable {s : State} {p : Port} (tag : Byte) (b : Nat) (h : s.hears p [.planning])
include h

/-- R132: a heard LOG-TAKE, whose table tests n after the bed. -/
theorem exec_logTake (n : Nat) :
    exec (.logTake p tag b n) s = .next ((firstCase (bedCases s b)).elim
      (if n = 0 then s.answered p tag .range .nothing
        else State.answered p tag (logTaken b n s).2.status (logTaken b n s).2.data (logTaken b n s).1)
      fun st => s.answered p tag st .nothing) := by
  rw [exec_of_cases (t := (logTaken b n s).1) (st := (logTaken b n s).2.status) (d := (logTaken b n s).2.data)
    rfl rfl (ownLogTake_eq b n s) rfl h.1 (State.admission_of_hears h), elim_firstCase_append]
  simp only [elim_firstCase_cons, elim_firstCase_nil, decide_eq_true_eq]

/-- R134: a heard LOG-CLEAR-LOST. -/
theorem exec_logClearLost :
    exec (.logClearLost p tag b) s = .next ((firstCase (bedCases s b)).elim
      (State.answered p tag .ok (.fill (s.log b).records.length) (s.setLog b { s.log b with lost := false }))
      fun st => s.answered p tag st .nothing) :=
  exec_of_cases rfl rfl rfl rfl h.1 (State.admission_of_hears h)

end

/-- Settles O56: a push by the room of its log; the requests by the bed's table, and a LOG-TAKE that passes it by its
count and its log, the records told being those `fitting` takes. -/
theorem logsArePushedAndTaken : Obligations.LogsArePushedAndTaken := by
  intro s b l
  refine ⟨fun r => ?push, fun p tag h => ?requests⟩
  case push =>
    obtain hroom | hfull := Nat.lt_or_ge l.records.length 16
    · rw [if_neg (not_le.mpr hroom), State.push_of_room r hroom]
      rfl
    · rw [if_pos hfull, State.push_of_full r hfull]
      rfl
  case requests =>
    intro bad bytes
    have hbad : firstCase (bedCases s b) = bad := firstCase_bedCases s b
    have htake := exec_logTake tag b h
    have hclear := exec_logClearLost tag b h
    rw [hbad] at htake hclear
    refine ⟨fun st n hst => ?takeRefused, fun st hst => ?clearRefused, fun hnone => ?cleared, fun hnone => ?zero,
      fun hnone n hn hempty => ?empty, fun hnone n taken left hn hne hsplit hcount hlog hfits hmax => ?taken⟩
    case takeRefused => rw [htake, hst, Option.elim_some]
    case clearRefused => rw [hclear, hst, Option.elim_some]
    case cleared =>
      rw [hclear, hnone, Option.elim_none]
      rfl
    case zero => rw [htake, hnone, Option.elim_none, if_pos rfl]
    case empty => rw [htake, hnone, Option.elim_none, if_neg hn.ne', logTaken_of_empty n hempty]
    case taken =>
      have hfull : taken.length = min n 16 ∨ left = [] ∨ ∃ r rest, left = r :: rest ∧ 200 < bytes (taken ++ [r]) := by
        obtain hcount' | hlog' | hleft := hmax
        · exact .inl (by omega)
        · exact .inl (by omega)
        · exact .inr hleft
      have hfitting := fitting_append_of_maximal (used := 6) (le_min hcount hlog) hfits hfull
      rw [htake, hnone, Option.elim_none, if_neg hn.ne', logTaken_of_fitting n hne hsplit hfitting]
      rfl

end Sys2Proof.Machine
end

section
/-! What a command does, said once for all commands: the owning block's act of each request, the act of each event, the pieces
of state they leave alone (`mayChange`), and what it takes for a law to be kept by every step. -/

namespace Sys2Proof.Machine

open Sys2Proof

/-! ## The acts of the commands -/

/-- The owning block's act on each request, without admission and reply; an event has none. -/
def ownAct : Instr → State → State × Answer
  | .hello p _ r => ownHello p r
  | .keepalive p _ => ownKeepalive p
  | .statusRead p _ n => ownStatusRead p n
  | .portRestore _ _ n => ownPortRestore n
  | .hallRestore _ _ => ownHallRestore
  | .zoneRead _ _ z => ownZoneRead z
  | .zoneSet _ _ w => ownZoneSet w
  | .zoneClear _ _ z => ownZoneClear z
  | .zoneService _ _ z f => ownZoneService z f
  | .zoneUsedClear _ _ z => ownZoneUsedClear z
  | .bedBind p _ z => ownBedBind p z
  | .bedUnbind p _ => ownBedUnbind p
  | .plateRegister _ _ w z ox oy => ownPlateRegister w z ox oy
  | .plateRegisterOnHook _ _ w c => ownPlateRegisterOnHook w c
  | .platePartsReplace _ _ id l => ownPlatePartsReplace id l
  | .platePartsAppend _ _ id l => ownPlatePartsAppend id l
  | .plateFinish _ _ id => ownPlateFinish id
  | .plateDrop _ _ id => ownPlateDrop id
  | .plateRead _ _ id first next => ownPlateRead id first next
  | .jobAdd _ _ w => ownJobAdd w
  | .jobTake p _ => ownJobTake p
  | .jobReturn p _ n => ownJobReturn p n
  | .jobCancel _ _ b n => ownJobCancel b n
  | .jobResume _ _ b n => ownJobResume b n
  | .jobList _ _ b first => ownJobList b first
  | .arcStart p _ n => ownArcStart p n
  | .arcEstablished p _ => ownArcEstablished p
  | .arcOff p _ o => ownArcOff p o
  | .budgetRead _ _ => ownBudgetRead
  | .spanSet p _ lo hi => ownSpanSet p lo hi
  | .spanClear p _ => ownSpanClear p
  | .lift p _ id z => ownLift p id z
  | .retarget p _ z => ownRetarget p z
  | .setDown p _ ox oy turn => ownSetDown p ox oy turn
  | .liftAbort p _ => ownLiftAbort p
  | .craneRead _ _ n => ownCraneRead n
  | .remnantDeclare _ _ pl id x0 y0 x1 y1 => ownRemnantDeclare pl id x0 y0 x1 y1
  | .remnantFit _ _ g th l w h => ownRemnantFit g th l w h
  | .remnantRelease _ _ id => ownRemnantRelease id
  | .remnantList _ _ g th first => ownRemnantList g th first
  | .logTake _ _ b n => ownLogTake b n
  | .logRead _ _ b first => ownLogRead b first
  | .logClearLost _ _ b => ownLogClearLost b
  | .alertClear _ _ c subj => ownAlertClear c subj
  | .alertAckOldest _ _ => ownAlertAckOldest
  | .alertClearAll _ _ => ownAlertClearAll
  | .alertRead _ _ => ownAlertRead
  | .paramSet _ _ l => ownParamSet l
  | .paramRead _ _ c first => ownParamRead c first
  | .configStore _ _ => ownConfigStore
  | .restart _ _ => ownRestart
  | .causeRead _ _ => ownCauseRead
  | _ => fun s => (s, refuse .code)

/-- R148: the one request whose taking is more than admission, act and reply. -/
theorem serve_keepalive (s : State) (p : Port) (tag : Byte) : serve (.keepalive p tag) s = takeKeepalive p tag s := rfl

/-- R145, R161: every other request is taken by the roles of section 9.6 and its owner's act. -/
theorem serve_eq_take {i : Instr} {p : Port} {tag : Byte} (hi : requestOf i = some (p, tag))
    (hk : i ≠ .keepalive p tag) (s : State) :
    serve i s = s.take p tag (allowedRoles i) (heardOffline i) (ownAct i) := by
  cases i <;> simp_all only [requestOf, Option.some.injEq, Prod.mk.injEq, reduceCtorEq] <;>
    obtain ⟨rfl, rfl⟩ := hi <;> first | rfl | exact absurd rfl hk

/-- An event serves nothing. -/
theorem serve_of_event {i : Instr} (hi : requestOf i = none) (s : State) : serve i s = s := by
  cases i <;> simp_all only [requestOf, reduceCtorEq] <;> rfl

/-- The three ways a request that is taken can end: a refusal at the admission tests, the owner's act and its answer, or the
lapse after an early keepalive. -/
theorem serve_cases {i : Instr} {p : Port} {tag : Byte} (hi : requestOf i = some (p, tag)) (s : State) :
    (∃ st, s.admission p (allowedRoles i) (heardOffline i) = some st ∧ serve i s = s.reply p tag (refuse st))
    ∨ (s.admission p (allowedRoles i) (heardOffline i) = none
      ∧ serve i s = (ownAct i s).1.reply p tag (ownAct i s).2)
    ∨ (i = .keepalive p tag ∧ s.admission p anyMaster false = none ∧ s.tooEarly p = true
      ∧ serve i s = (s.reply p tag ⟨.early, .nothing⟩).lapse p) := by
  by_cases hk : i = .keepalive p tag
  · subst hk
    obtain ⟨ha, he, h⟩ | ⟨-, h⟩ := takeKeepalive_cases s p tag
    · exact .inr (.inr ⟨rfl, ha, he, h⟩)
    · obtain ⟨st, ha, ht⟩ | ⟨ha, ht⟩ := s.take_cases p tag anyMaster false (ownKeepalive p)
      · exact .inl ⟨st, ha, h.trans ht⟩
      · exact .inr (.inl ⟨ha, h.trans ht⟩)
  · rw [serve_eq_take hi hk]
    obtain ⟨st, ha, ht⟩ | ⟨ha, ht⟩ := s.take_cases p tag (allowedRoles i) (heardOffline i) (ownAct i)
    · exact .inl ⟨st, ha, ht⟩
    · exact .inr (.inl ⟨ha, ht⟩)

/-- A request that is admitted for no exemption comes from a port that is ONLINE. -/
theorem State.online_of_admission {s : State} {p : Port} {roles : List Role}
    (h : s.admission p roles false = none) : (s.port p).state = .online := by
  unfold State.admission at h
  split_ifs at h with _ h2
  simpa using h2

/-- A request that is admitted comes from a port with one of its roles. -/
theorem State.role_of_admission {s : State} {p : Port} {roles : List Role} {offline : Bool}
    (h : s.admission p roles offline = none) : s.role p ∈ roles := by
  unfold State.admission at h
  split_ifs at h with h1
  simpa using h1

/-- What each event does to a part that is not held; the four reset events act on a held part as well. -/
def eventAct : Instr → State → State
  | .frameReceived p bytes => fun s => bytes.foldl (linkByte p) s
  | .frameTake p => takeFrame p
  | .frameSent p => frameSent p
  | .feederReading bytes => fun s => bytes.foldl feederByte s
  | .stalenessTimerExpiry => stalenessExpiry
  | .establishTimerExpiry p => establishExpiry p
  | .waitTimerExpiry p => waitExpiry p
  | .overdueTimerExpiry b n => overdueExpiry b n
  | .holdTimerExpiry id => holdExpiry id
  | .keepaliveTimerExpiry p => keepaliveExpiry p
  | .storeCompletion e => storeCompletion e
  | .resetHold k => holdReset k
  | .restartResetBegin => beginRestart
  | .powerStartUp => powerStartUp
  | .resetRelease k => releaseReset k
  | _ => id

/-- R176: the four events that act on a held part. -/
def isReset : Instr → Bool
  | .resetHold _ => true
  | .restartResetBegin => true
  | .powerStartUp => true
  | .resetRelease _ => true
  | _ => false

theorem exec_of_reset {i : Instr} (hi : isReset i = true) (s : State) : exec i s = .next (eventAct i s) := by
  cases i <;> first | rfl | exact absurd hi Bool.false_ne_true

theorem exec_of_event {i : Instr} (hi : requestOf i = none) (hr : isReset i = false) (s : State) :
    exec i s = .next (if s.held then s else (eventAct i s).settle) := by
  cases i <;> simp_all only [requestOf, reduceCtorEq] <;> first | rfl | exact absurd hr.symm Bool.false_ne_true

theorem requestOf_of_reset {i : Instr} (hi : isReset i = true) : requestOf i = none := by
  cases i <;> first | rfl | exact absurd hi Bool.false_ne_true

/-! ## Pieces of state -/

/-- A piece of state is the same in both states. -/
def Piece.same (s t : State) : Piece → Prop
  | .zones => t.zones = s.zones
  | .bindings => t.bindings = s.bindings
  | .records => t.records = s.records
  | .tables => t.tables = s.tables
  | .logs => t.logs = s.logs
  | .torches => t.torches = s.torches
  | .startQueue => t.startQueue = s.startQueue
  | .committed => t.committed = s.committed
  | .feeder => t.feeder = s.feeder
  | .cranes => t.cranes = s.cranes
  | .ports => t.ports = s.ports
  | .hallStop => t.hallStop = s.hallStop
  | .links => t.links = s.links
  | .alerts => t.alerts = s.alerts
  | .overflow => t.overflow = s.overflow
  | .params => t.params = s.params
  | .image => t.image = s.image
  | .causes => t.causes = s.causes
  | .hold => t.hold = s.hold
  | .restart => t.restart = s.restart

theorem Piece.same_refl (s : State) (x : Piece) : x.same s s := by
  cases x <;> rfl

theorem Piece.same_trans {s t u : State} {x : Piece} (h : x.same s t) (h' : x.same t u) : x.same s u := by
  cases x <;> exact Eq.trans h' h

/-- Only the pieces on the list may differ, and the queue of commands does not. -/
def SameBut (changed : List Piece) (s t : State) : Prop :=
  t.pending = s.pending ∧ ∀ x, x ∉ changed → x.same s t

theorem SameBut.refl (l : List Piece) (s : State) : SameBut l s s := ⟨rfl, fun x _ => x.same_refl s⟩

theorem SameBut.trans {l : List Piece} {s t u : State} (h : SameBut l s t) (h' : SameBut l t u) : SameBut l s u :=
  ⟨h'.1.trans h.1, fun x hx => Piece.same_trans (h.2 x hx) (h'.2 x hx)⟩

theorem SameBut.mono {l m : List Piece} {s t : State} (h : SameBut l s t) (hlm : l ⊆ m) : SameBut m s t :=
  ⟨h.1, fun x hx => h.2 x fun hl => hx (hlm hl)⟩

/-- An owner that refuses by a table changes nothing then. -/
theorem SameBut.byCases {l : List Piece} {cases : Cases} {act : State → State × Answer} {s : State}
    (h : firstCase cases = none → SameBut l s (act s).1) : SameBut l s (byCases cases act s).1 := by
  unfold Machine.byCases
  cases hc : firstCase cases with
  | some st => exact SameBut.refl l s
  | none => exact h hc

theorem State.reply_sameBut (s : State) (p : Port) (tag : Byte) (a : Answer) : SameBut [.links] s (s.reply p tag a) := by
  refine ⟨by simp, fun x hx => ?_⟩
  cases x <;> simp_all [Piece.same]

theorem State.settle_sameBut (s : State) : SameBut [.links] s s.settle := by
  refine ⟨by simp, fun x hx => ?_⟩
  cases x <;> simp_all [Piece.same]

end Sys2Proof.Machine
end

section
/-! The frame of every command: what `mayChange` does not name stays as it was. -/

namespace Sys2Proof.Machine

open Sys2Proof

/-- A frame, piece by piece. -/
theorem sameBut_iff {l : List Piece} {s t : State} : SameBut l s t ↔
    t.pending = s.pending
    ∧ (.zones ∉ l → t.zones = s.zones) ∧ (.bindings ∉ l → t.bindings = s.bindings)
    ∧ (.records ∉ l → t.records = s.records) ∧ (.tables ∉ l → t.tables = s.tables)
    ∧ (.logs ∉ l → t.logs = s.logs) ∧ (.torches ∉ l → t.torches = s.torches)
    ∧ (.startQueue ∉ l → t.startQueue = s.startQueue) ∧ (.committed ∉ l → t.committed = s.committed)
    ∧ (.feeder ∉ l → t.feeder = s.feeder) ∧ (.cranes ∉ l → t.cranes = s.cranes)
    ∧ (.ports ∉ l → t.ports = s.ports) ∧ (.hallStop ∉ l → t.hallStop = s.hallStop)
    ∧ (.links ∉ l → t.links = s.links) ∧ (.alerts ∉ l → t.alerts = s.alerts)
    ∧ (.overflow ∉ l → t.overflow = s.overflow) ∧ (.params ∉ l → t.params = s.params)
    ∧ (.image ∉ l → t.image = s.image) ∧ (.causes ∉ l → t.causes = s.causes)
    ∧ (.hold ∉ l → t.hold = s.hold) ∧ (.restart ∉ l → t.restart = s.restart) := by
  constructor
  · rintro ⟨hp, h⟩
    exact ⟨hp, h .zones, h .bindings, h .records, h .tables, h .logs, h .torches, h .startQueue, h .committed, h .feeder,
      h .cranes, h .ports, h .hallStop, h .links, h .alerts, h .overflow, h .params, h .image, h .causes, h .hold,
      h .restart⟩
  · rintro ⟨hp, h1, h2, h3, h4, h5, h6, h7, h8, h9, h10, h11, h12, h13, h14, h15, h16, h17, h18, h19, h20⟩
    exact ⟨hp, fun x hx => by cases x <;> apply_assumption <;> exact hx⟩

/-- The requests whose owners send notices. -/
def notifies : Instr → Bool
  | .zoneSet _ _ _ => true
  | .zoneService _ _ _ _ => true
  | .jobCancel _ _ _ _ => true
  | .arcStart _ _ _ => true
  | .arcEstablished _ _ => true
  | .arcOff _ _ _ => true
  | .lift _ _ _ _ => true
  | .retarget _ _ _ => true
  | .setDown _ _ _ _ _ => true
  | .liftAbort _ _ => true
  | .paramSet _ _ _ => true
  | _ => false

/-- The pieces that the owner's act may change: the reply is not part of it. -/
def ownChanges (i : Instr) : List Piece := (mayChange i).filter fun x => notifies i || decide (x ≠ .links)

/-- The owner's act on every request changes no piece but those its chapter names. -/
theorem ownAct_sameBut_own (i : Instr) (s : State) : SameBut (ownChanges i) s (ownAct i s).1 := by
  cases i with
  | hello p t r =>
    show SameBut _ s (ownHello p r s).1
    unfold ownHello
    split
    · exact .refl _ s
    · split
      · exact .refl _ s
      · split
        · simp [ownChanges, mayChange, notifies, sameBut_iff]
        · exact .refl _ s
        · split
          · simp [ownChanges, mayChange, notifies, sameBut_iff]
          · exact .refl _ s
  | keepalive p t => simp [ownAct, ownKeepalive, ownChanges, mayChange, notifies, sameBut_iff]
  | statusRead p t n => exact .refl _ s
  | portRestore p t n =>
    show SameBut _ s (ownPortRestore n s).1
    unfold ownPortRestore
    split
    · exact .refl _ s
    · split_ifs
      · simp [ownChanges, mayChange, notifies, sameBut_iff]
      · exact .refl _ s
  | hallRestore p t =>
    show SameBut _ s (ownHallRestore s).1
    unfold ownHallRestore
    split_ifs
    · exact .refl _ s
    · simp [ownChanges, mayChange, notifies, sameBut_iff]
  | zoneRead p t z => exact .byCases fun _ => .refl _ s
  | zoneSet p t w => exact .byCases fun _ => by simp [ownChanges, mayChange, notifies, sameBut_iff]
  | zoneClear p t z => exact .byCases fun _ => by simp [ownChanges, mayChange, notifies, sameBut_iff]
  | zoneService p t z f => exact .byCases fun _ => by dsimp only; split_ifs <;> simp [ownChanges, mayChange, notifies, sameBut_iff]
  | zoneUsedClear p t z => exact .byCases fun _ => by simp [ownChanges, mayChange, notifies, sameBut_iff]
  | bedBind p t z => exact .byCases fun _ => by simp [ownChanges, mayChange, notifies, sameBut_iff]
  | bedUnbind p t => exact .byCases fun _ => by simp [ownChanges, mayChange, notifies, sameBut_iff]
  | plateRegister p t w z ox oy => exact .byCases fun _ => by simp [ownChanges, mayChange, notifies, sameBut_iff]
  | plateRegisterOnHook p t w c => exact .byCases fun _ => by split <;> simp [ownChanges, mayChange, notifies, sameBut_iff]
  | platePartsReplace p t id l => exact .byCases fun _ => by simp [ownChanges, mayChange, notifies, sameBut_iff]
  | platePartsAppend p t id l => exact .byCases fun _ => by simp [ownChanges, mayChange, notifies, sameBut_iff]
  | plateFinish p t id => exact .byCases fun _ => by simp [ownChanges, mayChange, notifies, sameBut_iff]
  | plateDrop p t id => exact .byCases fun _ => by simp [ownChanges, mayChange, notifies, sameBut_iff]
  | plateRead p t id first next => exact .refl _ s
  | jobAdd p t w => exact .byCases fun _ => by simp [ownChanges, mayChange, notifies, sameBut_iff]
  | jobTake p t => exact .byCases fun _ => by dsimp only; split <;> simp [ownChanges, mayChange, notifies, sameBut_iff]
  | jobReturn p t n => exact .byCases fun _ => by split <;> simp [ownChanges, mayChange, notifies, sameBut_iff]
  | jobCancel p t b n =>
    refine .byCases fun _ => ?_
    split
    · exact .refl _ s
    · split
      · simp [ownChanges, mayChange, notifies, sameBut_iff]
      · simp [ownChanges, mayChange, notifies, sameBut_iff]
      · split <;> simp [ownChanges, mayChange, notifies, sameBut_iff]
      · simp [ownChanges, mayChange, notifies, sameBut_iff]
      · simp [ownChanges, mayChange, notifies, sameBut_iff]
  | jobResume p t b n => exact .byCases fun _ => by simp [ownChanges, mayChange, notifies, sameBut_iff]
  | jobList p t b first => exact .byCases fun _ => .refl _ s
  | arcStart p t n => exact .byCases fun _ => by split <;> simp [ownChanges, mayChange, notifies, sameBut_iff]
  | arcEstablished p t =>
    show SameBut _ s (ownArcEstablished p s).1
    unfold ownArcEstablished
    split <;> simp [ownChanges, mayChange, notifies, sameBut_iff]
  | arcOff p t o =>
    show SameBut _ s (ownArcOff p o s).1
    unfold ownArcOff
    split
    · exact .refl _ s
    · dsimp only
      split <;> simp [ownChanges, mayChange, notifies, sameBut_iff]
  | budgetRead p t => exact .refl _ s
  | spanSet p t lo hi =>
    show SameBut _ s (ownSpanSet p lo hi s).1
    unfold ownSpanSet
    split <;> simp [ownChanges, mayChange, notifies, sameBut_iff]
  | spanClear p t => exact .byCases fun _ => by simp [ownChanges, mayChange, notifies, sameBut_iff]
  | lift p t id z => exact .byCases fun _ => by split <;> simp [ownChanges, mayChange, notifies, sameBut_iff]
  | retarget p t z => exact .byCases fun _ => by simp [ownChanges, mayChange, notifies, sameBut_iff]
  | setDown p t ox oy turn =>
    refine .byCases fun _ => ?_
    dsimp only
    split
    · exact .refl _ s
    · split_ifs <;> simp [ownChanges, mayChange, notifies, sameBut_iff]
  | liftAbort p t => exact .byCases fun _ => by split <;> simp [ownChanges, mayChange, notifies, sameBut_iff]
  | craneRead p t n => exact .refl _ s
  | remnantDeclare p t pl id x0 y0 x1 y1 => exact .byCases fun _ => by split <;> simp [ownChanges, mayChange, notifies, sameBut_iff]
  | remnantFit p t g th l w h => exact .byCases fun _ => by dsimp only; split <;> simp [ownChanges, mayChange, notifies, sameBut_iff]
  | remnantRelease p t id => exact .byCases fun _ => by simp [ownChanges, mayChange, notifies, sameBut_iff]
  | remnantList p t g th first => exact .byCases fun _ => .refl _ s
  | logTake p t b n => exact .byCases fun _ => by dsimp only; split_ifs <;> simp [ownChanges, mayChange, notifies, sameBut_iff]
  | logRead p t b first => exact .byCases fun _ => .refl _ s
  | logClearLost p t b => exact .byCases fun _ => by simp [ownChanges, mayChange, notifies, sameBut_iff]
  | alertClear p t c subj =>
    cases c with
    | none => exact .refl _ s
    | some c => exact .byCases fun _ => by simp [ownChanges, mayChange, notifies, sameBut_iff]
  | alertAckOldest p t =>
    show SameBut _ s (ownAlertAckOldest s).1
    unfold ownAlertAckOldest
    split <;> simp [ownChanges, mayChange, notifies, sameBut_iff]
  | alertClearAll p t => simp [ownAct, ownAlertClearAll, ownChanges, mayChange, notifies, sameBut_iff]
  | alertRead p t => exact .refl _ s
  | paramSet p t l =>
    refine .byCases fun _ => ?_
    dsimp only [State.reformBudget]
    split_ifs <;> simp [ownChanges, mayChange, notifies, sameBut_iff]
  | paramRead p t c first => exact .refl _ s
  | configStore p t => exact .byCases fun _ => by simp [ownChanges, mayChange, notifies, sameBut_iff]
  | restart p t => exact .byCases fun _ => by simp [ownChanges, mayChange, notifies, sameBut_iff]
  | causeRead p t => simp [ownAct, ownCauseRead, ownChanges, mayChange, notifies, sameBut_iff]
  | _ => exact .refl _ s

theorem ownAct_sameBut (i : Instr) (s : State) : SameBut (mayChange i) s (ownAct i s).1 :=
  (ownAct_sameBut_own i s).mono (List.filter_subset_self _)

/-- A frame that every item of a list keeps is kept along the list. -/
theorem SameBut.foldl {α : Type} {l : List Piece} {f : State → α → State} (h : ∀ s a, SameBut l s (f s a)) (as : List α)
    (s : State) : SameBut l s (as.foldl f s) := by
  induction as generalizing s with
  | nil => exact .refl l s
  | cons a rest ih => exact (h s a).trans (ih (f s a))

theorem linkByte_sameBut (p : Port) (s : State) (b : LineByte) : SameBut [.ports, .links] s (linkByte p s b) := by
  dsimp only [linkByte]
  split <;> simp [sameBut_iff]

theorem frameSent_sameBut (p : Port) (s : State) : SameBut [.links, .restart] s (frameSent p s) := by
  dsimp only [frameSent, State.replySent]
  split
  · exact .refl _ s
  · split_ifs <;> simp [sameBut_iff]
  · simp [sameBut_iff]

/-- What the feeder's readings change (R67, R69). -/
theorem feederByte_sameBut (s : State) (b : LineByte) : SameBut (mayChange (.feederReading [])) s (feederByte s b) := by
  dsimp only [feederByte]
  split
  · simp [sameBut_iff, mayChange]
  · simp [sameBut_iff, mayChange, discardReading]
  · dsimp only [goodReading]
    split_ifs <;> simp [sameBut_iff, mayChange, shed_frame]

theorem restartTaken_sameBut (s : State) : SameBut [.hold, .restart] s s.restartTaken := by
  obtain ⟨_, h⟩ | ⟨_, h⟩ := s.restartTaken_cases <;> rw [h] <;> simp [sameBut_iff]

theorem holdReset_sameBut (k : ResetKind) (s : State) : SameBut [.hold, .restart] s (holdReset k s) := by
  have hkind (k : ResetKind) : SameBut [.hold, .restart] s (holdKind k s.restartTaken) :=
    (restartTaken_sameBut s).trans (by simp [holdKind, sameBut_iff])
  cases k with
  | restart =>
    unfold holdReset
    split_ifs
    · exact hkind _
    · exact .refl _ s
  | _ => exact hkind _

/-- R178: a power-on may change every piece, but not the queue of commands. -/
theorem powerUp_pending (s : State) : (powerUp s).pending = s.pending := by
  unfold powerUp
  split_ifs <;> simp

theorem resetJob_pending (s : State) (bj : Nat × Job) : (resetJob s bj).pending = s.pending := by
  unfold resetJob
  split_ifs <;> simp

theorem resetJobs_pending (s : State) : s.resetJobs.pending = s.pending := by
  unfold State.resetJobs
  generalize s.allJobs = l
  induction l generalizing s with
  | nil => rfl
  | cons bj rest ih => exact (ih (resetJob s bj)).trans (resetJob_pending s bj)

theorem warmUp_pending (s : State) : (warmUp s).pending = s.pending := by
  have hb : ∀ u : State, u.applyPending.resetBlocks.pending = u.pending := fun u => by
    unfold State.resetBlocks State.applyPending
    split_ifs <;> rfl
  dsimp only [warmUp]
  split_ifs <;> simp [resetJobs_pending, hb]

theorem endHolds_pending (s : State) (left : Causes) : (s.endHolds left).pending = s.pending := by
  obtain ⟨_, h⟩ | ⟨_, _, h⟩ | ⟨_, _, h⟩ := s.endHolds_cases left
  · rw [h]
  · rw [h, powerUp_pending]
  · rw [h, warmUp_pending]

/-- The resets may change every piece, but not the queue of commands. -/
theorem reset_pending {i : Instr} (hi : isReset i = true) (s : State) : (eventAct i s).pending = s.pending := by
  cases i with
  | resetHold k => exact (holdReset_sameBut k s).1
  | restartResetBegin =>
    show (beginRestart s).pending = _
    unfold beginRestart
    split_ifs
    · exact (endHolds_pending _ _).trans (restartTaken_sameBut s).1
    · rfl
  | powerStartUp =>
    show (powerStartUp s).pending = _
    unfold powerStartUp
    split_ifs
    · exact endHolds_pending _ _
    · rfl
  | resetRelease k =>
    show (releaseReset k s).pending = _
    unfold releaseReset
    split_ifs
    · exact endHolds_pending _ _
    · rfl
  | _ => exact absurd hi Bool.false_ne_true

/-- Every command but the resets names the links among what it changes. -/
theorem links_mem_mayChange {i : Instr} (hr : isReset i = false) : .links ∈ mayChange i := by
  cases i <;> first | (cases hr; done) | simp [mayChange]

theorem not_isReset_of_request {i : Instr} {pt : Port × Byte} (hi : requestOf i = some pt) : isReset i = false := by
  cases i <;> first | (cases hi; done) | rfl

/-- R145, R161: what the taking of a request changes. -/
theorem serve_sameBut {i : Instr} {p : Port} {tag : Byte} (hi : requestOf i = some (p, tag)) (s : State) :
    SameBut (mayChange i) s (serve i s) := by
  have hlinks : [Piece.links] ⊆ mayChange i := by simpa using links_mem_mayChange (not_isReset_of_request hi)
  obtain ⟨st, -, h⟩ | ⟨-, h⟩ | ⟨rfl, -, -, h⟩ := serve_cases hi s
  · rw [h]
    exact (s.reply_sameBut p tag _).mono hlinks
  · rw [h]
    exact (ownAct_sameBut i s).trans ((State.reply_sameBut _ p tag _).mono hlinks)
  · rw [h]
    refine ((s.reply_sameBut p tag ⟨.early, .nothing⟩).mono hlinks).trans ?_
    simp [sameBut_iff, mayChange]

/-- No request changes the holds, and a frame may bring any request. -/
theorem mayChange_subset_frameTake {i : Instr} {p q : Port} {tag : Byte} (hi : requestOf i = some (p, tag)) :
    mayChange i ⊆ mayChange (.frameTake q) := by
  have hhold : .hold ∉ mayChange i := by
    cases i <;> first | cases hi; done | simp [mayChange]
  intro x hx
  cases x with
  | hold => exact absurd hx hhold
  | _ => simp [mayChange]

theorem takeFrame_sameBut (p : Port) (s : State) : SameBut (mayChange (.frameTake p)) s (takeFrame p s) := by
  have hlinks : [Piece.links] ⊆ mayChange (.frameTake p) := by simp [mayChange]
  unfold takeFrame
  split
  · rename_i f rest _ _
    have hbuffer : SameBut (mayChange (.frameTake p)) s (s.setLink p { s.link p with buffer := rest }) := by
      simp [sameBut_iff, mayChange]
    refine hbuffer.trans ?_
    unfold serveFrame
    split
    · rename_i i _
      cases hi : requestOf i with
      | some pt => exact (serve_sameBut hi _).mono (mayChange_subset_frameTake hi)
      | none => exact serve_of_event hi _ ▸ .refl _ _
    · exact (State.reply_sameBut _ _ _ _).mono hlinks
    · exact (State.reply_sameBut _ _ _ _).mono hlinks
  · exact .refl _ s

/-- Every event changes no piece but those its chapter names. -/
theorem eventAct_sameBut {i : Instr} (hi : requestOf i = none) (s : State) : SameBut (mayChange i) s (eventAct i s) := by
  cases i with
  | frameReceived p bytes => exact .foldl (linkByte_sameBut p) bytes s
  | frameTake p => exact takeFrame_sameBut p s
  | frameSent p => exact frameSent_sameBut p s
  | feederReading bytes => exact .foldl feederByte_sameBut bytes s
  | stalenessTimerExpiry =>
    dsimp only [eventAct, stalenessExpiry]
    split_ifs <;> simp [sameBut_iff, mayChange]
  | establishTimerExpiry p =>
    dsimp only [eventAct, establishExpiry]
    split_ifs <;> simp [sameBut_iff, mayChange]
  | waitTimerExpiry p =>
    dsimp only [eventAct, waitExpiry]
    split_ifs <;> simp [sameBut_iff, mayChange]
  | overdueTimerExpiry b n =>
    dsimp only [eventAct, overdueExpiry]
    split_ifs <;> simp [sameBut_iff, mayChange]
  | holdTimerExpiry id =>
    dsimp only [eventAct, holdExpiry]
    split_ifs <;> simp [sameBut_iff, mayChange]
  | keepaliveTimerExpiry p =>
    dsimp only [eventAct, keepaliveExpiry]
    split_ifs <;> simp [sameBut_iff, mayChange]
  | storeCompletion e =>
    dsimp only [eventAct, storeCompletion]
    split
    · split_ifs <;> simp [sameBut_iff, mayChange]
    · exact .refl _ s
    · exact .refl _ s
  | resetHold k => exact holdReset_sameBut k s
  | restartResetBegin => exact ⟨reset_pending rfl s, fun x hx => absurd (by cases x <;> simp [mayChange]) hx⟩
  | powerStartUp => exact ⟨reset_pending rfl s, fun x hx => absurd (by cases x <;> simp [mayChange]) hx⟩
  | resetRelease k => exact ⟨reset_pending rfl s, fun x hx => absurd (by cases x <;> simp [mayChange]) hx⟩
  | _ => exact absurd hi (by simp [requestOf])

/-- The frame of every command that is executed, a request being heard at once. -/
theorem exec_sameBut {i : Instr} {s t : State} (h : exec i s = .next t)
    (hl : ∀ p tag, requestOf i = some (p, tag) → s.listens p) : SameBut (mayChange i) s t := by
  have hsettle (u : State) (hr : isReset i = false) : SameBut (mayChange i) u u.settle :=
    u.settle_sameBut.mono (by simpa using links_mem_mayChange hr)
  cases hi : requestOf i with
  | some pt =>
    obtain rfl := Host.Outcome.next.inj ((exec_of_listens hi (hl _ _ hi)).symm.trans h)
    exact (serve_sameBut hi s).trans (hsettle _ (not_isReset_of_request hi))
  | none =>
    cases hr : isReset i with
    | true =>
      obtain rfl := Host.Outcome.next.inj ((exec_of_reset hr s).symm.trans h)
      exact eventAct_sameBut hi s
    | false =>
      obtain rfl := Host.Outcome.next.inj ((exec_of_event hi hr s).symm.trans h)
      split_ifs
      · exact .refl _ s
      · exact (eventAct_sameBut hi s).trans (hsettle _ hr)

/-- Settles O4: the frame of every command, read piece by piece. -/
theorem commandsKeepTheirFrames : Obligations.CommandsKeepTheirFrames :=
  fun _ _ _ h hl => sameBut_iff.mp (exec_sameBut h hl)

end Sys2Proof.Machine
end

section
/-! What it takes for a law to be kept by every step: the law reads certain pieces of state, and each act that may change one of
them keeps it. -/

namespace Sys2Proof.Machine

open Sys2Proof

/-! ## The pieces a law reads -/

/-- The pieces on the list are the same in both states. -/
def SameOn (read : List Piece) (s t : State) : Prop := ∀ x ∈ read, x.same s t

/-- The command may change a piece on the list. -/
def touches (read : List Piece) (i : Instr) : Bool := read.any fun x => decide (x ∈ mayChange i)

theorem SameBut.sameOn {changed read : List Piece} {s t : State} (h : SameBut changed s t)
    (hd : ∀ x ∈ read, x ∉ changed) : SameOn read s t := fun x hx => h.2 x (hd x hx)

theorem SameBut.sameOn_of_not_touches {read : List Piece} {i : Instr} {s t : State} (h : SameBut (mayChange i) s t)
    (hd : touches read i = false) : SameOn read s t :=
  h.sameOn fun x hx => by simpa using List.any_eq_false.mp hd x hx

theorem touches_append (a b : List Piece) (i : Instr) : touches (a ++ b) i = (touches a i || touches b i) :=
  List.any_append

theorem SameOn.left {a b : List Piece} {s t : State} (h : SameOn (a ++ b) s t) : SameOn a s t :=
  fun x hx => h x (List.mem_append_left b hx)

theorem SameOn.right {a b : List Piece} {s t : State} (h : SameOn (a ++ b) s t) : SameOn b s t :=
  fun x hx => h x (List.mem_append_right a hx)

/-! ## Laws that every step keeps -/

/-- The events of the timers and of the image store. -/
def isTimed : Instr → Bool
  | .stalenessTimerExpiry => true
  | .establishTimerExpiry _ => true
  | .waitTimerExpiry _ => true
  | .overdueTimerExpiry _ _ => true
  | .holdTimerExpiry _ => true
  | .storeCompletion _ => true
  | _ => false

/-- The law `P` reads the pieces `read`, and under the law `Q` each act that may change one of them keeps `P`. -/
structure Upkeep (Q : State → Prop) (read : List Piece) (P : State → Prop) : Prop where
  apart : ∀ x ∈ read, x ∉ [Piece.links, .causes, .hold, .restart]
  reads : ∀ {s t}, SameOn read s t → P s → P t
  aged : ∀ {s}, Q s → P s → P s.aged
  frameError : ∀ {s} p, P s → P (s.countFrameError p)
  request : ∀ {i p tag s}, requestOf i = some (p, tag) → touches read i = true →
    s.admission p (allowedRoles i) (heardOffline i) = none → Q s → P s → P (ownAct i s).1
  lapse : ∀ {s p}, (s.port p).state = .online → Q s → P s → P (s.lapse p)
  feeder : ∀ {s} b, touches read (.feederReading []) = true → Q s → P s → P (feederByte s b)
  timed : ∀ {i s}, isTimed i = true → touches read i = true → Q s → P s → P (eventAct i s)
  powerUp : ∀ {s}, Q s → P s → P (powerUp s)
  warmUp : ∀ {s}, Q s → P s → P (warmUp s)

/-- No other law is needed. -/
abbrev Kept := Upkeep fun _ => True

namespace Upkeep

variable {Q P : State → Prop} {read : List Piece} {s t : State}

/-- A law does not read the links. -/
theorem of_links (h : Upkeep Q read P) (hst : SameBut [.links] s t) (hs : P s) : P t :=
  h.reads (hst.sameOn fun x hx hl => h.apart x hx (by simp_all)) hs

/-- The owner's act on every admitted request keeps the law. -/
theorem own (h : Upkeep Q read P) {i : Instr} {p : Port} {tag : Byte} (hi : requestOf i = some (p, tag))
    (ha : s.admission p (allowedRoles i) (heardOffline i) = none) (hq : Q s) (hs : P s) : P (ownAct i s).1 := by
  cases ht : touches read i with
  | true => exact h.request hi ht ha hq hs
  | false => exact h.reads ((ownAct_sameBut i s).sameOn_of_not_touches ht) hs

/-- Every reading of the feeder keeps the law. -/
theorem feederByte (h : Upkeep Q read P) (b : LineByte) (hq : Q s) (hs : P s) : P (feederByte s b) := by
  cases ht : touches read (.feederReading []) with
  | true => exact h.feeder b ht hq hs
  | false => exact h.reads ((feederByte_sameBut s b).sameOn_of_not_touches ht) hs

/-- Every expiry and every completion of a store keeps the law. -/
theorem timedAct (h : Upkeep Q read P) {i : Instr} (hi : isTimed i = true) (hq : Q s) (hs : P s) : P (eventAct i s) := by
  have hn : requestOf i = none := by cases i <;> first | rfl | exact absurd hi Bool.false_ne_true
  cases ht : touches read i with
  | true => exact h.timed hi ht hq hs
  | false => exact h.reads ((eventAct_sameBut hn s).sameOn_of_not_touches ht) hs

/-- A law that is kept, and a law that is kept under it, are kept together. -/
theorem and {read' : List Piece} (hq : Kept read' Q) (h : Upkeep Q read P) :
    Kept (read' ++ read) fun s => Q s ∧ P s where
  apart x hx := (List.mem_append.mp hx).elim (hq.apart x) (h.apart x)
  reads hst hs := ⟨hq.reads hst.left hs.1, h.reads hst.right hs.2⟩
  aged _ hs := ⟨hq.aged trivial hs.1, h.aged hs.1 hs.2⟩
  frameError p hs := ⟨hq.frameError p hs.1, h.frameError p hs.2⟩
  request hi _ ha _ hs := ⟨hq.own hi ha trivial hs.1, h.own hi ha hs.1 hs.2⟩
  lapse hp _ hs := ⟨hq.lapse hp trivial hs.1, h.lapse hp hs.1 hs.2⟩
  feeder b _ _ hs := ⟨hq.feederByte b trivial hs.1, h.feederByte b hs.1 hs.2⟩
  timed hi _ _ hs := ⟨hq.timedAct hi trivial hs.1, h.timedAct hi hs.1 hs.2⟩
  powerUp _ hs := ⟨hq.powerUp trivial hs.1, h.powerUp hs.1 hs.2⟩
  warmUp _ hs := ⟨hq.warmUp trivial hs.1, h.warmUp hs.1 hs.2⟩

end Upkeep

/-- An owner that refuses by a table keeps what its act keeps where no case holds. -/
theorem byCases_keeps {P : State → Prop} {cases : Cases} {act : State → State × Answer} {s : State} (hs : P s)
    (h : firstCase cases = none → P (act s).1) : P (byCases cases act s).1 := by
  unfold byCases
  cases hc : firstCase cases with
  | some st => exact hs
  | none => exact h hc

/-- A property that every item of a list keeps is kept along the list. -/
theorem foldl_keeps {α β : Type} {P : β → Prop} {f : β → α → β} (h : ∀ s a, P s → P (f s a)) (as : List α) {s : β}
    (hs : P s) : P (as.foldl f s) := by
  induction as generalizing s with
  | nil => exact hs
  | cons a rest ih => exact ih (h s a hs)

namespace Upkeep

variable {P : State → Prop} {read : List Piece} {s t : State}

theorem settle (h : Kept read P) (hs : P s) : P s.settle := h.of_links s.settle_sameBut hs

theorem reply (h : Kept read P) (p : Port) (tag : Byte) (a : Answer) (hs : P s) : P (s.reply p tag a) :=
  h.of_links (s.reply_sameBut p tag a) hs

theorem setLink (h : Kept read P) (p : Port) (l : Link) (hs : P s) : P (s.setLink p l) :=
  h.of_links (by simp [sameBut_iff]) hs

theorem offerFrame (h : Kept read P) (p : Port) (f : Frame) (hs : P s) : P (s.offerFrame p f) := by
  unfold State.offerFrame
  split_ifs
  · exact h.setLink p _ hs
  · exact h.frameError p hs

theorem serve (h : Kept read P) (i : Instr) (hs : P s) : P (serve i s) := by
  cases hi : requestOf i with
  | none => exact (serve_of_event hi s).symm ▸ hs
  | some pt =>
    obtain ⟨st, -, he⟩ | ⟨ha, he⟩ | ⟨rfl, ha, -, he⟩ := serve_cases hi s
    · exact he ▸ h.reply _ _ _ hs
    · exact he ▸ h.reply _ _ _ (h.own hi ha trivial hs)
    · refine he ▸ h.lapse ?_ trivial (h.reply _ _ _ hs)
      simpa [State.port] using State.online_of_admission ha

theorem linkByte (h : Kept read P) (p : Port) (b : LineByte) (hs : P s) : P (linkByte p s b) := by
  have hr := h.setLink p { s.link p with receiver := (rxByte (s.link p).receiver b).1 } hs
  dsimp only [Machine.linkByte]
  split
  · exact hr
  · exact h.frameError p hr
  · exact h.offerFrame p _ hr

theorem takeFrame (h : Kept read P) (p : Port) (hs : P s) : P (takeFrame p s) := by
  unfold Machine.takeFrame
  split
  · have hb (l : Link) := h.setLink p l hs
    unfold serveFrame
    split
    · exact h.serve _ (hb _)
    · exact h.reply _ _ _ (hb _)
    · exact h.reply _ _ _ (hb _)
  · exact hs

/-- A law does not read what the reset events alone change. -/
theorem of_holds (h : Kept read P) (hst : SameBut [.links, .causes, .hold, .restart] s t) (hs : P s) : P t :=
  h.reads (hst.sameOn h.apart) hs

theorem endHolds (h : Kept read P) (left : Causes) (hs : P s) : P (s.endHolds left) := by
  obtain ⟨-, he⟩ | ⟨-, -, he⟩ | ⟨-, -, he⟩ := s.endHolds_cases left
  · exact he ▸ h.of_holds (by simp [sameBut_iff]) hs
  · exact he ▸ h.powerUp trivial hs
  · exact he ▸ h.warmUp trivial hs

/-- Every event keeps the law. -/
theorem event (h : Kept read P) {i : Instr} (hi : requestOf i = none) (hs : P s) : P (eventAct i s) := by
  have hholds : [Piece.hold, .restart] ⊆ [.links, .causes, .hold, .restart] := by simp
  have hlinks : [Piece.links, .restart] ⊆ [.links, .causes, .hold, .restart] := by simp
  cases i with
  | frameReceived p bytes => exact foldl_keeps (fun _ b => h.linkByte p b) bytes hs
  | frameTake p => exact h.takeFrame p hs
  | frameSent p => exact h.of_holds ((frameSent_sameBut p s).mono hlinks) hs
  | feederReading bytes => exact foldl_keeps (fun _ b => h.feederByte b trivial) bytes hs
  | stalenessTimerExpiry => exact h.timedAct rfl trivial hs
  | establishTimerExpiry p => exact h.timedAct rfl trivial hs
  | waitTimerExpiry p => exact h.timedAct rfl trivial hs
  | overdueTimerExpiry b n => exact h.timedAct rfl trivial hs
  | holdTimerExpiry id => exact h.timedAct rfl trivial hs
  | keepaliveTimerExpiry p =>
    show P (keepaliveExpiry p s)
    unfold keepaliveExpiry
    split_ifs with hp
    · exact h.lapse hp.1 trivial hs
    · exact hs
  | storeCompletion e => exact h.timedAct rfl trivial hs
  | resetHold k => exact h.of_holds ((holdReset_sameBut k s).mono hholds) hs
  | restartResetBegin =>
    show P (beginRestart s)
    unfold beginRestart
    split_ifs
    · exact h.endHolds _ (h.of_holds ((restartTaken_sameBut s).mono hholds) hs)
    · exact hs
  | powerStartUp =>
    show P (powerStartUp s)
    unfold powerStartUp
    split_ifs
    · exact h.endHolds _ hs
    · exact hs
  | resetRelease k =>
    show P (releaseReset k s)
    unfold releaseReset
    split_ifs
    · exact h.endHolds _ hs
    · exact hs
  | _ => exact absurd hi (by simp [requestOf])

/-- Every command that is executed keeps the law. -/
theorem exec (h : Kept read P) {i : Instr} (hs : P s) (he : exec i s = .next t) : P t := by
  cases hi : requestOf i with
  | some pt =>
    obtain rfl := Host.Outcome.next.inj ((exec_of_request hi s).symm.trans he)
    split_ifs
    · exact hs
    · exact h.settle (h.serve i hs)
    · exact h.settle (h.offerFrame _ _ hs)
  | none =>
    cases hr : isReset i with
    | true =>
      obtain rfl := Host.Outcome.next.inj ((exec_of_reset hr s).symm.trans he)
      exact h.event hi hs
    | false =>
      obtain rfl := Host.Outcome.next.inj ((exec_of_event hi hr s).symm.trans he)
      split_ifs
      · exact hs
      · exact h.settle (h.event hi hs)

/-- Every step keeps the law. -/
theorem step (h : Kept read P) (hs : P s) (ht : step s = .next t) : P t := by
  have hpending (u : State) (l : List Instr) (hu : P u) : P { u with pending := l } :=
    h.reads (fun x _ => by cases x <;> rfl) hu
  unfold Machine.step at ht
  split at ht
  · obtain rfl := Host.Outcome.next.inj ht
    unfold tick
    split_ifs
    · exact hpending s _ hs
    · exact hpending _ _ (h.aged trivial hs)
  · exact h.exec (hpending s _ hs) ht

end Upkeep

end Sys2Proof.Machine
end

section
/-! Laws that every elementary change of a torch, a job, an alert or a log keeps, whatever the rest of the state: they are kept by
the walk, the sheds, the lapse, the ends of a job and the feeder, which are made of such changes. -/

namespace Sys2Proof.Machine

open Sys2Proof

/-- R40: the change leaves a job's number and arrival number. -/
def KeepsNumbers (f : Job → Job) : Prop := ∀ j, (f j).number = j.number ∧ (f j).arrival = j.arrival

/-- The elementary changes keep `P`. -/
structure ChangesKeep (P : State → Prop) : Prop where
  torch : ∀ {s} p t, P s → P (s.setTorch p t)
  closeUp : ∀ {s} k, P s → P (s.closeUp k)
  queue : ∀ {s} l, P s → P { s with startQueue := l }
  job : ∀ {s} b n {f}, KeepsNumbers f → P s → P (s.setJob b n f)
  remove : ∀ {s} b j o, P s → P (s.removeJob b j o)
  raise : ∀ {s} c n, P s → P (s.raise c n)
  notify : ∀ {s} p n, P s → P (s.notify p n)
  record : ∀ {s} j, P s → P (s.setRecord j.plate (Plate.finish j))
  port : ∀ {s} p r, P s → P (s.setPort p r)
  latch : ∀ {s} h, P s → P { s with hallStop := h }
  feeder : ∀ {s} f, P s → P { s with feeder := f }

namespace ChangesKeep

variable {P : State → Prop} {s : State}

/-! ## Torches and the walk -/

theorem notifyJob (h : ChangesKeep P) (p : Port) (t : Torch) (f : Nat → Nat → Notice) (hs : P s) :
    P (s.notifyJob p t f) := by
  unfold State.notifyJob
  split
  · exact h.notify _ _ hs
  · exact hs

theorem leaveTorch (h : ChangesKeep P) (p : Port) (t : Torch) (hs : P s) : P (s.leaveTorch p t) := by
  dsimp only [State.leaveTorch]
  split_ifs
  · exact h.closeUp _ (h.torch p t hs)
  · exact h.torch p t hs

theorem admitTorch (h : ChangesKeep P) (own : Option Port) (p : Port) (hs : P s) : P (s.admitTorch own p) := by
  have ht := h.torch p { s.torch p with
    state := .starting, seq := s.litCount + 1, establish := some s.params.establishLimit, wait := none } (h.queue
      (s.startQueue.filter fun q => decide (q ≠ p)) hs)
  have hj (b n : Nat) := h.job b n (f := fun j => { j with state := .starting }) (fun j => ⟨rfl, rfl⟩) ht
  dsimp only [State.admitTorch]
  split_ifs <;> split
  · exact hj _ _
  · exact ht
  · exact h.notifyJob _ _ _ (hj _ _)
  · exact h.notifyJob _ _ _ ht

theorem walkFrom (h : ChangesKeep P) (own : Option Port) (l : List Port) (hs : P s) : P (walkFrom own l s).1 := by
  induction l generalizing s with
  | nil => exact hs
  | cons p rest ih =>
    simp only [Machine.walkFrom]
    split_ifs
    · exact ih hs
    · exact ih (h.admitTorch own p hs)
    · exact hs

theorem walk (h : ChangesKeep P) (own : Option Port) (hs : P s) : P (s.walk own).1 := by
  unfold State.walk
  split_ifs
  · exact hs
  · exact h.walkFrom own _ hs

theorem runWalk (h : ChangesKeep P) (hs : P s) : P s.runWalk := h.walk none hs

/-! ## The ends of a job -/

theorem stopJob (h : ChangesKeep P) (b : Nat) (j : Job) (bump : Bool) (hs : P s) : P (s.stopJob b j bump) := by
  dsimp only [State.stopJob]
  split
  · exact h.remove _ _ _ hs
  · exact h.job _ _ (fun j => ⟨rfl, rfl⟩) hs

theorem stopHeld (h : ChangesKeep P) (p : Port) (bump : Bool) (hs : P s) : P (s.stopHeld p bump) := by
  unfold State.stopHeld
  split
  · split_ifs
    · exact h.stopJob _ _ _ hs
    · exact hs
  · exact hs

theorem endJob (h : ChangesKeep P) (p : Port) (o : ArcOutcome) (hs : P s) : P (s.endJob p o) := by
  unfold State.endJob
  split
  · split_ifs
    · split
      · exact h.remove _ _ _ (h.record _ hs)
      · exact h.stopJob _ _ _ hs
    · exact hs
  · exact hs

theorem lapseJob (h : ChangesKeep P) (p : Port) (hs : P s) : P (s.lapseJob p) := by
  unfold State.lapseJob
  split
  · split_ifs
    · exact h.stopJob _ _ _ hs
    · exact h.job _ _ (fun j => ⟨rfl, rfl⟩) hs
  · exact hs

theorem resetJobs (h : ChangesKeep P) (hs : P s) : P s.resetJobs := by
  refine foldl_keeps (fun u bj hu => ?_) _ hs
  unfold resetJob
  split_ifs
  · exact h.stopJob _ _ _ hu
  · exact h.job _ _ (fun j => ⟨rfl, rfl⟩) hu
  · exact hu

/-! ## The lapse, the hall stop and the withdrawal -/

theorem lapseGantry (h : ChangesKeep P) (p : Port) (hs : P s) : P (s.lapseGantry p) := by
  unfold State.lapseGantry
  split
  · exact h.lapseJob p (h.leaveTorch p _ (h.queue _ hs))
  · exact h.lapseJob p (h.leaveTorch p _ hs)
  · exact h.lapseJob p (h.leaveTorch p _ hs)
  · exact h.lapseJob p hs
  · exact h.lapseJob p hs

theorem haltTorch (h : ChangesKeep P) (p : Port) (hs : P s) : P (s.haltTorch p) := by
  dsimp only [State.haltTorch]
  split
  · exact h.notifyJob _ _ _ (h.stopHeld p true (h.leaveTorch p _ hs))
  · exact h.notifyJob _ _ _ (h.stopHeld p true (h.leaveTorch p _ hs))
  · exact h.notifyJob _ _ _ (h.leaveTorch p _ (h.queue _ hs))
  · exact hs
  · exact hs

theorem setLatch (h : ChangesKeep P) (p : Port) (hs : P s) : P (s.setLatch p) := by
  dsimp only [State.setLatch]
  split_ifs
  · exact h.raise _ _ (foldl_keeps (fun _ q => h.haltTorch q) _ (h.latch _ hs))
  · exact h.raise _ _ (h.latch _ hs)

theorem lapseSteps (h : ChangesKeep P) (p : Port) (hs : P s) : P (s.lapseSteps p) := by
  have hp (r : PortRecord) := h.port p r hs
  dsimp only [State.lapseSteps]
  split_ifs
  · exact h.setLatch p (h.raise _ _ (h.lapseGantry p (hp _)))
  · exact h.raise _ _ (h.lapseGantry p (hp _))
  · exact h.setLatch p (h.raise _ _ (hp _))
  · exact h.raise _ _ (hp _)

theorem lapse (h : ChangesKeep P) (p : Port) (hs : P s) : P (s.lapse p) := by
  unfold State.lapse
  split_ifs
  · exact h.runWalk (h.lapseSteps p hs)
  · exact h.lapseSteps p hs

theorem withdraw (h : ChangesKeep P) (b : Nat) (j : Job) (q : Port) (hs : P s) : P (s.withdraw b j q) := by
  have hr := h.remove b j .cancelled hs
  dsimp only [State.withdraw]
  split_ifs
  · exact h.runWalk (h.notify _ _ (h.leaveTorch q _ (h.queue _ hr)))
  · exact h.notify _ _ hr

/-! ## The feeder -/

theorem shedTorch (h : ChangesKeep P) (p : Port) (hs : P s) : P (s.shedTorch p) :=
  h.raise _ _ (h.notifyJob _ _ _ (h.stopHeld p true (h.leaveTorch p _ hs)))

theorem shed (h : ChangesKeep P) (n : Nat) (hs : P s) : P (shed n s) := by
  induction n generalizing s with
  | zero => exact hs
  | succ n ih =>
    unfold Machine.shed
    split_ifs
    · exact hs
    · split
      · exact hs
      · exact ih (h.shedTorch _ hs)

theorem evaluateSag (h : ChangesKeep P) (hs : P s) : P s.evaluateSag := by
  dsimp only [State.evaluateSag]
  split_ifs
  · exact h.raise _ _ (h.feeder _ hs)
  · exact h.feeder _ hs

theorem goodReading (h : ChangesKeep P) (n : Nat) (hs : P s) : P (goodReading n s) := by
  have hr : P (State.evaluateSag (State.recompute { s with feeder := { s.feeder with
      level := min n Config.maxLevel, stale := false, staleTimer := some Config.staleMs } })) :=
    h.evaluateSag (h.feeder _ (h.feeder _ hs))
  dsimp only [Machine.goodReading]
  split_ifs
  · exact h.runWalk (h.shed 6 hr)
  · exact h.shed 6 hr
  · exact h.runWalk hr
  · exact hr

theorem feederByte (h : ChangesKeep P) (b : LineByte) (hs : P s) : P (feederByte s b) := by
  have hr (r : Receiver) := h.feeder { s.feeder with receiver := r } hs
  dsimp only [Machine.feederByte]
  split
  · exact hr _
  · exact h.feeder _ (hr _)
  · exact h.goodReading _ (hr _)

/-! ## The timers and the requests of chapter 4 -/

theorem stalenessExpiry (h : ChangesKeep P) (hs : P s) : P (stalenessExpiry s) := by
  unfold Machine.stalenessExpiry
  split_ifs
  · exact h.raise _ _ (h.feeder _ hs)
  · exact hs

theorem establishExpiry (h : ChangesKeep P) (p : Port) (hs : P s) : P (establishExpiry p s) := by
  dsimp only [Machine.establishExpiry]
  split_ifs
  · exact h.runWalk (h.raise _ _ (h.notifyJob _ _ _ (h.stopHeld p true (h.leaveTorch p _ hs))))
  · exact hs

theorem waitExpiry (h : ChangesKeep P) (p : Port) (hs : P s) : P (waitExpiry p s) := by
  dsimp only [Machine.waitExpiry]
  split_ifs
  · exact h.runWalk (h.notifyJob _ _ _ (h.leaveTorch p _ (h.queue _ hs)))
  · exact hs

theorem overdueExpiry (h : ChangesKeep P) (b n : Nat) (hs : P s) : P (overdueExpiry b n s) := by
  unfold Machine.overdueExpiry
  split_ifs
  · exact h.raise _ _ (h.job _ _ (fun j => ⟨rfl, rfl⟩) hs)
  · exact hs

theorem returnTorch (h : ChangesKeep P) (p : Port) (hs : P s) : P (s.returnTorch p) := by
  unfold State.returnTorch
  split_ifs
  · exact h.leaveTorch p _ hs
  · exact hs

theorem establish (h : ChangesKeep P) (p : Port) (hs : P s) : P (s.establish p) := by
  have ht (t : Torch) := h.torch p t hs
  dsimp only [State.establish]
  split
  · split_ifs
    · exact h.job _ _ (fun j => ⟨rfl, rfl⟩) (ht _)
    · exact ht _
  · exact ht _

theorem jobCancel (h : ChangesKeep P) (b n : Nat) (hs : P s) : P (ownJobCancel b n s).1 := by
  refine byCases_keeps hs fun _ => ?_
  split
  · exact hs
  · split
    · exact h.remove _ _ _ hs
    · exact h.remove _ _ _ hs
    · split
      · exact h.withdraw _ _ _ hs
      · exact h.remove _ _ _ hs
    · exact h.job _ _ (fun j => ⟨rfl, rfl⟩) hs
    · exact h.job _ _ (fun j => ⟨rfl, rfl⟩) hs

theorem arcStart (h : ChangesKeep P) (p : Port) (n : Nat) (hs : P s) : P (ownArcStart p n s).1 := by
  refine byCases_keeps hs fun _ => ?_
  split
  · exact hs
  · exact h.walk _ (h.queue _ (h.torch _ _ hs))

theorem arcEstablished (h : ChangesKeep P) (p : Port) (hs : P s) : P (ownArcEstablished p s).1 := by
  unfold ownArcEstablished
  split
  · exact h.runWalk (h.establish p hs)
  all_goals exact hs

theorem arcOff (h : ChangesKeep P) (p : Port) (o : Option ArcOutcome) (hs : P s) : P (ownArcOff p o s).1 := by
  unfold ownArcOff
  split
  · exact hs
  · dsimp only
    split
    · exact h.runWalk (h.endJob p _ (h.leaveTorch p _ hs))
    · exact h.runWalk (h.endJob p _ (h.leaveTorch p _ hs))
    · exact h.runWalk (h.leaveTorch p _ (h.queue _ hs))
    · exact h.leaveTorch p _ hs
    · exact hs

theorem reformBudget (h : ChangesKeep P) (old : Params) (hs : P s) : P (s.reformBudget old) := by
  have hr : P s.recompute := h.feeder _ hs
  unfold State.reformBudget
  split_ifs
  · exact h.runWalk hr
  · exact hr
  · exact hs

end ChangesKeep

end Sys2Proof.Machine
end

section
/-! The two resets as the laws meet them: the blocks at their values, then the alerts, then the choice of the transmitters. -/

namespace Sys2Proof.Machine

open Sys2Proof

/-- R178: the part at the end of a power-on, but for the alert of a BAD image and the transmitters. -/
def poweredUp (s : State) : State where
  zones := onEach (fun d => ⟨d, false⟩) (loadedConfig s.image).zones
  bindings := Vector.replicate 6 .unbound
  records := []
  tables := Vector.replicate 48 .fresh
  logs := Vector.replicate 48 .fresh
  torches := Vector.replicate 6 .idle
  startQueue := []
  committed := 0
  feeder := .afterReset
  cranes := Vector.replicate 6 .powerOn
  ports := Vector.replicate 6 .afterReset
  hallStop := none
  links := Vector.replicate 6 .afterReset
  alerts := []
  overflow := 0
  params := (loadedConfig s.image).params
  image := s.image.afterReset
  causes := ⟨true, false, false, false⟩
  hold := .released
  restart := .none
  pending := s.pending

theorem powerUp_eq (s : State) : powerUp s =
    (if s.image.afterReset = .bad then (poweredUp s).raise .configDefaulted 0 else poweredUp s).settle := rfl

/-- R179: the part at a release with every block at its value, but for the job tables. -/
def blocksReset (s : State) : State :=
  { s with causes := s.causes.join s.hold.occurred, image := s.image.afterReset }.applyPending.resetBlocks

theorem warmUp_eq (s : State) : warmUp s = (if s.image.state = .writing then
    (blocksReset s).resetJobs.raise .storeFailed 0 else (blocksReset s).resetJobs).settle := by
  dsimp only [warmUp, blocksReset]
  simp only [decide_eq_true_eq]

section

variable {P : State → Prop} (hraise : ∀ {s} c n, P s → P (s.raise c n)) (hsettle : ∀ {s}, P s → P s.settle)
include hraise hsettle

theorem powerUp_keeps {s : State} (h : P (poweredUp s)) : P (powerUp s) := by
  rw [powerUp_eq]
  split_ifs
  · exact hsettle (hraise _ _ h)
  · exact hsettle h

theorem warmUp_keeps {s : State} (h : P (blocksReset s).resetJobs) : P (warmUp s) := by
  rw [warmUp_eq]
  split_ifs
  · exact hsettle (hraise _ _ h)
  · exact hsettle h

end

section

variable (s : State)

@[simp] theorem blocksReset_zones : (blocksReset s).zones = s.zones := by
  unfold blocksReset State.resetBlocks State.applyPending
  split_ifs <;> rfl

@[simp] theorem blocksReset_bindings : (blocksReset s).bindings = Vector.replicate 6 .unbound := rfl

@[simp] theorem blocksReset_records : (blocksReset s).records = s.records.map fun r => { r with hold := none } := by
  unfold blocksReset State.resetBlocks State.applyPending
  split_ifs <;> rfl

@[simp] theorem blocksReset_tables : (blocksReset s).tables = s.tables := by
  unfold blocksReset State.resetBlocks State.applyPending
  split_ifs <;> rfl

@[simp] theorem blocksReset_logs : (blocksReset s).logs = s.logs := by
  unfold blocksReset State.resetBlocks State.applyPending
  split_ifs <;> rfl

@[simp] theorem blocksReset_torches : (blocksReset s).torches = Vector.replicate 6 .idle := rfl

@[simp] theorem blocksReset_startQueue : (blocksReset s).startQueue = [] := rfl

@[simp] theorem blocksReset_committed : (blocksReset s).committed = 0 := rfl

@[simp] theorem blocksReset_feeder : (blocksReset s).feeder = .afterReset := rfl

@[simp] theorem blocksReset_cranes :
    (blocksReset s).cranes = if s.cranesIdle then Vector.replicate 6 .powerOn else s.cranes := by
  have h : State.cranesIdle { s with causes := s.causes.join s.hold.occurred, image := s.image.afterReset } =
    s.cranesIdle := rfl
  unfold blocksReset State.resetBlocks State.applyPending
  rw [h]
  split_ifs <;> rfl

@[simp] theorem blocksReset_ports : (blocksReset s).ports = Vector.replicate 6 .afterReset := rfl

@[simp] theorem blocksReset_hallStop : (blocksReset s).hallStop = s.hallStop := by
  unfold blocksReset State.resetBlocks State.applyPending
  split_ifs <;> rfl

@[simp] theorem blocksReset_links : (blocksReset s).links = Vector.replicate 6 .afterReset := rfl

@[simp] theorem blocksReset_alerts : (blocksReset s).alerts = s.alerts := by
  unfold blocksReset State.resetBlocks State.applyPending
  split_ifs <;> rfl

@[simp] theorem blocksReset_overflow : (blocksReset s).overflow = s.overflow := by
  unfold blocksReset State.resetBlocks State.applyPending
  split_ifs <;> rfl

@[simp] theorem blocksReset_params :
    (blocksReset s).params = if s.cranesIdle then s.params.rateApplied.rolesApplied else s.params.rateApplied := by
  have h : State.cranesIdle { s with causes := s.causes.join s.hold.occurred, image := s.image.afterReset } =
    s.cranesIdle := rfl
  unfold blocksReset State.resetBlocks State.applyPending
  rw [h]
  split_ifs <;> rfl

@[simp] theorem blocksReset_image : (blocksReset s).image = s.image.afterReset := by
  unfold blocksReset State.resetBlocks State.applyPending
  split_ifs <;> rfl

@[simp] theorem blocksReset_causes : (blocksReset s).causes = s.causes.join s.hold.occurred := by
  unfold blocksReset State.resetBlocks State.applyPending
  split_ifs <;> rfl

@[simp] theorem blocksReset_hold : (blocksReset s).hold = .released := rfl

@[simp] theorem blocksReset_restart : (blocksReset s).restart = .none := rfl

end

end Sys2Proof.Machine
end

section
/-! The bounds of the alert list and of the completion logs (R128, R136). -/

namespace Sys2Proof.Machine

open Sys2Proof

/-- R128, R136: both bounds. -/
abbrev State.BoundsLaw (s : State) : Prop := s.AlertLaw ∧ s.LogLaw

theorem State.BoundsLaw.reads {s t : State} (h : SameOn [.alerts, .overflow, .logs] s t) (hs : s.BoundsLaw) :
    t.BoundsLaw := by
  have ha : t.alerts = s.alerts := h .alerts (by simp)
  have ho : t.overflow = s.overflow := h .overflow (by simp)
  have hl : t.logs = s.logs := h .logs (by simp)
  simpa only [State.BoundsLaw, State.AlertLaw, State.LogLaw, State.log, ha, ho, hl] using hs

theorem State.LogLaw.setLog {s : State} (hs : s.LogLaw) {l : CompletionLog} (b : Nat)
    (hl : l.records.length ≤ Config.maxLog) : (s.setLog b l).LogLaw := by
  intro c
  rw [State.log_setLog]
  split_ifs
  · exact hl
  · exact hs c

theorem State.LogLaw.length_le {s : State} (hs : s.LogLaw) (b : Nat) : (s.log b).records.length ≤ Config.maxLog := by
  by_cases hb : b < 48
  · exact hs ⟨b, hb⟩
  · simp [State.log, hb, CompletionLog.fresh]

theorem State.AlertLaw.raise {s : State} (hs : s.AlertLaw) (c : AlertCode) (n : Nat) : (s.raise c n).AlertLaw := by
  obtain ⟨hlen, hnodup, hover⟩ := hs
  obtain ⟨-, h⟩ | ⟨hnew, hroom, h⟩ | ⟨-, -, h⟩ := s.raise_cases c n
  · rw [h]
    exact ⟨hlen, hnodup, hover⟩
  · rw [h]
    refine ⟨?_, ?_, ?_⟩
    · simpa using hroom
    · exact List.nodup_append.mpr ⟨hnodup, List.nodup_singleton _, fun a ha b hb he => hnew (by simp_all)⟩
    · simpa using hover
  · rw [h]
    exact ⟨hlen, hnodup, Nat.min_le_left _ _⟩

theorem State.BoundsLaw.raise {s : State} (hs : s.BoundsLaw) (c : AlertCode) (n : Nat) : (s.raise c n).BoundsLaw :=
  ⟨hs.1.raise c n, by simpa [State.LogLaw, State.log] using hs.2⟩

/-- A log that is written within its bound keeps both. -/
theorem State.BoundsLaw.setLog {s : State} (hs : s.BoundsLaw) {l : CompletionLog} (b : Nat)
    (hl : l.records.length ≤ Config.maxLog) : (s.setLog b l).BoundsLaw :=
  ⟨by simpa [State.AlertLaw] using hs.1, hs.2.setLog b hl⟩

theorem State.BoundsLaw.push {s : State} (hs : s.BoundsLaw) (b : Nat) (r : LogRecord) : (s.push b r).BoundsLaw := by
  obtain ⟨hroom, h | h⟩ | ⟨-, h⟩ := s.push_cases b r
  · rw [h]
    exact hs.setLog b (by simpa using hroom)
  · rw [h]
    exact (hs.setLog b (by simpa using hroom)).raise _ _
  · rw [h]
    exact State.BoundsLaw.raise (hs.setLog (l := { s.log b with lost := true }) b (hs.2.length_le b)) _ _

theorem boundsLaw_changesKeep : ChangesKeep State.BoundsLaw where
  torch p t hs := hs.reads (by simp [SameOn, Piece.same])
  closeUp k hs := hs.reads (by simp [SameOn, Piece.same])
  queue l hs := hs.reads (by simp [SameOn, Piece.same])
  job b n _ _ hs := hs.reads (by simp [SameOn, Piece.same])
  remove b j o hs := (hs.push b (j.logRecord o)).reads (by simp [State.removeJob, SameOn, Piece.same])
  raise c n hs := hs.raise c n
  notify p n hs := hs.reads (by simp [SameOn, Piece.same])
  record j hs := hs.reads (by simp [SameOn, Piece.same])
  port p r hs := hs.reads (by simp [SameOn, Piece.same])
  latch h hs := hs.reads (by simp [SameOn, Piece.same])
  feeder f hs := hs.reads (by simp [SameOn, Piece.same])

theorem State.BoundsLaw.remakeBed {s : State} (hs : s.BoundsLaw) (z : Nat) (old new : ZoneKind) :
    (s.remakeBed z old new).BoundsLaw := by
  unfold State.remakeBed
  split_ifs
  · exact hs
  · exact State.BoundsLaw.setLog (hs.reads (by simp [SameOn, Piece.same])) z (Nat.zero_le _)

/-- Every request that may change a log or the alert list keeps both bounds. -/
theorem boundsLaw_request {i : Instr} {p : Port} {tag : Byte} {s : State} (hi : requestOf i = some (p, tag))
    (ht : touches [.alerts, .overflow, .logs] i = true) (hs : s.BoundsLaw) : (ownAct i s).1.BoundsLaw := by
  have hops := boundsLaw_changesKeep
  cases i with
  | keepalive p t => exact hs.reads (by simp [ownAct, ownKeepalive, SameOn, Piece.same])
  | zoneSet p t w =>
    refine byCases_keeps hs fun _ => ?_
    have hz : (s.setZone w.zone ⟨writtenDesc w (s.desc w.zone),
        if (s.desc w.zone).kind = .none then false else (s.zone w.zone).used⟩).BoundsLaw :=
      hs.reads (by simp [SameOn, Piece.same])
    exact (hz.remakeBed w.zone (s.desc w.zone).kind (writtenDesc w (s.desc w.zone)).kind).reads
      (by simp [SameOn, Piece.same])
  | zoneClear p t z =>
    refine byCases_keeps hs fun _ => ?_
    exact State.BoundsLaw.remakeBed (hs.reads (by simp [SameOn, Piece.same])) z _ _
  | jobCancel p t b n => exact hops.jobCancel b n hs
  | arcOff p t o => exact hops.arcOff p o hs
  | logTake p t b n =>
    refine byCases_keeps hs fun _ => ?_
    dsimp only
    split
    · exact hs
    · exact hs.setLog b (by simpa using Nat.le_add_right_of_le (hs.2.length_le b))
  | logClearLost p t b => exact byCases_keeps hs fun _ => hs.setLog b (hs.2.length_le b)
  | alertClear p t c subj =>
    cases c with
    | none => exact hs
    | some c =>
      refine byCases_keeps hs fun _ => ⟨⟨?_, hs.1.2.1.erase _, hs.1.2.2⟩, hs.2⟩
      exact (List.erase_sublist.length_le).trans hs.1.1
  | alertAckOldest p t =>
    show (ownAlertAckOldest s).1.BoundsLaw
    unfold ownAlertAckOldest
    split
    · exact hs
    · rename_i a rest ha
      obtain ⟨⟨hlen, hnodup, hover⟩, hlog⟩ := hs
      rw [ha] at hlen hnodup
      exact ⟨⟨(Nat.le_succ _).trans hlen, hnodup.of_cons, hover⟩, hlog⟩
  | alertClearAll p t => exact ⟨⟨Nat.zero_le _, List.nodup_nil, Nat.zero_le _⟩, hs.2⟩
  | _ => first | exact absurd ht Bool.false_ne_true | cases hi

theorem boundsLaw_kept : Kept [.alerts, .overflow, .logs] State.BoundsLaw where
  apart := by decide
  reads h hs := hs.reads h
  aged _ hs := hs
  frameError p hs := hs.reads (by simp [SameOn, Piece.same])
  request hi ht _ _ hs := boundsLaw_request hi ht hs
  lapse _ _ hs := boundsLaw_changesKeep.lapse _ hs
  feeder b _ _ hs := boundsLaw_changesKeep.feederByte b hs
  timed {i s} hi ht _ hs := by
    have hops := boundsLaw_changesKeep
    cases i with
    | stalenessTimerExpiry => exact hops.stalenessExpiry hs
    | establishTimerExpiry p => exact hops.establishExpiry p hs
    | overdueTimerExpiry b n => exact hops.overdueExpiry b n hs
    | storeCompletion e =>
      show (storeCompletion e s).BoundsLaw
      unfold storeCompletion
      split
      · split_ifs
        · exact hs.reads (by simp [SameOn, Piece.same])
        · exact State.BoundsLaw.raise (s := { s with image := .bad }) hs _ _
      · exact hs
      · exact hs
    | _ => first | exact absurd hi Bool.false_ne_true | exact absurd ht Bool.false_ne_true
  powerUp {s} _ _ := by
    refine powerUp_keeps (fun c n h => h.raise c n) (fun h => h.reads (by simp [SameOn, Piece.same])) ⟨?_, fun b => ?_⟩
    · exact ⟨Nat.zero_le _, List.nodup_nil, Nat.zero_le _⟩
    · simp [poweredUp, State.log, CompletionLog.fresh]
  warmUp {s} _ hs := by
    refine warmUp_keeps (fun c n h => h.raise c n) (fun h => h.reads (by simp [SameOn, Piece.same])) ?_
    exact boundsLaw_changesKeep.resetJobs (hs.reads (by simp [SameOn, Piece.same]))

/-- Settles O19: the two bounds are kept together. -/
theorem stepKeepsAlertAndLogLaws : Obligations.StepKeepsAlertAndLogLaws :=
  fun _ _ ha hl ht => boundsLaw_kept.step ⟨ha, hl⟩ ht

end Sys2Proof.Machine
end

section
/-! Committed load is the sum of the loads (R63). -/

namespace Sys2Proof.Machine

open Sys2Proof

@[simp] theorem State.torch_aged (s : State) (p : Port) : s.aged.torch p = (s.torch p).aged := by
  simp [State.torch, State.aged]

@[simp] theorem Torch.aged_state (t : Torch) : t.aged.state = t.state := rfl

@[simp] theorem Torch.aged_load (t : Torch) : t.aged.load = t.load := rfl

@[simp] theorem Torch.aged_seq (t : Torch) : t.aged.seq = t.seq := rfl

@[simp] theorem Torch.aged_job (t : Torch) : t.aged.job = t.job := rfl

@[simp] theorem State.torch_poweredUp (s : State) (p : Port) : (poweredUp s).torch p = .idle := by
  simp [State.torch, poweredUp]

@[simp] theorem State.torch_blocksReset (s : State) (p : Port) : (blocksReset s).torch p = .idle := by
  simp [State.torch]

/-- The torches as an update of the bank left them. -/
theorem State.torch_congr {s t : State} (h : t.torches = s.torches) (p : Port) : t.torch p = s.torch p := by
  simp [State.torch, h]

theorem sum_allPorts (f : Port → Nat) : (allPorts.map f).sum = ∑ p, f p := by
  simp [allPorts, Fin.sum_univ_succ]

/-- A sum over the ports after one of its terms has changed. -/
theorem sum_allPorts_changed {f g : Port → Nat} (p : Port) (h : ∀ q, q ≠ p → g q = f q) :
    (allPorts.map g).sum + f p = (allPorts.map f).sum + g p := by
  have hrest : ∑ q ∈ Finset.univ.erase p, g q = ∑ q ∈ Finset.univ.erase p, f q :=
    Finset.sum_congr rfl fun q hq => h q (Finset.ne_of_mem_erase hq)
  rw [sum_allPorts, sum_allPorts, ← Finset.add_sum_erase _ g (Finset.mem_univ p),
    ← Finset.add_sum_erase _ f (Finset.mem_univ p), hrest]
  omega

theorem load_le_sum (s : State) (p : Port) : (s.torch p).load ≤ (allPorts.map fun q => (s.torch q).load).sum :=
  List.single_le_sum (by simp) _ (List.mem_map_of_mem (mem_allPorts p))

theorem State.LoadLaw.reads {s t : State} (h : SameOn [.torches, .committed] s t) (hs : s.LoadLaw) : t.LoadLaw := by
  have hq : t.committed = s.committed := h .committed (by simp)
  have ht : t.torches = s.torches := h .torches (by simp)
  simpa only [State.LoadLaw, hq, State.torch_congr ht] using hs

theorem State.LoadLaw.setTorch {s : State} (hs : s.LoadLaw) (p : Port) (t : Torch) : (s.setTorch p t).LoadLaw := by
  have hsum := sum_allPorts_changed (f := fun q => (s.torch q).load) (g := fun q => ((s.setTorch p t).torch q).load) p
    fun q hq => by rw [State.torch_setTorch, if_neg hq.symm]
  have hle := load_le_sum s p
  simp only [State.torch_setTorch, if_true] at hsum hs ⊢
  unfold State.LoadLaw
  simp only [State.torch_setTorch]
  have hc : (s.setTorch p t).committed = s.committed + t.load - (s.torch p).load := rfl
  omega

theorem loadLaw_changesKeep : ChangesKeep State.LoadLaw where
  torch p t hs := hs.setTorch p t
  closeUp k hs := by simpa [State.LoadLaw] using hs
  queue l hs := hs.reads (by simp [SameOn, Piece.same])
  job b n _ _ hs := hs.reads (by simp [SameOn, Piece.same])
  remove b j o hs := hs.reads (by simp [SameOn, Piece.same])
  raise c n hs := hs.reads (by simp [SameOn, Piece.same])
  notify p n hs := hs.reads (by simp [SameOn, Piece.same])
  record j hs := hs.reads (by simp [SameOn, Piece.same])
  port p r hs := hs.reads (by simp [SameOn, Piece.same])
  latch h hs := hs.reads (by simp [SameOn, Piece.same])
  feeder f hs := hs.reads (by simp [SameOn, Piece.same])

/-- R101, R102, R103: a load that has come down leaves the hook, the register and the zone table changed, and then a walk
runs. -/
theorem setDown_keeps {P : State → Prop} (hops : ChangesKeep P)
    (hreads : ∀ {s t : State}, SameBut [.zones, .records, .cranes, .links] s t → P s → P t) {s : State} (hs : P s)
    (p : Port) (ox oy : Nat) (turn : Option Turn) : P (ownSetDown p ox oy turn s).1 := by
  refine byCases_keeps hs fun _ => ?_
  dsimp only
  split
  · exact hs
  · split
    · exact hops.runWalk (hreads (by simp [sameBut_iff]) hs)
    · exact hops.runWalk (hreads (by simp [sameBut_iff]) hs)

theorem liftAbort_keeps {P : State → Prop} (hops : ChangesKeep P)
    (hreads : ∀ {s t : State}, SameBut [.zones, .records, .cranes, .links] s t → P s → P t) {s : State} (hs : P s)
    (p : Port) : P (ownLiftAbort p s).1 := by
  refine byCases_keeps hs fun _ => ?_
  split
  · exact hs
  · exact hops.runWalk (hreads (by simp [sameBut_iff]) hs)

/-- R146: a HELLO changes the port and the torch that returns. -/
theorem hello_keeps {P : State → Prop} (hops : ChangesKeep P) {s : State} (hs : P s) (p : Port) (r : Option Role) :
    P (ownHello p r s).1 := by
  have honline : P (s.comeOnline p) := hops.port p _ (hops.port p _ hs)
  unfold ownHello
  split
  · exact hs
  · split
    · exact hs
    · split
      · exact honline
      · exact hs
      · split
        · exact hops.returnTorch p honline
        · exact hs

/-- Every request that may change a torch or the committed load keeps the law of the load. -/
theorem loadLaw_request {i : Instr} {p : Port} {tag : Byte} {s : State} (hi : requestOf i = some (p, tag))
    (ht : touches [.torches, .committed] i = true) (hs : s.LoadLaw) : (ownAct i s).1.LoadLaw := by
  have hops := loadLaw_changesKeep
  have hreads {s t : State} (h : SameBut [.zones, .records, .cranes, .links] s t) (hs : s.LoadLaw) : t.LoadLaw :=
    hs.reads (h.sameOn (by decide))
  cases i with
  | hello p t r => exact hello_keeps hops hs p r
  | keepalive p t => exact hs.reads (by simp [ownAct, ownKeepalive, SameOn, Piece.same])
  | jobCancel p t b n => exact hops.jobCancel b n hs
  | arcStart p t n => exact hops.arcStart p n hs
  | arcEstablished p t => exact hops.arcEstablished p hs
  | arcOff p t o => exact hops.arcOff p o hs
  | setDown p t ox oy turn => exact setDown_keeps hops hreads hs p ox oy turn
  | liftAbort p t => exact liftAbort_keeps hops hreads hs p
  | paramSet p t l => exact byCases_keeps hs fun _ => hops.reformBudget _ (hs.reads (by simp [SameOn, Piece.same]))
  | _ => first | exact absurd ht Bool.false_ne_true | cases hi

theorem loadLaw_kept : Kept [.torches, .committed] State.LoadLaw where
  apart := by decide
  reads h hs := hs.reads h
  aged {s} _ hs := by
    show s.committed = _
    simpa using hs
  frameError p hs := hs.reads (by simp [SameOn, Piece.same])
  request hi ht _ _ hs := loadLaw_request hi ht hs
  lapse _ _ hs := loadLaw_changesKeep.lapse _ hs
  feeder b _ _ hs := loadLaw_changesKeep.feederByte b hs
  timed {i s} hi ht _ hs := by
    cases i with
    | establishTimerExpiry p => exact loadLaw_changesKeep.establishExpiry p hs
    | waitTimerExpiry p => exact loadLaw_changesKeep.waitExpiry p hs
    | _ => first | exact absurd hi Bool.false_ne_true | exact absurd ht Bool.false_ne_true
  powerUp {s} _ _ := by
    refine powerUp_keeps (fun c n h => h.reads (by simp [SameOn, Piece.same]))
      (fun h => h.reads (by simp [SameOn, Piece.same])) ?_
    simp [State.LoadLaw, Torch.load, Torch.idle, poweredUp, State.torch]
  warmUp {s} _ _ := by
    refine warmUp_keeps (fun c n h => h.reads (by simp [SameOn, Piece.same]))
      (fun h => h.reads (by simp [SameOn, Piece.same])) (loadLaw_changesKeep.resetJobs ?_)
    simp [State.LoadLaw, Torch.load, Torch.idle]

/-- Settles O21. -/
theorem stepKeepsLoadLaw : Obligations.StepKeepsLoadLaw := fun _ _ hs ht => loadLaw_kept.step hs ht

end Sys2Proof.Machine
end

section
/-! The configuration stays valid (R65, R142, R143, R174). -/

namespace Sys2Proof.Machine

open Sys2Proof

/-! ## Roles and sides -/

/-- R143: at most 4 GANTRY ports and 2 CRANE ports, on different sides. -/
def validRoles (l : List (Role × Side)) : Bool :=
  decide ((l.filter fun q => decide (q.1 = .gantry)).length ≤ 4)
    && decide ((l.filter fun q => decide (q.1 = .crane)).length ≤ 2)
    && decide ((l.filter fun q => decide (q.1 = .crane)).map Prod.snd).Nodup

/-- The roles and sides in force, and those that stand after a reset. -/
def Params.inForce (ps : Params) : List (Role × Side) := ps.ports.toList.map fun q => (q.role, q.side)
def Params.next (ps : Params) : List (Role × Side) := ps.ports.toList.map fun q => (q.nextRole, q.nextSide)

theorem validInForce_eq (ps : Params) : validInForce ps = validRoles ps.inForce := by
  simp [validInForce, validRoles, Params.inForce, List.filter_map, Function.comp_def]

theorem validSet_eq (ps : Params) : validSet ps = validRoles ps.next := by
  simp [validSet, validRoles, Params.next, List.filter_map, Function.comp_def]

@[simp] theorem toList_onEach {α β : Type} {n : Nat} (f : α → β) (v : Vector α n) :
    (onEach f v).toList = v.toList.map f := rfl

theorem Params.inForce_rolesApplied (ps : Params) : ps.rolesApplied.inForce = ps.next := by
  simp [Params.inForce, Params.next, Params.rolesApplied, PortParams.applied, Function.comp_def]

theorem Params.next_rolesApplied (ps : Params) : ps.rolesApplied.next = ps.next := by
  simp [Params.next, Params.rolesApplied, PortParams.applied, PortParams.nextRole, PortParams.nextSide,
    Function.comp_def]

theorem validParams_iff {ps : Params} : validParams ps = true ↔
    validRoles ps.inForce = true ∧ validRoles ps.next = true
    ∧ (ps.ports[0].role = .planning ∧ ps.ports[0].pendingRole = none ∧ ps.ports[0].mode = .auto)
    ∧ ps.reserve ≤ ps.rating / 2 := by
  simp only [validParams, validInForce_eq, validSet_eq, planningAtP0, Bool.and_eq_true, decide_eq_true_eq, and_assoc]

theorem validParams_rateApplied {ps : Params} (h : validParams ps = true) : validParams ps.rateApplied = true := h

/-- R143, R174: a valid configuration is valid once its pending roles and sides are in force. -/
theorem validParams_rolesApplied {ps : Params} (h : validParams ps = true) : validParams ps.rolesApplied = true := by
  obtain ⟨-, hnext, ⟨hrole, hpending, hmode⟩, hreserve⟩ := validParams_iff.mp h
  refine validParams_iff.mpr ⟨?_, ?_, ?_, hreserve⟩
  · rw [Params.inForce_rolesApplied, hnext]
  · rw [Params.next_rolesApplied, hnext]
  · simp [Params.rolesApplied, PortParams.applied, PortParams.nextRole, hrole, hpending, hmode]

/-! ## A PARAM-SET (R171, R172) -/

theorem writeEntry_of_code {e : ParamEntry} {c : ParamCode} (h : paramCodeOf e.code = some c) (ps : Params) :
    writeEntry ps e = writeParam c e.index e.value ps := by
  simp [writeEntry, h]

theorem writeEntry_of_unknown {e : ParamEntry} (h : paramCodeOf e.code = none) (ps : Params) : writeEntry ps e = ps := by
  simp [writeEntry, h]

theorem takenEntry_of_code {e : ParamEntry} {c : ParamCode} (h : paramCodeOf e.code = some c) (rating : Nat) :
    takenEntry rating e = { e with value := takenValue rating c e.value } := by
  simp [takenEntry, h]

@[simp] theorem takenEntry_code (rating : Nat) (e : ParamEntry) : (takenEntry rating e).code = e.code := by
  unfold takenEntry
  split <;> rfl

@[simp] theorem takenEntry_index (rating : Nat) (e : ParamEntry) : (takenEntry rating e).index = e.index := by
  unfold takenEntry
  split <;> rfl

/-- A property that the items on a list keep is kept along it. -/
theorem foldl_keeps_of_mem {α β : Type} {P : β → Prop} {f : β → α → β} {as : List α}
    (h : ∀ s, ∀ a ∈ as, P s → P (f s a)) {s : β} (hs : P s) : P (as.foldl f s) := by
  induction as generalizing s with
  | nil => exact hs
  | cons a rest ih => exact ih (fun s a ha => h s a (List.mem_cons_of_mem _ ha)) (h s a (by simp) hs)

theorem inForce_withPort {f : PortParams → PortParams} (hf : ∀ q, (f q).role = q.role ∧ (f q).side = q.side) (i : Nat)
    (ps : Params) : (withPort i f ps).inForce = ps.inForce := by
  unfold withPort
  split_ifs with hi
  · simp only [Params.inForce, Vector.toList_set, List.map_set, hf]
    apply List.ext_getElem
    · simp
    · intro k _ _
      by_cases hk : i = k <;> simp [hk]
  · rfl

/-- R172: no entry changes a role or a side that is in force. -/
theorem inForce_writeParam (c : ParamCode) (i v : Nat) (ps : Params) : (writeParam c i v ps).inForce = ps.inForce := by
  cases c with
  | role =>
    refine inForce_withPort ?_ i ps
    exact fun q => ⟨rfl, rfl⟩
  | side =>
    refine inForce_withPort ?_ i ps
    exact fun q => ⟨rfl, rfl⟩
  | period =>
    refine inForce_withPort ?_ i ps
    exact fun q => ⟨rfl, rfl⟩
  | window =>
    refine inForce_withPort ?_ i ps
    exact fun q => ⟨rfl, rfl⟩
  | mode =>
    refine inForce_withPort ?_ i ps
    exact fun q => ⟨rfl, rfl⟩
  | _ => rfl

theorem inForce_writeEntry (ps : Params) (e : ParamEntry) : (writeEntry ps e).inForce = ps.inForce := by
  cases h : paramCodeOf e.code with
  | none => rw [writeEntry_of_unknown h]
  | some c => rw [writeEntry_of_code h, inForce_writeParam]

theorem inForce_writeEntries (l : List ParamEntry) (ps : Params) : (writeEntries l ps).inForce = ps.inForce :=
  foldl_keeps (P := fun qs : Params => qs.inForce = ps.inForce) (fun qs e h => (inForce_writeEntry qs e).trans h) _ rfl

/-- P0 of a configuration: PLANNING, no other role pending, return mode AUTO. -/
def Params.planning (ps : Params) : Prop :=
  ps.ports[0].role = .planning ∧ ps.ports[0].pendingRole = none ∧ ps.ports[0].mode = .auto

theorem planning_withPort {ps : Params} {i : Nat} {f : PortParams → PortParams} (hps : ps.planning)
    (hf : i = 0 → (f ps.ports[0]).role = ps.ports[0].role ∧ (f ps.ports[0]).pendingRole = ps.ports[0].pendingRole
      ∧ (f ps.ports[0]).mode = ps.ports[0].mode) : (withPort i f ps).planning := by
  unfold withPort
  split_ifs with hi
  · by_cases h0 : i = 0
    · subst h0
      simpa [Params.planning, hf rfl] using hps
    · simpa [Params.planning, Vector.getElem_set, h0] using hps
  · exact hps

/-- R171 cases 1 and 4: an entry within its index and value leaves P0 as it must be. -/
theorem planning_writeEntry {ps : Params} {e : ParamEntry} (hps : ps.planning) (hindex : badIndex e = false)
    (hvalue : ((paramCodeOf e.code).any fun c => badValue c e.index e.value) = false) (rating : Nat) :
    (writeEntry ps (takenEntry rating e)).planning := by
  cases h : paramCodeOf e.code with
  | none => rwa [writeEntry_of_unknown (by simpa using h)]
  | some c =>
    rw [takenEntry_of_code h, writeEntry_of_code (c := c) (by simpa using h)]
    simp only [badIndex, h, Option.any_some] at hindex hvalue
    cases c with
    | role =>
      refine planning_withPort hps fun h0 => ?_
      have h0 : e.index = 0 := h0
      simp [h0, indexRange] at hindex
    | side => exact planning_withPort hps fun _ => ⟨rfl, rfl, rfl⟩
    | period => exact planning_withPort hps fun _ => ⟨rfl, rfl, rfl⟩
    | window => exact planning_withPort hps fun _ => ⟨rfl, rfl, rfl⟩
    | mode =>
      refine planning_withPort hps fun h0 => ⟨rfl, rfl, ?_⟩
      have h0 : e.index = 0 := h0
      have hv : e.value = 0 := by
        simp only [badValue, h0, decide_true, Bool.true_and, Bool.or_eq_false_iff, decide_eq_false_iff_not,
          not_not] at hvalue
        exact hvalue.2
      simp [takenValue, hv, modeOfParam, hps.2.2]
    | _ => exact hps

/-- A number that the entries of one code write: the property of what is written last, or of what stood before. -/
theorem foldl_writeEntry_number {get : Params → Nat} {c : ParamCode} {T : Nat → Prop}
    (hget : ∀ ps e, get (writeEntry ps e) = if paramCodeOf e.code = some c then e.value else get ps) {l : List ParamEntry}
    (hl : ∀ e ∈ l, paramCodeOf e.code = some c → T e.value) {ps : Params}
    (hps : (∀ e ∈ l, paramCodeOf e.code ≠ some c) → T (get ps)) : T (get (l.foldl writeEntry ps)) := by
  induction l generalizing ps with
  | nil => exact hps (by simp)
  | cons e rest ih =>
    refine ih (fun e' he' => hl e' (List.mem_cons_of_mem _ he')) fun hrest => ?_
    rw [hget]
    split_ifs with hc
    · exact hl e (by simp) hc
    · exact hps (List.forall_mem_cons.mpr ⟨hc, hrest⟩)

theorem rating_withPort (i : Nat) (f : PortParams → PortParams) (ps : Params) :
    (withPort i f ps).rating = ps.rating ∧ (withPort i f ps).reserve = ps.reserve := by
  unfold withPort
  split_ifs <;> exact ⟨rfl, rfl⟩

theorem rating_writeEntry (ps : Params) (e : ParamEntry) :
    (writeEntry ps e).rating = if paramCodeOf e.code = some .rating then e.value else ps.rating := by
  cases h : paramCodeOf e.code with
  | none => simp [writeEntry_of_unknown h]
  | some c =>
    rw [writeEntry_of_code h]
    cases c <;> simp [writeParam, rating_withPort]

theorem reserve_writeEntry (ps : Params) (e : ParamEntry) :
    (writeEntry ps e).reserve = if paramCodeOf e.code = some .reserve then e.value else ps.reserve := by
  cases h : paramCodeOf e.code with
  | none => simp [writeEntry_of_unknown h]
  | some c =>
    rw [writeEntry_of_code h]
    cases c <;> simp [writeParam, rating_withPort]

/-- Two entries of one code with one index are one entry, where no pair of code and index stands twice. -/
theorem eq_of_code_of_nodup {l : List ParamEntry} (hl : (l.map fun e => (e.code, e.index)).Nodup) {a b : ParamEntry}
    (ha : a ∈ l) (hb : b ∈ l) (hc : a.code = b.code) (hi : a.index = b.index) : a = b :=
  List.inj_on_of_nodup_map hl ha hb (by simp [hc, hi])

/-- R170: the code of a parameter. -/
def ParamCode.code : ParamCode → Nat
  | .role => 0x01 | .side => 0x02 | .period => 0x03 | .window => 0x04 | .mode => 0x05 | .linkRate => 0x06
  | .rating => 0x07 | .reserve => 0x08 | .sagLevel => 0x09 | .sagMode => 0x0A | .establishLimit => 0x0B
  | .waitLimit => 0x0C | .minSide => 0x0D | .minArea => 0x0E | .watermark => 0x0F

theorem paramCodeOf_eq_some {n : Nat} {c : ParamCode} : paramCodeOf n = some c ↔ n = c.code := by
  constructor
  · intro h
    unfold paramCodeOf at h
    split at h <;> cases h <;> rfl
  · rintro rfl
    cases c <;> rfl

/-- R171 case 1, for a known code: the index lies in the code's range, or is the watermark's 0 that case 2 meets. -/
theorem badIndex_of_code {e : ParamEntry} {c : ParamCode} (hc : paramCodeOf e.code = some c) :
    badIndex e = false ↔ ((indexRange c).1 ≤ e.index ∧ e.index ≤ (indexRange c).2) ∨ (c = .watermark ∧ e.index = 0) := by
  simp only [badIndex, hc, Bool.and_eq_false_iff, Bool.or_eq_false_iff, Bool.not_eq_false', Bool.and_eq_true,
    decide_eq_true_eq, decide_eq_false_iff_not, not_lt]

/-- R170: an entry for the rating has index 0. -/
theorem index_of_rating {e : ParamEntry} (h : badIndex e = false) (hc : paramCodeOf e.code = some .rating) :
    e.index = 0 := by
  obtain ⟨-, hlast⟩ | ⟨hw, -⟩ := (badIndex_of_code hc).mp h
  · exact Nat.le_zero.mp hlast
  · cases hw

/-- R172: the rating that stands after an accepted request is the one its reserve is tested by. -/
theorem rating_writeEntries {l : List ParamEntry} (ps : Params) (hindex : ∀ e ∈ l, badIndex e = false)
    (hnodup : (l.map fun e => (e.code, e.index)).Nodup) : (writeEntries l ps).rating = ratingAfter l ps := by
  refine foldl_writeEntry_number (T := fun n => n = ratingAfter l ps) rating_writeEntry ?_ fun hnone => ?_
  · intro e' he' hc
    obtain ⟨e, he, rfl⟩ := List.mem_map.mp he'
    rw [takenEntry_code] at hc
    rw [takenEntry_of_code hc]
    obtain ⟨a, ha⟩ : ∃ a, (l.find? fun e => decide (paramCodeOf e.code = some .rating)) = some a :=
      Option.isSome_iff_exists.mp (List.find?_isSome.mpr ⟨e, he, by simpa using hc⟩)
    have hac : paramCodeOf a.code = some .rating := by simpa using List.find?_some ha
    have hal := List.mem_of_find?_eq_some ha
    obtain rfl : a = e := eq_of_code_of_nodup hnodup hal he (by rw [paramCodeOf_eq_some.mp hac, paramCodeOf_eq_some.mp hc])
      ((index_of_rating (hindex _ hal) hac).trans (index_of_rating (hindex _ he) hc).symm)
    simp only [ratingAfter, ha]
    rfl
  · have hfind : (l.find? fun e => decide (paramCodeOf e.code = some .rating)) = none := by
      rw [List.find?_eq_none]
      intro e he
      have := hnone _ (List.mem_map_of_mem he)
      simpa using this
    simp [ratingAfter, hfind]

/-- R65, R172: after an accepted request the reserve is at most half the rating. -/
theorem reserve_paramsAfter {l : List ParamEntry} (ps : Params) (hindex : ∀ e ∈ l, badIndex e = false)
    (hnodup : (l.map fun e => (e.code, e.index)).Nodup) : (paramsAfter l ps).reserve ≤ (paramsAfter l ps).rating / 2 := by
  dsimp only [paramsAfter]
  split_ifs with hlower
  · exact le_rfl
  · by_cases hsome : ∃ e ∈ l, paramCodeOf e.code = some .reserve
    · rw [rating_writeEntries ps hindex hnodup]
      refine foldl_writeEntry_number (T := fun n => n ≤ ratingAfter l ps / 2) reserve_writeEntry ?_ fun hnone => ?_
      · intro e' he' hc
        obtain ⟨e, he, rfl⟩ := List.mem_map.mp he'
        rw [takenEntry_code] at hc
        rw [takenEntry_of_code hc]
        exact Nat.min_le_right _ _
      · obtain ⟨e, he, hc⟩ := hsome
        exact absurd hc (by simpa using hnone _ (List.mem_map_of_mem he))
    · have hany : (l.any fun e => decide (paramCodeOf e.code = some .reserve)) = false := by
        simpa using hsome
      simpa [lowersReserve, hany] using hlower

/-- R171, R172: an accepted PARAM-SET leaves a valid configuration. -/
theorem validParams_paramsAfter {l : List ParamEntry} {s : State} (hs : validParams s.params = true)
    (hcases : firstCase (paramSetCases l s) = none) : validParams (paramsAfter l s.params) = true := by
  obtain ⟨hforce, -, hplanning, -⟩ := validParams_iff.mp hs
  simp only [paramSetCases, firstCase_eq_none, List.forall_mem_cons, Bool.or_eq_false_iff, List.any_eq_false,
    Bool.not_eq_true, Bool.not_eq_false', decide_eq_true_eq] at hcases
  obtain ⟨⟨-, hindex⟩, -, hnodup, hvalue, hset, -⟩ := hcases
  have hreserve := reserve_paramsAfter s.params hindex hnodup
  have hP0 : (writeEntries l s.params).planning := by
    refine foldl_keeps_of_mem (P := Params.planning) (fun qs e' he' hqs => ?_) hplanning
    obtain ⟨e, he, rfl⟩ := List.mem_map.mp he'
    exact planning_writeEntry hqs (hindex e he) (hvalue e he) _
  have hports : (paramsAfter l s.params).ports = (writeEntries l s.params).ports := by
    dsimp only [paramsAfter]
    split_ifs <;> rfl
  refine validParams_iff.mpr ⟨?_, ?_, ?_, hreserve⟩
  · rw [Params.inForce, hports]
    exact (congrArg validRoles (inForce_writeEntries l s.params)).trans hforce
  · rw [Params.next, hports]
    exact (validSet_eq _).symm.trans hset
  · rw [hports]
    exact hP0

/-! ## The law -/

theorem State.ConfigLaw.reads {s t : State} (h : SameOn [.params, .image] s t) (hs : s.ConfigLaw) : t.ConfigLaw := by
  have hp : t.params = s.params := h .params (by simp)
  have hi : t.image = s.image := h .image (by simp)
  simpa only [State.ConfigLaw, hp, hi] using hs

theorem validImage_afterReset {i : ImageStore} (h : validImage i = true) : validImage i.afterReset = true := by
  cases i with
  | good image => exact h
  | bad => rfl
  | writing copy => rfl

theorem validParams_default : validParams .default = true := by decide

theorem validParams_loadedConfig {i : ImageStore} (h : validImage i = true) : validParams (loadedConfig i).params = true := by
  cases i with
  | good image => exact h
  | bad => exact validParams_default
  | writing copy => exact validParams_default

theorem configLaw_kept : Kept [.params, .image] State.ConfigLaw where
  apart := by decide
  reads h hs := hs.reads h
  aged _ hs := hs
  frameError p hs := hs.reads (by simp [SameOn, Piece.same])
  request {i p tag s} hi ht _ _ hs := by
    cases i with
    | paramSet p t l =>
      refine byCases_keeps hs fun hc => ?_
      refine State.ConfigLaw.reads (s := { s with params := paramsAfter l s.params }) ?_
        ⟨validParams_paramsAfter hs.1 hc, hs.2⟩
      dsimp only [State.reformBudget]
      split_ifs <;> simp [SameOn, Piece.same]
    | configStore p t =>
      exact byCases_keeps hs fun _ => ⟨hs.1, validParams_rolesApplied (validParams_rateApplied hs.1)⟩
    | _ => first | exact absurd ht Bool.false_ne_true | cases hi
  lapse _ _ hs := hs.reads (by simp [SameOn, Piece.same])
  feeder b ht _ hs := absurd ht Bool.false_ne_true
  timed {i s} hi ht _ hs := by
    cases i with
    | storeCompletion e =>
      show (storeCompletion e s).ConfigLaw
      unfold storeCompletion
      split
      · rename_i copy hcopy
        have hvalid : validParams copy.params = true := by simpa [hcopy, validImage] using hs.2
        split_ifs
        · exact State.ConfigLaw.reads (s := { s with image := .good copy }) (by simp [SameOn, Piece.same]) ⟨hs.1, hvalid⟩
        · exact State.ConfigLaw.reads (s := { s with image := .bad }) (by simp [SameOn, Piece.same]) ⟨hs.1, rfl⟩
      · exact hs
      · exact hs
    | _ => first | exact absurd hi Bool.false_ne_true | exact absurd ht Bool.false_ne_true
  powerUp {s} _ hs :=
    powerUp_keeps (fun c n h => h.reads (by simp [SameOn, Piece.same])) (fun h => h.reads (by simp [SameOn, Piece.same]))
      ⟨validParams_loadedConfig hs.2, validImage_afterReset hs.2⟩
  warmUp {s} _ hs := by
    refine warmUp_keeps (fun c n h => h.reads (by simp [SameOn, Piece.same]))
      (fun h => h.reads (by simp [SameOn, Piece.same])) ?_
    have hb : (blocksReset s).ConfigLaw := by
      refine ⟨?_, ?_⟩
      · rw [blocksReset_params]
        split_ifs
        · exact validParams_rolesApplied (validParams_rateApplied hs.1)
        · exact validParams_rateApplied hs.1
      · rw [blocksReset_image]
        exact validImage_afterReset hs.2
    refine foldl_keeps (fun u bj hu => ?_) _ hb
    refine hu.reads ?_
    unfold resetJob
    split_ifs <;> simp [SameOn, Piece.same]

/-- Settles O28. -/
theorem stepKeepsConfigLaw : Obligations.StepKeepsConfigLaw := fun _ _ hs ht => configLaw_kept.step hs ht

end Sys2Proof.Machine
end

section
/-! The links keep their bounds, and no transmitter idles while a frame waits (R161, R163, R164). -/

namespace Sys2Proof.Machine

open Sys2Proof

/-- The bounds of one link, and that what is being sent is there; a transmitter may be idle beside a frame that waits. -/
def Link.Sound (l : Link) : Prop :=
  l.buffer.length ≤ Config.maxFrames ∧ l.notices.length ≤ Config.maxNotices
    ∧ (l.sending = .reply → l.slot ≠ none) ∧ (l.sending = .notice → l.notices ≠ [])

/-- Within a step, before the transmitters choose, every link is sound. -/
def State.LinksSound (s : State) : Prop := ∀ p, (s.link p).Sound

theorem State.LinksSound.reads {s t : State} (h : SameOn [.links] s t) (hs : s.LinksSound) : t.LinksSound := by
  have hl : t.links = s.links := h .links (by simp)
  simpa only [State.LinksSound, State.link, hl] using hs

theorem State.LinksSound.setLink {s : State} (hs : s.LinksSound) (p : Port) {l : Link} (hl : l.Sound) :
    (s.setLink p l).LinksSound := by
  intro q
  rw [State.link_setLink]
  split_ifs
  · exact hl
  · exact hs q

theorem Link.Sound.offer {l : Link} (h : l.Sound) (n : Notice) : (l.offer n).Sound := by
  obtain ⟨hb, hn, hr, ht⟩ := h
  obtain ⟨hroom, he⟩ | ⟨-, he⟩ := l.offer_cases n
  · rw [he]
    exact ⟨hb, by simpa using hroom, hr, fun _ => by simp⟩
  · rw [he]
    exact ⟨hb, hn, hr, ht⟩

theorem Link.Sound.answer {l : Link} (h : l.Sound) (tag : Byte) (a : Answer) : (l.answer tag a).Sound := by
  obtain ⟨hb, hn, -, ht⟩ := h
  exact ⟨hb, hn, fun _ => by simp [Link.answer], ht⟩

/-- R163: a transmitter that has chosen is sound, and is idle only where nothing waits. -/
theorem Link.Sound.choose {l : Link} (h : l.Sound) :
    l.choose.Sound ∧ (l.choose.sending = .idle → l.choose.slot = none ∧ l.choose.notices = []) := by
  obtain ⟨hb, hn, hr, ht⟩ := h
  unfold Link.choose
  split
  · split_ifs with hreply hnotice
    · exact ⟨⟨hb, hn, fun _ => by simp_all [Option.isSome_iff_ne_none], by simp⟩, by simp⟩
    · exact ⟨⟨hb, hn, by simp, fun _ => by simpa using hnotice⟩, by simp⟩
    · refine ⟨⟨hb, hn, hr, ht⟩, fun _ => ?_⟩
      simp_all
  · rename_i hbusy
    exact ⟨⟨hb, hn, hr, ht⟩, fun hidle => absurd hidle hbusy⟩

theorem State.LinksSound.settle {s : State} (hs : s.LinksSound) : s.settle.LinkLaw := by
  intro p
  rw [State.link_settle]
  obtain ⟨⟨hb, hn, hr, ht⟩, hidle⟩ := (hs p).choose
  exact ⟨hb, hn, hr, ht, hidle⟩

theorem State.LinkLaw.sound {s : State} (hs : s.LinkLaw) : s.LinksSound := by
  intro p
  obtain ⟨hb, hn, hr, ht, -⟩ := hs p
  exact ⟨hb, hn, hr, ht⟩

theorem State.LinksSound.notify {s : State} (hs : s.LinksSound) (p : Port) (n : Notice) : (s.notify p n).LinksSound :=
  hs.setLink p ((hs p).offer n)

/-- R96: of the links, a granted lift changes what its notice does. -/
theorem State.links_grantLift (s : State) (p : Port) (r : Plate) (z : Nat) :
    (s.grantLift p r z).links = (s.reportMove p .lifted r.id z (.corridor (s.liftCorridor r z))).links := by
  simp [State.grantLift, State.reportMove, State.notify, State.setLink, State.link]

/-! ## What the owners do to the links -/

/-- A property of the links that a notice keeps. -/
structure NoticesKeep (P : State → Prop) : Prop where
  reads : ∀ {s t}, SameOn [.links] s t → P s → P t
  notify : ∀ {s} p n, P s → P (s.notify p n)

namespace NoticesKeep

variable {P : State → Prop} {s : State} (h : NoticesKeep P)
include h

theorem raise (c : AlertCode) (n : Nat) (hs : P s) : P (s.raise c n) := by
  obtain ⟨-, he⟩ | ⟨-, -, he⟩ | ⟨-, -, he⟩ := s.raise_cases c n
  · rw [he]
    exact hs
  · rw [he]
    exact h.notify 0 _ (h.reads (s := s) (by simp [SameOn, Piece.same]) hs)
  · rw [he]
    exact h.reads (by simp [SameOn, Piece.same]) hs

theorem push (b : Nat) (r : LogRecord) (hs : P s) : P (s.push b r) := by
  have hlog (l : CompletionLog) : P (s.setLog b l) := h.reads (by simp [SameOn, Piece.same]) hs
  obtain ⟨-, he | he⟩ | ⟨-, he⟩ := s.push_cases b r
  · exact he ▸ hlog _
  · exact he ▸ h.raise _ _ (hlog _)
  · exact he ▸ h.raise _ _ (hlog _)

/-- So the changes of a torch, a job, an alert and a log keep it. -/
theorem changes : ChangesKeep P where
  torch p t hs := h.reads (by simp [SameOn, Piece.same]) hs
  closeUp k hs := h.reads (by simp [SameOn, Piece.same]) hs
  queue l hs := h.reads (by simp [SameOn, Piece.same]) hs
  job b n _ _ hs := h.reads (by simp [SameOn, Piece.same]) hs
  remove b j o hs := h.reads (by simp [State.removeJob, SameOn, Piece.same]) (h.push b (j.logRecord o) hs)
  raise c n hs := h.raise c n hs
  notify p n hs := h.notify p n hs
  record j hs := h.reads (by simp [SameOn, Piece.same]) hs
  port p r hs := h.reads (by simp [SameOn, Piece.same]) hs
  latch l hs := h.reads (by simp [SameOn, Piece.same]) hs
  feeder f hs := h.reads (by simp [SameOn, Piece.same]) hs

theorem staleBindings (z : Nat) (hs : P s) : P (s.staleBindings z) := by
  refine foldl_keeps (fun u p hu => ?_) _ hs
  dsimp only [State.staleBinding]
  split_ifs
  · exact h.notify p _ (h.reads (by simp [SameOn, Piece.same]) hu)
  · exact hu

/-- R161: what the owner of a request sends are notices, so such a property is kept. -/
theorem own (i : Instr) (hs : P s) : P (ownAct i s).1 := by
  have hops := h.changes
  cases hn : notifies i with
  | false => exact h.reads ((ownAct_sameBut_own i s).sameOn (by simp [ownChanges, hn])) hs
  | true =>
    cases i with
    | zoneSet p t w =>
      refine byCases_keeps hs fun _ => ?_
      dsimp only
      have hz (e : Zone) (old new : ZoneKind) : P ((s.setZone w.zone e).remakeBed w.zone old new) :=
        h.reads (by simp [SameOn, Piece.same]) hs
      exact h.staleBindings w.zone (hz _ _ _)
    | zoneService p t z f =>
      refine byCases_keeps hs fun _ => ?_
      have hz (e : Zone) : P (s.setZone z e) := h.reads (by simp [SameOn, Piece.same]) hs
      dsimp only
      split
      · exact h.staleBindings z (hz _)
      · exact hz _
    | jobCancel p t b n => exact hops.jobCancel b n hs
    | arcStart p t n => exact hops.arcStart p n hs
    | arcEstablished p t => exact hops.arcEstablished p hs
    | arcOff p t o => exact hops.arcOff p o hs
    | lift p t id z =>
      refine byCases_keeps hs fun _ => ?_
      split
      · exact hs
      · rename_i r _
        refine h.reads (s := s.reportMove p .lifted r.id z (.corridor (s.liftCorridor r z))) ?_ (h.notify 0 _ hs)
        simp [SameOn, Piece.same, State.links_grantLift]
    | retarget p t z =>
      refine byCases_keeps hs fun _ => ?_
      have hr : P (s.retarget p z) := h.reads (by simp [SameOn, Piece.same]) hs
      exact h.notify 0 _ hr
    | setDown p t ox oy turn =>
      refine byCases_keeps hs fun _ => ?_
      dsimp only
      split
      · exact hs
      · split
        · exact hops.runWalk (h.notify 0 _ (h.reads (s := s) (by simp [SameOn, Piece.same]) hs))
        · exact hops.runWalk (h.notify 0 _ (h.reads (s := s) (by simp [SameOn, Piece.same]) hs))
    | liftAbort p t =>
      refine byCases_keeps hs fun _ => ?_
      split
      · exact hs
      · exact hops.runWalk (h.notify 0 _ (h.reads (s := s) (by simp [SameOn, Piece.same]) hs))
    | paramSet p t l =>
      have hset : P { s with params := paramsAfter l s.params } := h.reads (by simp [SameOn, Piece.same]) hs
      exact byCases_keeps hs fun _ => hops.reformBudget _ hset
    | _ => exact absurd hn Bool.false_ne_true

end NoticesKeep

theorem linksSound_noticesKeep : NoticesKeep State.LinksSound := ⟨fun h hs => hs.reads h, fun p n hs => hs.notify p n⟩

theorem linksSound_changesKeep : ChangesKeep State.LinksSound := linksSound_noticesKeep.changes

theorem State.LinksSound.raise {s : State} (hs : s.LinksSound) (c : AlertCode) (n : Nat) : (s.raise c n).LinksSound :=
  linksSound_noticesKeep.raise c n hs

theorem State.LinksSound.reply {s : State} (hs : s.LinksSound) (p : Port) (tag : Byte) (a : Answer) :
    (s.reply p tag a).LinksSound := hs.setLink p ((hs p).answer tag a)

theorem State.LinksSound.serve {s : State} (hs : s.LinksSound) (i : Instr) : (serve i s).LinksSound := by
  cases hi : requestOf i with
  | none => exact (serve_of_event hi s).symm ▸ hs
  | some pt =>
    obtain ⟨st, -, h⟩ | ⟨-, h⟩ | ⟨-, -, -, h⟩ := serve_cases hi s
    · exact h ▸ hs.reply _ _ _
    · exact h ▸ (linksSound_noticesKeep.own i hs).reply _ _ _
    · exact h ▸ linksSound_changesKeep.lapse _ (hs.reply _ _ _)

theorem State.LinksSound.offerFrame {s : State} (hs : s.LinksSound) (p : Port) (f : Frame) :
    (s.offerFrame p f).LinksSound := by
  unfold State.offerFrame
  split_ifs with hroom
  · obtain ⟨-, hn, hr, ht⟩ := hs p
    exact hs.setLink p ⟨by simpa using hroom, hn, hr, ht⟩
  · exact hs.reads (by simp [SameOn, Piece.same])

theorem State.LinksSound.linkByte {s : State} (hs : s.LinksSound) (p : Port) (b : LineByte) :
    (linkByte p s b).LinksSound := by
  have hr : (s.setLink p { s.link p with receiver := (rxByte (s.link p).receiver b).1 }).LinksSound := hs.setLink p (hs p)
  dsimp only [Machine.linkByte]
  split
  · exact hr
  · exact hr.reads (by simp [SameOn, Piece.same])
  · exact hr.offerFrame p _

theorem State.LinksSound.takeFrame {s : State} (hs : s.LinksSound) (p : Port) : (takeFrame p s).LinksSound := by
  unfold Machine.takeFrame
  split
  · rename_i f rest _ hbuffer
    obtain ⟨hb, hn, hr, ht⟩ := hs p
    have hrest : (s.setLink p { s.link p with buffer := rest }).LinksSound :=
      hs.setLink p ⟨by rw [hbuffer] at hb; exact (Nat.le_succ _).trans hb, hn, hr, ht⟩
    unfold serveFrame
    split
    · exact hrest.serve _
    · exact hrest.reply _ _ _
    · exact hrest.reply _ _ _
  · exact hs

/-- R161: a frame that has been sent has left its place, and its transmitter is idle. -/
theorem State.LinksSound.frameSent {s : State} (hs : s.LinksSound) (p : Port) : (frameSent p s).LinksSound := by
  obtain ⟨hb, hn, -, -⟩ := hs p
  dsimp only [Machine.frameSent, State.replySent]
  split
  · exact hs
  · have hl : (s.setLink p { s.link p with slot := none, sending := .idle, lastSent := .reply }).LinksSound :=
      hs.setLink p ⟨hb, hn, by simp, by simp⟩
    split_ifs
    · exact hl
    · exact hl
  · exact hs.setLink p ⟨hb, by simpa using Nat.le_add_right_of_le hn, by simp, by simp⟩

theorem State.LinksSound.event {s : State} (hs : s.LinksSound) {i : Instr} (hr : isReset i = false) :
    (eventAct i s).LinksSound := by
  have hops := linksSound_changesKeep
  cases i with
  | frameReceived p bytes => exact foldl_keeps (fun _ b hu => hu.linkByte p b) bytes hs
  | frameTake p => exact hs.takeFrame p
  | frameSent p => exact hs.frameSent p
  | feederReading bytes => exact foldl_keeps (fun _ b hu => hops.feederByte b hu) bytes hs
  | stalenessTimerExpiry => exact hops.stalenessExpiry hs
  | establishTimerExpiry p => exact hops.establishExpiry p hs
  | waitTimerExpiry p => exact hops.waitExpiry p hs
  | overdueTimerExpiry b n => exact hops.overdueExpiry b n hs
  | holdTimerExpiry id =>
    show (holdExpiry id s).LinksSound
    unfold holdExpiry
    split_ifs
    · exact State.LinksSound.notify (hs.reads (by simp [SameOn, Piece.same])) 0 _
    · exact hs
  | keepaliveTimerExpiry p =>
    show (keepaliveExpiry p s).LinksSound
    unfold keepaliveExpiry
    split_ifs
    · exact hops.lapse p hs
    · exact hs
  | storeCompletion e =>
    show (storeCompletion e s).LinksSound
    unfold storeCompletion
    split
    · split_ifs
      · exact State.LinksSound.notify (hs.reads (by simp [SameOn, Piece.same])) 0 _
      · exact State.LinksSound.raise (hs.reads (by simp [SameOn, Piece.same])) _ _
    · exact hs
    · exact hs
  | resetHold k => exact absurd hr.symm Bool.false_ne_true
  | restartResetBegin => exact absurd hr.symm Bool.false_ne_true
  | powerStartUp => exact absurd hr.symm Bool.false_ne_true
  | resetRelease k => exact absurd hr.symm Bool.false_ne_true
  | _ => exact hs

theorem State.LinkLaw.reads {s t : State} (h : SameOn [.links] s t) (hs : s.LinkLaw) : t.LinkLaw := by
  have hl : t.links = s.links := h .links (by simp)
  simpa only [State.LinkLaw, State.link, hl] using hs

/-- The links after a reset, before the alerts it raises. -/
theorem linksSound_afterReset {s : State} (h : s.links = Vector.replicate 6 .afterReset) : s.LinksSound := by
  intro p
  simp [State.link, h, Link.Sound, Link.afterReset]

theorem State.LinkLaw.endHolds {s : State} (hs : s.LinkLaw) (left : Causes) : (s.endHolds left).LinkLaw := by
  obtain ⟨-, h⟩ | ⟨-, -, h⟩ | ⟨-, -, h⟩ := s.endHolds_cases left
  · exact h ▸ hs
  · rw [h, powerUp_eq]
    refine State.LinksSound.settle ?_
    split_ifs
    · exact (linksSound_afterReset rfl).raise _ _
    · exact linksSound_afterReset rfl
  · have hjobs : (blocksReset s).resetJobs.LinksSound :=
      linksSound_changesKeep.resetJobs (linksSound_afterReset (blocksReset_links s))
    rw [h, warmUp_eq]
    refine State.LinksSound.settle ?_
    split_ifs
    · exact hjobs.raise _ _
    · exact hjobs

theorem State.LinkLaw.reset {s : State} (hs : s.LinkLaw) {i : Instr} (hr : isReset i = true) :
    (eventAct i s).LinkLaw := by
  have htaken : s.restartTaken.LinkLaw := hs.reads ((restartTaken_sameBut s).sameOn (by decide))
  cases i with
  | resetHold k => exact hs.reads ((holdReset_sameBut k s).sameOn (by decide))
  | restartResetBegin =>
    show (beginRestart s).LinkLaw
    unfold beginRestart
    split_ifs
    · exact htaken.endHolds _
    · exact hs
  | powerStartUp =>
    show (powerStartUp s).LinkLaw
    unfold powerStartUp
    split_ifs
    · exact hs.endHolds _
    · exact hs
  | resetRelease k =>
    show (releaseReset k s).LinkLaw
    unfold releaseReset
    split_ifs
    · exact hs.endHolds _
    · exact hs
  | _ => exact absurd hr Bool.false_ne_true

theorem State.LinkLaw.exec {s t : State} (hs : s.LinkLaw) {i : Instr} (he : exec i s = .next t) : t.LinkLaw := by
  cases hi : requestOf i with
  | some pt =>
    obtain rfl := Host.Outcome.next.inj ((exec_of_request hi s).symm.trans he)
    split_ifs
    · exact hs
    · exact (hs.sound.serve i).settle
    · exact (hs.sound.offerFrame _ _).settle
  | none =>
    cases hr : isReset i with
    | true =>
      obtain rfl := Host.Outcome.next.inj ((exec_of_reset hr s).symm.trans he)
      exact hs.reset hr
    | false =>
      obtain rfl := Host.Outcome.next.inj ((exec_of_event hi hr s).symm.trans he)
      split_ifs
      · exact hs
      · exact (hs.sound.event hr).settle

/-- Settles O20: within a step the links are sound, and the choice at its end leaves no transmitter idle beside a frame. -/
theorem stepKeepsLinkLaw : Obligations.StepKeepsLinkLaw := by
  intro s t hs ht
  unfold step at ht
  split at ht
  · obtain rfl := Host.Outcome.next.inj ht
    unfold tick
    split_ifs
    · exact hs
    · exact hs
  · rename_i rest _
    exact State.LinkLaw.exec (s := { s with pending := rest }) hs ht

end Sys2Proof.Machine
end

section
/-! What can happen to the torches and the start queue but for a start that begins to wait: moves of one torch, each of which keeps
the queue's law and the law of the numbers (R61, R62, R72). -/

namespace Sys2Proof.Machine

open Sys2Proof

/-! ## Moves of one torch -/

/-- A torch that does not start to wait goes on by one of these moves; nothing is said of the rest of the state. -/
inductive TorchMove (s t : State) : Prop
  /-- No torch changes. -/
  | rest (htorch : ∀ q, t.torch q = s.torch q) (hqueue : t.startQueue = s.startQueue)
  /-- R72: an entry of the queue is taken into the budget. -/
  | start (p : Port) (t' : Torch) (hp : p ∈ s.startQueue) (hstate : t'.state = .starting) (hseq : t'.seq = s.litCount + 1)
      (htorch : ∀ q, t.torch q = if p = q then t' else s.torch q)
      (hqueue : t.startQueue = s.startQueue.filter fun q => decide (q ≠ p))
  /-- R75: a STARTING torch burns. -/
  | burn (p : Port) (t' : Torch) (hp : (s.torch p).state = .starting) (hstate : t'.state = .burning)
      (hseq : t'.seq = (s.torch p).seq) (htorch : ∀ q, t.torch q = if p = q then t' else s.torch q)
      (hqueue : t.startQueue = s.startQueue)
  /-- R62: a lit torch goes out and its number is given up. -/
  | out (p : Port) (t' : Torch) (hp : (s.torch p).state.lit = true) (hstate : t'.state = .idle ∨ t'.state = .dropped)
      (hseq : t'.seq = 0)
      (htorch : ∀ q, t.torch q = (if p = q then t' else s.torch q).closedUp (s.torch p).seq)
      (hqueue : t.startQueue = s.startQueue)
  /-- R72: a torch leaves the queue and no longer waits. -/
  | quit (p : Port) (t' : Torch) (hp : (s.torch p).state = .waiting) (hstate : t'.state = .idle ∨ t'.state = .dropped)
      (hseq : t'.seq = 0) (htorch : ∀ q, t.torch q = if p = q then t' else s.torch q)
      (hqueue : t.startQueue = s.startQueue.filter fun q => decide (q ≠ p))
  /-- R76, R146: a DROPPED torch becomes IDLE. -/
  | clear (p : Port) (hp : (s.torch p).state = .dropped) (htorch : ∀ q, t.torch q = if p = q then .idle else s.torch q)
      (hqueue : t.startQueue = s.startQueue)

/-- A chain of moves. -/
abbrev TorchMoves := Relation.ReflTransGen TorchMove

theorem TorchMove.of_same {s t : State} (h : SameOn [.torches, .startQueue] s t) : TorchMove s t :=
  .rest (State.torch_congr (h .torches (by simp))) (h .startQueue (by simp))

theorem TorchMoves.of_same {s t : State} (h : SameOn [.torches, .startQueue] s t) : TorchMoves s t :=
  .single (.of_same h)

/-! ## The queue's law -/

theorem State.QueueLaw.mem_iff {s : State} (h : s.QueueLaw) {p : Port} :
    p ∈ s.startQueue ↔ (s.torch p).state = .waiting := h.2 p

theorem TorchState.lit_iff {x : TorchState} : x.lit = true ↔ x = .starting ∨ x = .burning := by
  cases x <;> simp [TorchState.lit]

theorem TorchMove.queueLaw {s t : State} (h : TorchMove s t) (hs : s.QueueLaw) : t.QueueLaw := by
  obtain ⟨hnodup, hmem⟩ := hs
  cases h with
  | rest htorch hqueue => exact ⟨hqueue ▸ hnodup, fun q => by rw [hqueue, htorch, hmem]⟩
  | start p t' hp hstate _ htorch hqueue =>
    refine ⟨hqueue ▸ hnodup.filter _, fun q => ?_⟩
    rw [hqueue, htorch]
    by_cases hq : p = q
    · subst hq
      simp [hstate]
    · simp [hq, hmem, eq_comm]
  | burn p t' hp hstate _ htorch hqueue =>
    refine ⟨hqueue ▸ hnodup, fun q => ?_⟩
    rw [hqueue, htorch, hmem]
    by_cases hq : p = q <;> simp_all
  | out p t' hp hstate _ htorch hqueue =>
    refine ⟨hqueue ▸ hnodup, fun q => ?_⟩
    rw [hqueue, htorch, hmem, Torch.closedUp_state]
    by_cases hq : p = q
    · subst hq
      obtain h1 | h1 := TorchState.lit_iff.mp hp <;> obtain h2 | h2 := hstate <;> simp [h1, h2]
    · simp [hq]
  | quit p t' hp hstate _ htorch hqueue =>
    refine ⟨hqueue ▸ hnodup.filter _, fun q => ?_⟩
    rw [hqueue, htorch]
    by_cases hq : p = q
    · subst hq
      obtain h2 | h2 := hstate <;> simp [h2]
    · simp [hq, hmem, eq_comm]
  | clear p hp htorch hqueue =>
    refine ⟨hqueue ▸ hnodup, fun q => ?_⟩
    rw [hqueue, htorch, hmem]
    by_cases hq : p = q
    · subst hq
      simp [hp, Torch.idle]
    · simp [hq]

theorem TorchMoves.queueLaw {s t : State} (h : TorchMoves s t) (hs : s.QueueLaw) : t.QueueLaw := by
  induction h with
  | refl => exact hs
  | tail _ hm ih => exact hm.queueLaw ih

/-! ## The numbers of the lit torches -/

theorem State.litCount_eq (s : State) :
    s.litCount = (allPorts.map fun p => if (s.torch p).state.lit = true then 1 else 0).sum := by
  unfold State.litCount
  generalize allPorts = l
  induction l with
  | nil => rfl
  | cons p rest ih =>
    by_cases h : (s.torch p).state.lit = true
    · simp [h, ih, Nat.add_comm]
    · simp [h, ih]

/-- The count of lit torches after one torch has changed. -/
theorem State.litCount_changed {s t : State} (p : Port)
    (h : ∀ q, q ≠ p → (t.torch q).state.lit = (s.torch q).state.lit) :
    t.litCount + (if (s.torch p).state.lit = true then 1 else 0)
      = s.litCount + (if (t.torch p).state.lit = true then 1 else 0) := by
  rw [State.litCount_eq, State.litCount_eq]
  exact sum_allPorts_changed (f := fun q => if (s.torch q).state.lit = true then 1 else 0)
    (g := fun q => if (t.torch q).state.lit = true then 1 else 0) p fun q hq => by simp only [h q hq]

/-- A torch that has no number is not lit. -/
theorem State.NumberLaw.seq_eq_zero {s : State} (h : s.NumberLaw) {p : Port} (hp : (s.torch p).state.lit = false) :
    (s.torch p).seq = 0 := by
  have := (h.1 p).1
  simp only [hp, Bool.false_eq_true, false_iff, not_le] at this
  omega

/-- The law of the numbers reads the lit torches and their numbers. -/
theorem State.NumberLaw.congr {s t : State} (hs : s.NumberLaw)
    (h : ∀ q, (t.torch q).state.lit = (s.torch q).state.lit ∧ (t.torch q).seq = (s.torch q).seq) : t.NumberLaw := by
  have hcount : t.litCount = s.litCount := by simp [State.litCount, h]
  refine ⟨fun p => ?_, fun p q hp hpq => ?_⟩
  · rw [(h p).1, (h p).2, hcount]
    exact hs.1 p
  · rw [(h p).1] at hp
    rw [(h p).2, (h q).2] at hpq
    exact hs.2 p q hp hpq

/-- R62: a torch that is lit anew takes the next number. -/
theorem State.NumberLaw.lit {s t : State} (hs : s.NumberLaw) {p : Port} {t' : Torch}
    (hp : (s.torch p).state.lit = false) (hlit : t'.state.lit = true) (hseq : t'.seq = s.litCount + 1)
    (htorch : ∀ q, t.torch q = if p = q then t' else s.torch q) : t.NumberLaw := by
  have hother (q : Port) (hq : q ≠ p) : t.torch q = s.torch q := by rw [htorch, if_neg hq.symm]
  have hself : t.torch p = t' := by rw [htorch, if_pos rfl]
  have hcount : t.litCount = s.litCount + 1 := by
    have := State.litCount_changed (s := s) (t := t) p fun q hq => by rw [hother q hq]
    simpa [hp, hself, hlit] using this
  refine ⟨fun q => ?_, fun q r hq hqr => ?_⟩
  · by_cases hqp : q = p
    · subst hqp
      rw [hself, hlit, hseq, hcount]
      simp
    · rw [hother q hqp, hcount]
      exact ⟨(hs.1 q).1, (hs.1 q).2.trans (Nat.le_succ _)⟩
  · by_cases hqp : q = p <;> by_cases hrp : r = p
    · rw [hqp, hrp]
    · rw [hqp, hself, hseq, hother r hrp] at hqr
      have := (hs.1 r).2
      omega
    · rw [hrp, hself, hseq, hother q hqp] at hqr
      have := (hs.1 q).2
      omega
    · rw [hother q hqp] at hq hqr
      rw [hother r hrp] at hqr
      exact hs.2 q r hq hqr

/-- R62: a torch that goes out gives its number up, and the higher ones close up. -/
theorem State.NumberLaw.out {s t : State} (hs : s.NumberLaw) {p : Port} {t' : Torch}
    (hp : (s.torch p).state.lit = true) (hlit : t'.state.lit = false) (hseq : t'.seq = 0)
    (htorch : ∀ q, t.torch q = (if p = q then t' else s.torch q).closedUp (s.torch p).seq) : t.NumberLaw := by
  have hself : (t.torch p).state.lit = false ∧ (t.torch p).seq = 0 := by
    rw [htorch, if_pos rfl, Torch.closedUp_state]
    exact ⟨hlit, by simp [Torch.closedUp, hseq]⟩
  have hother (q : Port) (hq : q ≠ p) : (t.torch q).state = (s.torch q).state
      ∧ (t.torch q).seq = if (s.torch p).seq < (s.torch q).seq then (s.torch q).seq - 1 else (s.torch q).seq := by
    rw [htorch, if_neg hq.symm, Torch.closedUp_state]
    refine ⟨rfl, ?_⟩
    unfold Torch.closedUp
    split_ifs <;> rfl
  have hcount : t.litCount + 1 = s.litCount := by
    have := State.litCount_changed (s := s) (t := t) p fun q hq => by rw [(hother q hq).1]
    simpa [hp, hself.1] using this
  have hone : 1 ≤ (s.torch p).seq := (hs.1 p).1.mp hp
  have hne (q : Port) (hq : q ≠ p) : (s.torch q).seq ≠ (s.torch p).seq := fun h => hq (hs.2 p q hp h.symm).symm
  refine ⟨fun q => ?_, fun q r hq hqr => ?_⟩
  · by_cases hqp : q = p
    · subst hqp
      simp [hself.1, hself.2]
    · obtain ⟨hst, hsq⟩ := hother q hqp
      obtain ⟨hiff, hle⟩ := hs.1 q
      have hple := (hs.1 p).2
      have := hne q hqp
      rw [hst, hsq, hiff]
      split_ifs <;> constructor <;> omega
  · by_cases hqp : q = p
    · rw [hqp, hself.1] at hq
      exact absurd hq Bool.false_ne_true
    · obtain ⟨hst, hsq⟩ := hother q hqp
      rw [hst] at hq
      have hq1 := (hs.1 q).1.mp hq
      have := hne q hqp
      by_cases hrp : r = p
      · rw [hrp, hself.2, hsq] at hqr
        split_ifs at hqr <;> omega
      · obtain ⟨-, hsr⟩ := hother r hrp
        have := hne r hrp
        refine hs.2 q r hq ?_
        rw [hsq, hsr] at hqr
        split_ifs at hqr <;> omega

theorem TorchMove.numberLaw {s t : State} (h : TorchMove s t) (hq : s.QueueLaw) (hs : s.NumberLaw) : t.NumberLaw := by
  have hstill {p : Port} {t' : Torch} (hp : (s.torch p).state.lit = false) (hlit : t'.state.lit = false)
      (hseq : t'.seq = 0) (htorch : ∀ q, t.torch q = if p = q then t' else s.torch q) : t.NumberLaw :=
    hs.congr fun q => by
      rw [htorch]
      split_ifs with hpq
      · exact hpq ▸ ⟨hlit.trans hp.symm, hseq.trans (hs.seq_eq_zero hp).symm⟩
      · exact ⟨rfl, rfl⟩
  have hdark {x : TorchState} (hx : x = .idle ∨ x = .dropped) : x.lit = false := by
    obtain rfl | rfl := hx <;> rfl
  cases h with
  | rest htorch _ => exact hs.congr fun q => by simp [htorch]
  | start p t' hp hstate hseq htorch _ =>
    exact hs.lit (by rw [hq.mem_iff.mp hp]; rfl) (by rw [hstate]; rfl) hseq htorch
  | burn p t' hp hstate hseq htorch _ =>
    refine hs.congr fun q => ?_
    rw [htorch]
    split_ifs with hpq
    · subst hpq
      exact ⟨by rw [hp, hstate]; rfl, hseq⟩
    · exact ⟨rfl, rfl⟩
  | out p t' hp hstate hseq htorch _ => exact hs.out hp (hdark hstate) hseq htorch
  | quit p t' hp hstate hseq htorch _ => exact hstill (by rw [hp]; rfl) (hdark hstate) hseq htorch
  | clear p hp htorch _ => exact hstill (by rw [hp]; rfl) rfl rfl htorch

theorem TorchMoves.numberLaw {s t : State} (h : TorchMoves s t) (hq : s.QueueLaw) (hs : s.NumberLaw) : t.NumberLaw := by
  have hboth : t.QueueLaw ∧ t.NumberLaw := by
    induction h with
    | refl => exact ⟨hq, hs⟩
    | tail _ hm ih => exact ⟨hm.queueLaw ih.1, hm.numberLaw ih.1 ih.2⟩
  exact hboth.2

end Sys2Proof.Machine
end

section
/-! The acts on torches and jobs as chains of small moves. A law is kept by all of them as soon as each move keeps it. -/

namespace Sys2Proof.Machine

open Sys2Proof

/-! ## The moves -/

/-- The pieces that the moves are made of. -/
def arcPieces : List Piece := [.zones, .bindings, .tables, .torches, .startQueue, .cranes]

/-- The torch serves no job. -/
def State.Dark (s : State) (p : Port) : Prop := (s.torch p).state = .idle ∨ (s.torch p).state = .dropped

/-- The torch has gone out, or has ceased to wait. -/
def Torch.Gone (t : Torch) : Prop := (t.state = .idle ∨ t.state = .dropped) ∧ t.seq = 0

/-- The change leaves what the law of the arcs reads of a job. -/
def KeepsArc (f : Job → Job) : Prop :=
  ∀ j, (f j).number = j.number ∧ (f j).arrival = j.arrival ∧ (f j).state = j.state ∧ (f j).taker = j.taker

/-- A torch or a job goes on by one move, and nothing else of the pieces above changes. -/
inductive ArcMove : State → State → Prop
  | same {s t : State} (h : SameOn arcPieces s t) : ArcMove s t
  /-- R72. -/
  | start {s : State} (own : Option Port) (p : Port) (hp : p ∈ s.startQueue)
      (hclear : s.underCorridor (s.torchBed (s.torch p)) = false) : ArcMove s (s.admitTorch own p)
  /-- R75. -/
  | burn {s : State} (p : Port) (hp : (s.torch p).state = .starting) : ArcMove s (s.establish p)
  /-- R61: a lit torch goes out. -/
  | out {s : State} (p : Port) (t' : Torch) (hp : (s.torch p).state.lit = true) (ht : t'.Gone) : ArcMove s (s.leaveTorch p t')
  /-- R72: a torch leaves the queue. -/
  | quit {s : State} (p : Port) (t' : Torch) (hp : (s.torch p).state = .waiting) (ht : t'.Gone) :
      ArcMove s ((s.unqueue p).leaveTorch p t')
  /-- R76, R146. -/
  | clear {s : State} (p : Port) (hp : (s.torch p).state = .dropped) : ArcMove s (s.idleTorch p)
  | mark {s : State} (b n : Nat) {f : Job → Job} (hf : KeepsArc f) : ArcMove s (s.setJob b n f)
  /-- R51, R52: the job of a port whose torch serves no job is HELD. -/
  | hold {s : State} {p : Port} {b : Nat} {j : Job} (d : Nat) (hj : s.heldJob p = some (b, j)) (hp : s.Dark p) :
      ArcMove s (s.setJob b j.number (Job.toHeld d))
  /-- R50, R51: the job of a port whose torch serves no job leaves its table. -/
  | gone {s : State} {p : Port} {b : Nat} {j : Job} (j' : Job) (o : Completion) (hj : s.heldJob p = some (b, j))
      (hp : s.Dark p) (hn : j'.number = j.number) : ArcMove s (s.removeJob b j' o)
  /-- R53: a job that no port holds leaves its table. -/
  | remove {s : State} {b n : Nat} {j : Job} (o : Completion) (hj : s.job b n = some j)
      (hidle : j.state.active = true → j.taker = none) : ArcMove s (s.removeJob b j o)
  /-- R53: a TAKEN job leaves its table, and its torch does not wait for it. -/
  | withdraw {s : State} {q : Port} {b n : Nat} {j : Job} (o : Completion) (hj : s.job b n = some j)
      (hstate : j.state = .taken) (htaker : j.taker = some q) (hq : (s.torch q).state ≠ .waiting) : ArcMove s (s.removeJob b j o)
  /-- R53: a TAKEN job leaves its table, and the start that waits for it leaves the queue. -/
  | withdrawStart {s : State} {q : Port} {b n : Nat} {j : Job} (o : Completion) (hj : s.job b n = some j)
      (hstate : j.state = .taken) (htaker : j.taker = some q) (hq : (s.torch q).state = .waiting) :
      ArcMove s (((s.removeJob b j o).unqueue q).idleTorch q)

/-- A chain of moves. -/
abbrev ArcMoves := Relation.ReflTransGen ArcMove

theorem ArcMoves.of_same {s t : State} (h : SameOn arcPieces s t) : ArcMoves s t := .single (.same h)

/-- A law that the moves keep is kept by a chain. -/
theorem ArcMoves.keeps {P : State → Prop} (h : ∀ {s t}, ArcMove s t → P s → P t) {s t : State} (hm : ArcMoves s t)
    (hs : P s) : P t := by
  induction hm with
  | refl => exact hs
  | tail _ hlast ih => exact h hlast ih

theorem ArcMoves.trans {s t u : State} (h : ArcMoves s t) (h' : ArcMoves t u) : ArcMoves s u :=
  Relation.ReflTransGen.trans h h'

section

variable {s t : State} (h : ArcMoves s t)
include h

theorem ArcMoves.notify (p : Port) (n : Notice) : ArcMoves s (t.notify p n) :=
  h.tail (.same (by simp [SameOn, arcPieces, Piece.same]))

theorem ArcMoves.notifyJob (p : Port) (u : Torch) (f : Nat → Nat → Notice) : ArcMoves s (t.notifyJob p u f) :=
  h.tail (.same (by simp [SameOn, arcPieces, Piece.same]))

theorem ArcMoves.raise (c : AlertCode) (n : Nat) : ArcMoves s (t.raise c n) :=
  h.tail (.same (by simp [SameOn, arcPieces, Piece.same]))

end

/-! ## What a move does to the torches -/

theorem Torch.Gone.not_lit {t : Torch} (h : t.Gone) : t.state.lit = false := by
  obtain ⟨h | h, -⟩ := h <;> rw [h] <;> rfl

theorem State.torch_leaveTorch_of_lit {s : State} {p : Port} (h : (s.torch p).state.lit = true) (t' : Torch) (q : Port) :
    (s.leaveTorch p t').torch q = (if p = q then t' else s.torch q).closedUp (s.torch p).seq := by
  rw [State.torch_leaveTorch, if_pos h]

theorem State.torch_leaveTorch_of_not_lit {s : State} {p : Port} (h : (s.torch p).state.lit = false) (t' : Torch) (q : Port) :
    (s.leaveTorch p t').torch q = if p = q then t' else s.torch q := by
  rw [State.torch_leaveTorch, if_neg (by simp [h])]

theorem State.state_leaveTorch_self (s : State) (p : Port) (t' : Torch) :
    ((s.leaveTorch p t').torch p).state = t'.state := by
  rw [State.torch_leaveTorch]
  split_ifs <;> simp_all

theorem State.torch_establish (s : State) (p q : Port) :
    (s.establish p).torch q = if p = q then { s.torch p with state := .burning, establish := none } else s.torch q := by
  rw [← State.torch_setTorch]
  refine State.torch_congr ?_ q
  simp only [State.establish]
  split
  · split_ifs <;> simp
  · simp

theorem ArcMove.torchMove {s t : State} (h : ArcMove s t) : TorchMove s t := by
  have hrest {t : State} (ht : t.torches = s.torches) (hq : t.startQueue = s.startQueue) : TorchMove s t :=
    .rest (State.torch_congr ht) hq
  cases h with
  | same h => exact hrest (h .torches (by simp [arcPieces])) (h .startQueue (by simp [arcPieces]))
  | start own p hp _ => exact .start p _ hp rfl rfl (s.torch_admit own p) (s.startQueue_admit own p)
  | burn p hp => exact .burn p { s.torch p with state := .burning, establish := none } hp rfl rfl (s.torch_establish p) (by simp)
  | out p t' hp ht => exact .out p t' hp ht.1 ht.2 (State.torch_leaveTorch_of_lit hp t') (by simp)
  | quit p t' hp ht =>
    refine .quit p t' hp ht.1 ht.2 (fun q => ?_) (by simp [State.unqueue])
    exact State.torch_leaveTorch_of_not_lit (s := s.unqueue p) (by
      show (s.torch p).state.lit = false
      rw [hp]
      rfl) t' q
  | clear p hp => exact .clear p hp (State.torch_leaveTorch_of_not_lit (by rw [hp]; rfl) .idle) (by simp)
  | mark b n hf => exact hrest (by simp) (by simp)
  | hold d hj hp => exact hrest (by simp) (by simp)
  | gone j' o hj hp hn => exact hrest (by simp) (by simp)
  | remove o hj hidle => exact hrest (by simp) (by simp)
  | withdraw o hj hstate htaker hq => exact hrest (by simp) (by simp)
  | @withdrawStart q b n j o hj hstate htaker hq =>
    have htorch (p : Port) : (s.removeJob b j o).torch p = s.torch p := State.torch_congr (by simp) p
    refine .quit q .idle hq (.inl rfl) rfl (fun p => ?_) (by simp [State.unqueue])
    rw [← htorch p]
    exact State.torch_leaveTorch_of_not_lit (s := (s.removeJob b j o).unqueue q) (by
      show ((s.removeJob b j o).torch q).state.lit = false
      rw [htorch, hq]
      rfl) .idle p

theorem ArcMoves.torchMoves {s t : State} (h : ArcMoves s t) : TorchMoves s t :=
  Relation.ReflTransGen.mono (fun _ _ => ArcMove.torchMove) _ _ h

theorem ArcMoves.queueLaw {s t : State} (h : ArcMoves s t) (hs : s.QueueLaw) : t.QueueLaw := h.torchMoves.queueLaw hs

/-! ## The walk -/

theorem arcMoves_walkFrom (own : Option Port) (l : List Port) {s : State} (hl : ∀ p ∈ l, p ∈ s.startQueue) (hn : l.Nodup) :
    ArcMoves s (walkFrom own l s).1 := by
  induction l generalizing s with
  | nil => exact .refl
  | cons p rest ih =>
    obtain ⟨hp, hrest⟩ := List.nodup_cons.mp hn
    simp only [walkFrom]
    split_ifs with hc hb
    · exact ih (fun q hq => hl q (List.mem_cons_of_mem p hq)) hrest
    · refine .head (.start own p (hl p List.mem_cons_self) (by simpa using hc)) (ih (fun q hq => ?_) hrest)
      rw [State.startQueue_admit]
      exact List.mem_filter.mpr ⟨hl q (List.mem_cons_of_mem p hq), by simpa using fun h : q = p => hp (h ▸ hq)⟩
    · exact .refl

section

variable {s t : State}

theorem State.QueueLaw.walk (hs : s.QueueLaw) (own : Option Port) : ArcMoves s (s.walk own).1 := by
  unfold State.walk
  split_ifs
  · exact .refl
  · exact arcMoves_walkFrom own _ (fun _ h => h) hs.1

/-- A chain goes on with a walk. -/
theorem ArcMoves.runWalk (h : ArcMoves s t) (hs : s.QueueLaw) : ArcMoves s t.runWalk :=
  h.trans ((h.queueLaw hs).walk none)

/-! ## The ends of a job -/

theorem gone_idle : Torch.idle.Gone := ⟨.inl rfl, rfl⟩

/-- R60: the torch as it is DROPPED. -/
def Torch.dropped (t : Torch) : Torch := { t with state := .dropped, seq := 0, establish := none, wait := none }

theorem Torch.gone_dropped (t : Torch) : t.dropped.Gone := ⟨.inr rfl, rfl⟩

theorem State.dropTorch_eq (s : State) (p : Port) : s.dropTorch p = s.leaveTorch p (s.torch p).dropped := rfl

/-- Once a torch has gone, it serves no job. -/
theorem State.dark_leaveTorch (s : State) (p : Port) {t' : Torch} (h : t'.Gone) : (s.leaveTorch p t').Dark p := by
  unfold State.Dark
  rw [s.state_leaveTorch_self p t']
  exact h.1

theorem arcMoves_stopJob {p : Port} {b : Nat} {j : Job} (bump : Bool) (hj : s.heldJob p = some (b, j)) (hp : s.Dark p) :
    ArcMoves s (s.stopJob b j bump) := by
  dsimp only [State.stopJob]
  split_ifs
  all_goals first | exact .single (.gone _ _ hj hp rfl) | exact .single (.hold _ hj hp)

theorem State.Dark.stopHeld {p : Port} (hp : s.Dark p) (bump : Bool) : ArcMoves s (s.stopHeld p bump) := by
  unfold State.stopHeld
  split
  · split_ifs
    · exact arcMoves_stopJob _ ‹_› hp
    · exact .refl
  · exact .refl

theorem State.Dark.lapseJob {p : Port} (hp : s.Dark p) : ArcMoves s (s.lapseJob p) := by
  unfold State.lapseJob
  split
  · split_ifs
    · exact arcMoves_stopJob _ ‹_› hp
    · exact .single (.hold _ ‹_› hp)
  · exact .refl

theorem State.Dark.endJob {p : Port} (hp : s.Dark p) (o : ArcOutcome) : ArcMoves s (s.endJob p o) := by
  unfold State.endJob
  split
  · rename_i b j hj
    split_ifs
    · split
      · have hr (f : Plate → Plate) : SameOn arcPieces s (s.setRecord j.plate f) := by
          simp [SameOn, arcPieces, Piece.same]
        exact .head (.same (hr _)) (.single (.gone (p := p) _ _ hj hp rfl))
      · exact arcMoves_stopJob _ hj hp
    · exact .refl
  · exact .refl

/-! ## A torch goes out, and its job stops -/

/-- A lit torch is dropped and its job stops: the common part of a shed, a halt and a failed start. -/
theorem arcMoves_dropped_stopHeld {p : Port} (hp : (s.torch p).state.lit = true) :
    ArcMoves s ((s.dropTorch p).stopHeld p true) :=
  .head (.out p _ hp (Torch.gone_dropped _)) ((s.dark_leaveTorch p (Torch.gone_dropped _)).stopHeld true)

theorem lit_of_starting {x : TorchState} (h : x = .starting) : x.lit = true := by rw [h]; rfl

theorem lit_of_burning {x : TorchState} (h : x = .burning) : x.lit = true := by rw [h]; rfl

theorem arcMoves_lapseGantry (s : State) (p : Port) : ArcMoves s (s.lapseGantry p) := by
  have hout (hp : (s.torch p).state.lit = true) : ArcMoves s ((s.dropTorch p).lapseJob p) :=
    .head (.out p _ hp (Torch.gone_dropped _)) (s.dark_leaveTorch p (Torch.gone_dropped _)).lapseJob
  unfold State.lapseGantry
  split
  · rename_i hp
    exact .head (.quit p _ hp (Torch.gone_dropped _)) ((s.unqueue p).dark_leaveTorch p (Torch.gone_dropped _)).lapseJob
  · exact hout (lit_of_starting ‹_›)
  · exact hout (lit_of_burning ‹_›)
  · exact State.Dark.lapseJob (.inl ‹_›)
  · exact State.Dark.lapseJob (.inr ‹_›)

theorem arcMoves_haltTorch (s : State) (p : Port) : ArcMoves s (s.haltTorch p) := by
  dsimp only [State.haltTorch]
  split
  · exact (arcMoves_dropped_stopHeld (lit_of_starting ‹_›)).notifyJob _ _ _
  · exact (arcMoves_dropped_stopHeld (lit_of_burning ‹_›)).notifyJob _ _ _
  · exact ArcMoves.notifyJob (.single (.quit p _ ‹_› gone_idle)) _ _ _
  · exact .refl
  · exact .refl

theorem arcMoves_haltAll (l : List Port) (s : State) : ArcMoves s (l.foldl (fun s q => s.haltTorch q) s) := by
  induction l generalizing s with
  | nil => exact .refl
  | cons p rest ih => exact (arcMoves_haltTorch s p).trans (ih _)

theorem arcMoves_setLatch (s : State) (p : Port) : ArcMoves s (s.setLatch p) := by
  have hlatch : ArcMoves s { s with hallStop := some p } := .of_same (by simp [SameOn, arcPieces, Piece.same])
  dsimp only [State.setLatch]
  split_ifs
  · exact (hlatch.trans (arcMoves_haltAll allPorts _)).raise _ _
  · exact hlatch.raise _ _

theorem arcMoves_lapseSteps (s : State) (p : Port) : ArcMoves s (s.lapseSteps p) := by
  have hport (r : PortRecord) : ArcMoves s (s.setPort p r) := .of_same (by simp [SameOn, arcPieces, Piece.same])
  dsimp only [State.lapseSteps]
  split_ifs
  · exact (((hport _).trans (arcMoves_lapseGantry _ p)).raise _ _).trans (arcMoves_setLatch _ p)
  · exact ((hport _).trans (arcMoves_lapseGantry _ p)).raise _ _
  · exact ((hport _).raise _ _).trans (arcMoves_setLatch _ p)
  · exact (hport _).raise _ _

theorem arcMoves_shedTorch {p : Port} (hp : (s.torch p).state.lit = true) : ArcMoves s (s.shedTorch p) :=
  ((arcMoves_dropped_stopHeld hp).notifyJob _ _ _).raise _ _

/-- R69: only a lit torch is shed. -/
theorem State.lit_of_newest {p : Port} (h : s.newest = some p) : (s.torch p).state.lit = true := by
  have := List.find?_some (show List.find? _ allPorts = some p from h)
  exact (Bool.and_eq_true_iff.mp this).1

theorem arcMoves_shed (n : Nat) (s : State) : ArcMoves s (shed n s) := by
  induction n generalizing s with
  | zero => exact .refl
  | succ n ih =>
    unfold shed
    split_ifs
    · exact .refl
    · split
      · exact .refl
      · exact (arcMoves_shedTorch (State.lit_of_newest ‹_›)).trans (ih _)

/-! ## The requests and the events, from a state under the queue's law -/

variable (hs : s.QueueLaw)
include hs

theorem State.QueueLaw.lapse (p : Port) : ArcMoves s (s.lapse p) := by
  unfold State.lapse
  split_ifs
  · exact (arcMoves_lapseSteps s p).runWalk hs
  · exact arcMoves_lapseSteps s p

theorem State.QueueLaw.goodReading (n : Nat) : ArcMoves s (goodReading n s) := by
  have hr (t : State) (ht : SameOn arcPieces s t) : ArcMoves s t.recompute.evaluateSag :=
    .of_same fun x hx => by
      have := ht x hx
      cases x <;> simp_all [arcPieces, Piece.same]
  have hr' := hr { s with feeder := { s.feeder with
      level := min n Config.maxLevel, stale := false, staleTimer := some Config.staleMs } }
    (by simp [SameOn, arcPieces, Piece.same])
  dsimp only [Machine.goodReading]
  split_ifs
  · exact (hr'.trans (arcMoves_shed 6 _)).runWalk hs
  · exact hr'.trans (arcMoves_shed 6 _)
  · exact hr'.runWalk hs
  · exact hr'

theorem State.QueueLaw.feederByte (b : LineByte) : ArcMoves s (feederByte s b) := by
  have hf (f : Feeder) : ArcMoves s { s with feeder := f } := .of_same (by simp [SameOn, arcPieces, Piece.same])
  dsimp only [Machine.feederByte]
  split
  · exact hf _
  · exact hf _
  · have hq : State.QueueLaw { s with feeder := { s.feeder with receiver := (fmByte s.feeder.receiver b).1 } } := hs
    exact (hf _).trans (hq.goodReading _)

theorem State.QueueLaw.establishExpiry (p : Port) : ArcMoves s (establishExpiry p s) := by
  dsimp only [Machine.establishExpiry]
  split_ifs with h
  · exact (((arcMoves_dropped_stopHeld (lit_of_starting h.1)).notifyJob _ _ _).raise _ _).runWalk hs
  · exact .refl

theorem State.QueueLaw.waitExpiry (p : Port) : ArcMoves s (waitExpiry p s) := by
  dsimp only [Machine.waitExpiry]
  split_ifs with h
  · exact (ArcMoves.notifyJob (.single (.quit p _ h.1 gone_idle)) _ _ _).runWalk hs
  · exact .refl

theorem State.QueueLaw.reformBudget (old : Params) : ArcMoves s (s.reformBudget old) := by
  have hr : ArcMoves s s.recompute := .of_same (by simp [SameOn, arcPieces, Piece.same])
  unfold State.reformBudget
  split_ifs
  · exact hr.runWalk hs
  · exact hr
  · exact .refl

theorem State.QueueLaw.paramSet (l : List ParamEntry) : ArcMoves s (ownParamSet l s).1 := by
  refine byCases_keeps .refl fun _ => ?_
  have hp : ArcMoves s { s with params := paramsAfter l s.params } := .of_same (by simp [SameOn, arcPieces, Piece.same])
  have hq : State.QueueLaw { s with params := paramsAfter l s.params } := hs
  exact hp.trans (hq.reformBudget _)

theorem State.QueueLaw.jobCancel (b n : Nat) : ArcMoves s (ownJobCancel b n s).1 := by
  refine byCases_keeps .refl fun _ => ?_
  split
  · exact .refl
  · rename_i j hj
    have hidle (h : j.state.active = false) : ArcMoves s (s.removeJob b j .cancelled) :=
      .single (.remove _ hj fun ha => absurd (h.symm.trans ha) Bool.false_ne_true)
    split
    · exact hidle (by rw [‹j.state = _›]; rfl)
    · exact hidle (by rw [‹j.state = _›]; rfl)
    · rename_i hstate
      dsimp only
      split
      · rename_i q htaker
        by_cases hq : (s.torch q).state = .waiting
        · simp only [State.withdraw, hq, decide_true, if_true]
          exact (ArcMoves.notify (.single (.withdrawStart _ hj hstate htaker hq)) _ _).runWalk hs
        · simp only [State.withdraw, hq, decide_false, Bool.false_eq_true, if_false]
          exact ArcMoves.notify (.single (.withdraw _ hj hstate htaker hq)) _ _
      · exact .single (.remove _ hj fun _ => ‹_›)
    · exact .single (.mark _ _ fun j => ⟨rfl, rfl, rfl, rfl⟩)
    · exact .single (.mark _ _ fun j => ⟨rfl, rfl, rfl, rfl⟩)

theorem State.QueueLaw.arcEstablished (p : Port) : ArcMoves s (ownArcEstablished p s).1 := by
  unfold ownArcEstablished
  split
  · exact ArcMoves.runWalk (.single (.burn p ‹_›)) hs
  all_goals exact .refl

theorem State.QueueLaw.arcOff (p : Port) (o : Option ArcOutcome) : ArcMoves s (ownArcOff p o s).1 := by
  have hout (hp : (s.torch p).state.lit = true) (o : ArcOutcome) : ArcMoves s ((s.idleTorch p).endJob p o).runWalk :=
    ArcMoves.runWalk (.head (.out p _ hp gone_idle) ((s.dark_leaveTorch p gone_idle).endJob o)) hs
  unfold ownArcOff
  split
  · exact .refl
  · dsimp only
    split
    · exact hout (lit_of_starting ‹_›) _
    · exact hout (lit_of_burning ‹_›) _
    · exact ArcMoves.runWalk (.single (.quit p _ ‹_› gone_idle)) hs
    · exact .single (.clear p ‹_›)
    · exact .refl

end

theorem arcMoves_returnTorch (s : State) (p : Port) : ArcMoves s (s.returnTorch p) := by
  unfold State.returnTorch
  split_ifs with h
  · exact .single (.clear p h.2)
  · exact .refl

theorem arcMoves_hello (s : State) (p : Port) (r : Option Role) : ArcMoves s (ownHello p r s).1 := by
  have honline : ArcMoves s (s.comeOnline p) := .of_same (by simp [SameOn, arcPieces, Piece.same])
  unfold ownHello
  split
  · exact .refl
  · split
    · exact .refl
    · split
      · exact honline
      · exact .refl
      · split
        · exact honline.trans (arcMoves_returnTorch _ p)
        · exact .refl

theorem arcMoves_overdueExpiry (s : State) (b n : Nat) : ArcMoves s (overdueExpiry b n s) := by
  unfold overdueExpiry
  split_ifs
  · have hm : ArcMoves s (s.setJob b n fun j => { j with overdue := true, timer := none }) :=
      .single (.mark _ _ fun j => ⟨rfl, rfl, rfl, rfl⟩)
    exact hm.raise _ _
  · exact .refl

/-! ## ARC-START -/

/-- R73: the torch as it starts to wait, before the walk. -/
def State.started (s : State) (p : Port) (b : Nat) (j : Job) : State :=
  let s' := s.setTorch p (.forJob b j s.params.waitLimit)
  { s' with startQueue := s.startQueue ++ [p] }

/-- R73: an ARC-START is refused, or the torch, which was IDLE, starts to wait for the TAKEN job of its port, and a walk runs. -/
theorem ownArcStart_cases (s : State) (p : Port) (n : Nat) :
    (ownArcStart p n s).1 = s
    ∨ ∃ b j, s.heldJob p = some (b, j) ∧ j.state = .taken ∧ (s.binding p).state ≠ .stale ∧ (s.torch p).state = .idle
        ∧ s.hallStop = none ∧ (ownArcStart p n s).1 = ((s.started p b j).walk (some p)).1 := by
  unfold ownArcStart
  cases hc : firstCase (arcStartCases p n s) with
  | some st => exact .inl (by rw [byCases_refused hc])
  | none =>
    rw [byCases_accepted hc]
    have h := (firstCase_eq_none _).mp hc
    simp only [arcStartCases, List.mem_cons, List.not_mem_nil, or_false, forall_eq_or_imp, forall_eq] at h
    cases hj : s.heldJob p with
    | none => exact .inl rfl
    | some bj =>
      obtain ⟨b, j⟩ := bj
      simp [hj] at h
      obtain ⟨⟨htaken, -⟩, hstale, hidle, hlatch⟩ := h
      exact .inr ⟨b, j, rfl, htaken, hstale, hidle, hlatch, rfl⟩

theorem State.torch_started (s : State) (p q : Port) (b : Nat) (j : Job) :
    (s.started p b j).torch q = if p = q then .forJob b j s.params.waitLimit else s.torch q :=
  s.torch_setTorch p q _

theorem State.QueueLaw.started {s : State} (hs : s.QueueLaw) {p : Port} (hp : (s.torch p).state = .idle) (b : Nat) (j : Job) :
    (s.started p b j).QueueLaw := by
  have hnot : p ∉ s.startQueue := fun h => by simp [hs.mem_iff.mp h] at hp
  refine ⟨List.nodup_append.mpr ⟨hs.1, List.nodup_singleton p, fun a ha q hq he => ?_⟩, fun q => ?_⟩
  · rw [List.mem_singleton] at hq
    exact hnot (hq ▸ he ▸ ha)
  · rw [State.torch_started]
    show q ∈ s.startQueue ++ [p] ↔ _
    rw [List.mem_append, List.mem_singleton, hs.mem_iff]
    split_ifs with hpq
    · simp [hpq, Torch.forJob]
    · simp [Ne.symm hpq]

theorem State.NumberLaw.started {s : State} (hs : s.NumberLaw) {p : Port} (hp : (s.torch p).state = .idle) (b : Nat) (j : Job) :
    (s.started p b j).NumberLaw :=
  hs.congr fun q => by
    rw [State.torch_started]
    split_ifs with hpq
    · have := hs.seq_eq_zero (p := p) (by rw [hp]; rfl)
      exact hpq ▸ ⟨by rw [hp]; rfl, this.symm⟩
    · exact ⟨rfl, rfl⟩

/-! ## SET-DOWN and LIFT-ABORT -/

/-- R101, R103: a load that has come to rest, before the walk. -/
def State.rested (p : Port) (r : Plate) (z offX offY : Nat) (t : Turn) (a : CraneAction) (s : State) : State :=
  let s := s.setRecord r.id fun q => { q with location := .resting z offX offY t }
  ((s.freeHook p).setUsed z true).reportMove p a r.id z (.place offX offY t)

/-- R102: a load that has been scrapped, before the walk. -/
def State.scrapped (p : Port) (r : Plate) (z : Nat) (s : State) : State :=
  (((s.deleteRecord r.id).freeHook p).setUsed z true).reportMove p .scrapped r.id z .nothing

/-- The load of a crane comes down: it rests where the placement test passes, or is scrapped. -/
inductive State.Unloads (s : State) (p : Port) : State → Prop
  | rest {r : Plate} (z ox oy : Nat) (t : Turn) (a : CraneAction) (hr : s.load p = some r)
      (hplace : firstCase (loadCases s p z ox oy t) = none) : s.Unloads p (s.rested p r z ox oy t a)
  | scrap {r : Plate} (z : Nat) (hr : s.load p = some r) : s.Unloads p (s.scrapped p r z)

theorem State.Unloads.sameBut {s s' : State} {p : Port} (h : s.Unloads p s') :
    SameBut [.zones, .records, .cranes, .links] s s' := by
  cases h with
  | rest => simp [State.rested, sameBut_iff]
  | scrap => simp [State.scrapped, sameBut_iff]

theorem ownSetDown_cases (s : State) (p : Port) (ox oy : Nat) (turn : Option Turn) :
    (ownSetDown p ox oy turn s).1 = s ∨ ∃ s', s.Unloads p s' ∧ (ownSetDown p ox oy turn s).1 = s'.runWalk := by
  unfold ownSetDown
  cases hc : firstCase (setDownCases p ox oy turn s) with
  | some st => exact .inl (by rw [byCases_refused hc])
  | none =>
    rw [byCases_accepted hc]
    simp only [setDownCases, firstCase_append, Option.or_eq_none_iff] at hc
    obtain ⟨⟨-, hplace⟩, -⟩ := hc
    cases hr : s.load p with
    | none => exact .inl rfl
    | some r =>
      dsimp only
      split_ifs
      · exact .inr ⟨_, .scrap _ hr, rfl⟩
      · exact .inr ⟨_, .rest _ _ _ _ .setDown hr hplace, rfl⟩

theorem ownLiftAbort_cases (s : State) (p : Port) :
    (ownLiftAbort p s).1 = s ∨ ∃ s', s.Unloads p s' ∧ (ownLiftAbort p s).1 = s'.runWalk := by
  unfold ownLiftAbort
  cases hc : firstCase (liftAbortCases p s) with
  | some st => exact .inl (by rw [byCases_refused hc])
  | none =>
    rw [byCases_accepted hc]
    simp only [liftAbortCases, firstCase_append, Option.or_eq_none_iff] at hc
    obtain ⟨-, hplace⟩ := hc
    cases hr : s.load p with
    | none => exact .inl rfl
    | some r => exact .inr ⟨_, .rest _ _ _ _ .aborted hr hplace, rfl⟩

/-! ## What a request does to torches and jobs -/

/-- A request that may change a torch is a chain of moves, the start of a wait and a walk, or the coming down of a load and a
walk. -/
theorem ownAct_arc_cases {i : Instr} {p : Port} {tag : Byte} {s : State} (hi : requestOf i = some (p, tag))
    (ht : touches [.torches, .startQueue] i = true) (hs : s.QueueLaw) :
    ArcMoves s (ownAct i s).1
    ∨ (∃ n b j, i = .arcStart p tag n ∧ s.heldJob p = some (b, j) ∧ j.state = .taken ∧ (s.torch p).state = .idle
        ∧ s.hallStop = none ∧ (ownAct i s).1 = ((s.started p b j).walk (some p)).1)
    ∨ ∃ q s', s.Unloads q s' ∧ (ownAct i s).1 = s'.runWalk := by
  cases i with
  | hello p t r => exact .inl (arcMoves_hello s p r)
  | keepalive p t => exact .inl (.of_same (by simp [ownAct, ownKeepalive, SameOn, arcPieces, Piece.same]))
  | jobCancel p t b n => exact .inl (hs.jobCancel b n)
  | arcStart q t n =>
    simp only [requestOf, Option.some.injEq, Prod.mk.injEq] at hi
    obtain ⟨rfl, rfl⟩ := hi
    obtain h | ⟨b, j, hj, htaken, -, hidle, hlatch, h⟩ := ownArcStart_cases s q n
    · exact .inl (by rw [show (ownAct (.arcStart q t n) s).1 = s from h])
    · exact .inr (.inl ⟨n, b, j, rfl, hj, htaken, hidle, hlatch, h⟩)
  | arcEstablished p t => exact .inl (hs.arcEstablished p)
  | arcOff p t o => exact .inl (hs.arcOff p o)
  | setDown q t ox oy turn =>
    obtain h | ⟨s', hdown, h⟩ := ownSetDown_cases s q ox oy turn
    · exact .inl (by rw [show (ownAct (.setDown q t ox oy turn) s).1 = s from h])
    · exact .inr (.inr ⟨q, s', hdown, h⟩)
  | liftAbort q t =>
    obtain h | ⟨s', hdown, h⟩ := ownLiftAbort_cases s q
    · exact .inl (by rw [show (ownAct (.liftAbort q t) s).1 = s from h])
    · exact .inr (.inr ⟨q, s', hdown, h⟩)
  | paramSet p t l => exact .inl (hs.paramSet l)
  | _ => first | exact absurd ht Bool.false_ne_true | cases hi

/-! ## The laws of the queue and of the numbers -/

theorem resetJobs_sameBut (s : State) : SameBut [.tables, .logs, .links, .alerts, .overflow] s s.resetJobs := by
  refine SameBut.foldl (fun s bj => ?_) s.allJobs s
  unfold resetJob
  split_ifs <;> simp [sameBut_iff]

/-- A law that is kept under itself is kept. -/
theorem Upkeep.self {P : State → Prop} {read : List Piece} (h : Upkeep P read P) : Kept read P where
  apart := h.apart
  reads := h.reads
  aged _ hp := h.aged hp hp
  frameError := h.frameError
  request hi ht ha _ hp := h.request hi ht ha hp hp
  lapse hl _ hp := h.lapse hl hp hp
  feeder b ht _ hp := h.feeder b ht hp hp
  timed hi ht _ hp := h.timed hi ht hp hp
  powerUp _ hp := h.powerUp hp hp
  warmUp _ hp := h.warmUp hp hp

/-- Every request that may change a torch keeps a law that the moves of torches keep and that the start of a wait keeps. -/
theorem torchLaw_request {P : State → Prop} (hmove : ∀ {s t}, TorchMove s t → s.QueueLaw → P s → P t)
    (hstarted : ∀ {s p b j}, (s.torch p).state = .idle → P s → P (s.started p b j)) {i : Instr} {p : Port} {tag : Byte}
    {s : State} (hi : requestOf i = some (p, tag)) (ht : touches [.torches, .startQueue] i = true) (hs : s.QueueLaw)
    (hp : P s) : P (ownAct i s).1 := by
  have hmoves {s t : State} (hm : ArcMoves s t) (hs : s.QueueLaw) (hp : P s) : P t :=
    (hm.keeps (P := fun t => t.QueueLaw ∧ P t)
      (fun hm h => ⟨hm.torchMove.queueLaw h.1, hmove hm.torchMove h.1 h.2⟩) ⟨hs, hp⟩).2
  obtain h | ⟨n, b, j, -, -, -, hidle, -, h⟩ | ⟨q, s', hdown, h⟩ := ownAct_arc_cases hi ht hs
  · exact hmoves h hs hp
  · rw [h]
    exact hmoves ((hs.started hidle b j).walk _) (hs.started hidle b j) (hstarted hidle hp)
  · rw [h]
    have hsame : TorchMove s s' := .of_same (hdown.sameBut.sameOn (by decide))
    exact hmoves ((hsame.queueLaw hs).walk none) (hsame.queueLaw hs) (hmove hsame hs hp)

/-- A law of the torches and the start queue is kept, under the queue's law, where the moves keep it. -/
theorem torchLaw_upkeep {P : State → Prop} {read : List Piece} (hread : read ⊆ [.torches, .startQueue])
    (hreads : ∀ {s t}, SameOn read s t → P s → P t) (hmove : ∀ {s t}, TorchMove s t → s.QueueLaw → P s → P t)
    (hstarted : ∀ {s p b j}, (s.torch p).state = .idle → P s → P (s.started p b j)) (haged : ∀ {s : State}, P s → P s.aged)
    (hidle : ∀ {s : State}, s.torches = Vector.replicate 6 .idle → s.startQueue = [] → P s) :
    Upkeep State.QueueLaw read P := by
  have htouch {i : Instr} (h : touches read i = true) : touches [.torches, .startQueue] i = true := by
    obtain ⟨x, hx, hm⟩ := List.any_eq_true.mp h
    exact List.any_eq_true.mpr ⟨x, hread hx, hm⟩
  have hmoves {s t : State} (hm : ArcMoves s t) (hs : s.QueueLaw) (hp : P s) : P t :=
    (hm.keeps (P := fun t => t.QueueLaw ∧ P t)
      (fun hm h => ⟨hm.torchMove.queueLaw h.1, hmove hm.torchMove h.1 h.2⟩) ⟨hs, hp⟩).2
  have hsame {s t : State} (h : SameOn [.torches, .startQueue] s t) (hp : P s) : P t :=
    hreads (fun x hx => h x (hread hx)) hp
  exact {
    apart := fun x hx => (show ∀ x ∈ [Piece.torches, .startQueue], x ∉ [Piece.links, .causes, .hold, .restart] by decide)
      x (hread hx)
    reads := hreads
    aged := fun _ hp => haged hp
    frameError := fun p hp => hsame (by simp [SameOn, Piece.same]) hp
    request := fun hi ht _ hs hp => torchLaw_request hmove hstarted hi (htouch ht) hs hp
    lapse := fun _ hs hp => hmoves (hs.lapse _) hs hp
    feeder := fun b _ hs hp => hmoves (hs.feederByte b) hs hp
    timed := fun {i s} hi ht hs hp => by
      cases i with
      | establishTimerExpiry p => exact hmoves (hs.establishExpiry p) hs hp
      | waitTimerExpiry p => exact hmoves (hs.waitExpiry p) hs hp
      | _ => first | exact absurd hi Bool.false_ne_true | exact absurd (htouch ht) Bool.false_ne_true
    powerUp := fun {s} _ _ => powerUp_keeps (fun c n h => hsame (by simp [SameOn, Piece.same]) h)
      (fun h => hsame (by simp [SameOn, Piece.same]) h) (hidle rfl rfl)
    warmUp := fun {s} _ _ => warmUp_keeps (fun c n h => hsame (by simp [SameOn, Piece.same]) h)
      (fun h => hsame (by simp [SameOn, Piece.same]) h) (by
        have hframe := (resetJobs_sameBut (blocksReset s)).sameOn (read := [.torches, .startQueue]) (by decide)
        have htorches : (blocksReset s).resetJobs.torches = _ := hframe .torches (by simp)
        have hqueue : (blocksReset s).resetJobs.startQueue = _ := hframe .startQueue (by simp)
        exact hidle (by simp [htorches]) (by simp [hqueue])) }

theorem State.QueueLaw.reads {s t : State} (h : SameOn [.torches, .startQueue] s t) (hs : s.QueueLaw) : t.QueueLaw :=
  (TorchMove.of_same h).queueLaw hs

theorem State.NumberLaw.reads {s t : State} (h : SameOn [.torches] s t) (hs : s.NumberLaw) : t.NumberLaw :=
  hs.congr fun q => by simp [State.torch_congr (h .torches (by simp)) q]

theorem queueLaw_kept : Kept [.torches, .startQueue] State.QueueLaw :=
  Upkeep.self <| torchLaw_upkeep (List.Subset.refl _) State.QueueLaw.reads (fun hm _ hp => hm.queueLaw hp)
    (fun hidle hp => hp.started hidle _ _)
    (fun hp => ⟨hp.1, fun q => by rw [State.torch_aged, Torch.aged_state]; exact hp.2 q⟩)
    (fun ht hq => ⟨by simp [hq], fun q => by simp [hq, State.torch, ht, Torch.idle]⟩)

theorem numberLaw_upkeep : Upkeep State.QueueLaw [.torches] State.NumberLaw :=
  torchLaw_upkeep (by simp) State.NumberLaw.reads (fun hm hq hp => hm.numberLaw hq hp)
    (fun hidle hp => hp.started hidle _ _)
    (fun hp => hp.congr fun q => by rw [State.torch_aged, Torch.aged_state, Torch.aged_seq]; exact ⟨rfl, rfl⟩)
    (fun ht _ => by
      refine ⟨fun q => ?_, fun p q hp => ?_⟩
      · simp [State.torch, ht, Torch.idle, TorchState.lit]
      · simp [State.torch, ht, Torch.idle, TorchState.lit] at hp)

/-- Settles O22: the law of the numbers is kept together with the law of the queue, on which it rests. -/
theorem stepKeepsQueueAndNumberLaws : Obligations.StepKeepsQueueAndNumberLaws := fun _ _ hq ht =>
  ⟨queueLaw_kept.step hq ht, fun hn => ((queueLaw_kept.and numberLaw_upkeep).step ⟨hq, hn⟩ ht).2⟩

end Sys2Proof.Machine
end

section
/-! The law of the permit: no torch is lit or waits on a port that is not ONLINE, or under the latch (R156). -/

namespace Sys2Proof.Machine

open Sys2Proof

/-! ## Live torches -/

/-- The torch is lit or waits to be. -/
def State.Live (s : State) (p : Port) : Prop := (s.torch p).state.lit = true ∨ (s.torch p).state = .waiting

theorem State.Dark.not_live {s : State} {p : Port} (h : s.Dark p) : ¬ s.Live p := by
  obtain h | h := h <;> simp [State.Live, h, TorchState.lit]

/-- A move makes no torch live. -/
theorem TorchMove.live {s t : State} (h : TorchMove s t) (hs : s.QueueLaw) {q : Port} (hq : t.Live q) : s.Live q := by
  have hgone {x : TorchState} (hx : x = .idle ∨ x = .dropped) : ¬ (x.lit = true ∨ x = .waiting) := by
    obtain rfl | rfl := hx <;> simp [TorchState.lit]
  unfold State.Live at hq
  cases h with
  | rest htorch _ =>
    rw [htorch] at hq
    exact hq
  | start p t' hp _ _ htorch _ =>
    rw [htorch] at hq
    split_ifs at hq with h
    · exact .inr (h ▸ hs.mem_iff.mp hp)
    · exact hq
  | burn p t' hp _ _ htorch _ =>
    rw [htorch] at hq
    split_ifs at hq with h
    · exact .inl (h ▸ lit_of_starting hp)
    · exact hq
  | out p t' hp hstate _ htorch _ =>
    rw [htorch, Torch.closedUp_state] at hq
    split_ifs at hq with h
    · exact absurd hq (hgone hstate)
    · exact hq
  | quit p t' hp hstate _ htorch _ =>
    rw [htorch] at hq
    split_ifs at hq with h
    · exact absurd hq (hgone hstate)
    · exact hq
  | clear p hp htorch _ =>
    rw [htorch] at hq
    split_ifs at hq with h
    · exact absurd hq (hgone (.inl rfl))
    · exact hq

theorem ArcMoves.live {s t : State} (h : ArcMoves s t) (hs : s.QueueLaw) {q : Port} (hq : t.Live q) : s.Live q := by
  have hboth : t.QueueLaw ∧ ∀ q, t.Live q → s.Live q :=
    h.keeps (P := fun t => t.QueueLaw ∧ ∀ q, t.Live q → s.Live q)
      (fun hm h => ⟨hm.torchMove.queueLaw h.1, fun q hq => h.2 q (hm.torchMove.live h.1 hq)⟩) ⟨hs, fun _ h => h⟩
  exact hboth.2 q hq

/-! ## The lapse -/

theorem State.dark_lapseGantry (s : State) (p : Port) : (s.lapseGantry p).Dark p := by
  have hjob {t : State} (h : t.Dark p) : (t.lapseJob p).Dark p := by
    unfold State.Dark
    rw [State.torch_congr (s := t) (by simp)]
    exact h
  unfold State.lapseGantry
  split
  · exact hjob ((s.unqueue p).dark_leaveTorch p (Torch.gone_dropped _))
  · exact hjob (s.dark_leaveTorch p (Torch.gone_dropped _))
  · exact hjob (s.dark_leaveTorch p (Torch.gone_dropped _))
  · exact hjob (.inl ‹_›)
  · exact hjob (.inr ‹_›)

theorem State.dark_haltTorch (s : State) (p : Port) : (s.haltTorch p).Dark p := by
  have hafter {t u : State} (h : t.Dark p) (hu : u.torches = t.torches) : u.Dark p := by
    unfold State.Dark
    rw [State.torch_congr hu]
    exact h
  dsimp only [State.haltTorch]
  split
  · exact hafter (s.dark_leaveTorch p (s.torch p).gone_dropped) (by simp [State.dropTorch_eq])
  · exact hafter (s.dark_leaveTorch p (s.torch p).gone_dropped) (by simp [State.dropTorch_eq])
  · exact hafter ((s.unqueue p).dark_leaveTorch p gone_idle) (by simp [State.idleTorch])
  · exact .inl ‹_›
  · exact .inr ‹_›

/-- R81: a torch of the list is not live once all of the list have been halted. -/
theorem State.QueueLaw.not_live_haltAll {s : State} (hs : s.QueueLaw) (l : List Port) {q : Port} (hq : q ∈ l) :
    ¬ (l.foldl (fun s q => s.haltTorch q) s).Live q := by
  induction l generalizing s with
  | nil => exact absurd hq List.not_mem_nil
  | cons p rest ih =>
    have hnext : (s.haltTorch p).QueueLaw := (arcMoves_haltTorch s p).queueLaw hs
    rw [List.foldl_cons]
    obtain rfl | hq := List.mem_cons.mp hq
    · exact fun h => (s.dark_haltTorch q).not_live ((arcMoves_haltAll rest _).live hnext h)
    · exact ih hnext hq

/-- R154, R81: once the latch is newly set, no torch is live. -/
theorem State.QueueLaw.not_live_setLatch {s : State} (hs : s.QueueLaw) (h : s.hallStop = none) (p q : Port) :
    ¬ (s.setLatch p).Live q := by
  have hq : State.QueueLaw { s with hallStop := some p } := hs
  have hraise {t : State} (c : AlertCode) (n : Nat) : (t.raise c n).Live q ↔ t.Live q := by
    unfold State.Live
    rw [State.torch_congr (s := t) (by simp)]
  simp only [State.setLatch, h, Option.isNone_none, if_true, hraise]
  exact hq.not_live_haltAll allPorts (mem_allPorts q)

theorem State.lapseSteps_ports (s : State) (p : Port) : (s.lapseSteps p).ports =
    (s.setPort p { s.port p with state := .lapsed, timer := none, lapses := countUp Config.maxCount (s.port p).lapses }).ports := by
  dsimp only [State.lapseSteps]
  split_ifs <;> simp

theorem State.lapseSteps_hallStop (s : State) (p : Port) :
    (s.lapseSteps p).hallStop = if (s.portParams p).mode = .hallStop then some p else s.hallStop := by
  have hmode (u : State) (h : u.params = s.params) : u.portParams p = s.portParams p := by simp [State.portParams, h]
  dsimp only [State.lapseSteps]
  split_ifs <;> simp_all [State.setLatch_hallStop, State.portParams]

/-- R151, R152: the torch of the lapsed port is not live, and none is where the latch has been newly set. -/
theorem State.QueueLaw.not_live_lapseSteps {s : State} (hs : s.QueueLaw) {p q : Port}
    (hp : s.Live p → s.role p = .gantry) (hq : (s.lapseSteps p).Live q) :
    q ≠ p ∧ ((s.portParams p).mode = .hallStop → s.hallStop ≠ none) := by
  have hport {r : PortRecord} {q : Port} : (s.setPort p r).Live q ↔ s.Live q := Iff.rfl
  have hraise {t : State} (c : AlertCode) (n : Nat) : (t.raise c n).Live q ↔ t.Live q := by
    unfold State.Live
    rw [State.torch_congr (s := t) (by simp)]
  have hset (r : PortRecord) : (s.setPort p r).QueueLaw := hs
  have hlatch {t : State} (ht : t.QueueLaw) (hstop : t.hallStop = s.hallStop) (hl : (t.setLatch p).Live q) :
      s.hallStop ≠ none ∧ t.Live q :=
    ⟨fun h => ht.not_live_setLatch (hstop.trans h) p q hl, (arcMoves_setLatch t p).live ht hl⟩
  have hgantry (r : PortRecord) : ((s.setPort p r).lapseGantry p).QueueLaw := (arcMoves_lapseGantry _ p).queueLaw (hset r)
  have hself {t : State} (hd : t.Dark p) (h : t.Live q) : q ≠ p := fun he => hd.not_live (he ▸ h)
  have hother (hr : s.role p ≠ .gantry) (h : s.Live q) : q ≠ p := fun he => hr (hp (he ▸ h))
  have hlaw {t : State} (ht : t.QueueLaw) (c : AlertCode) (n : Nat) : (t.raise c n).QueueLaw :=
    ht.reads (by simp [SameOn, Piece.same])
  dsimp only [State.lapseSteps] at hq
  have hmode {u : State} (h : u.params = s.params) : (u.portParams p).mode = (s.portParams p).mode := by
    simp [State.portParams, h]
  split_ifs at hq with hr hm hm
  · obtain ⟨hstop, hl⟩ := hlatch (hlaw (hgantry _) _ _) (by simp) hq
    exact ⟨hself (State.dark_lapseGantry _ p) ((hraise _ _).mp hl), fun _ => hstop⟩
  · exact ⟨hself (State.dark_lapseGantry _ p) ((hraise _ _).mp hq), fun h => absurd (by rw [hmode (by simp), h]) hm⟩
  · obtain ⟨hstop, hl⟩ := hlatch (hlaw (hset _) _ _) (by simp) hq
    exact ⟨hother hr (hport.mp ((hraise _ _).mp hl)), fun _ => hstop⟩
  · exact ⟨hother hr (hport.mp ((hraise _ _).mp hq)), fun h => absurd (by rw [hmode (by simp), h]) hm⟩

/-! ## The law of the permit -/

/-- The permit is kept where no torch becomes live, and the permit of those that stay live is left. -/
theorem State.PermitLaw.of_live {s t : State} (hs : s.PermitLaw) (h : ∀ q, t.Live q → s.Live q
    ∧ ((s.port q).state = .online → (t.port q).state = .online) ∧ (s.role q = .gantry → t.role q = .gantry)
    ∧ (s.hallStop = none → t.hallStop = none)) : t.PermitLaw := by
  intro q hq
  obtain ⟨hlive, hport, hrole, hstop⟩ := h q hq
  obtain ⟨h1, h2, h3⟩ := hs q hlive
  exact ⟨hport h1, hrole h2, hstop h3⟩

/-- The permit is kept where only torches change, and none becomes live. -/
theorem State.PermitLaw.of_live_same {s t : State} (hs : s.PermitLaw) (h : ∀ q, t.Live q → s.Live q)
    (hsame : SameOn [.ports, .hallStop, .params] s t) : t.PermitLaw := by
  have hports : t.ports = s.ports := hsame .ports (by simp)
  have hstop : t.hallStop = s.hallStop := hsame .hallStop (by simp)
  have hparams : t.params = s.params := hsame .params (by simp)
  refine hs.of_live fun q hq => ⟨h q hq, ?_, ?_, ?_⟩
  · simp [State.port, hports]
  · simp [State.role, State.portParams, hparams]
  · simp [hstop]

theorem State.PermitLaw.reads {s t : State} (h : SameOn [.torches, .ports, .hallStop, .params] s t) (hs : s.PermitLaw) :
    t.PermitLaw := by
  refine hs.of_live_same (fun q hq => ?_) fun x hx => h x (List.mem_cons_of_mem _ hx)
  unfold State.Live at hq ⊢
  rw [State.torch_congr (h .torches (by simp))] at hq
  exact hq

/-- A chain of moves that leaves the ports alone keeps the permit. -/
theorem State.PermitLaw.moves {s t : State} (hs : s.PermitLaw) (hq : s.QueueLaw) (hm : ArcMoves s t)
    (hsame : SameOn [.ports, .hallStop, .params] s t) : t.PermitLaw :=
  hs.of_live_same (fun _ h => hm.live hq h) hsame

theorem State.PermitLaw.lapse {s : State} (hs : s.PermitLaw) (hq : s.QueueLaw) (p : Port) : (s.lapse p).PermitLaw := by
  have hsteps : (s.lapseSteps p).PermitLaw := by
    refine hs.of_live fun q hl => ?_
    have hlive : s.Live q := (arcMoves_lapseSteps s p).live hq hl
    obtain ⟨hne, hstop⟩ := hq.not_live_lapseSteps (fun h => (hs p h).2.1) hl
    refine ⟨hlive, fun h => ?_, fun h => ?_, fun h => ?_⟩
    · simp only [State.port, State.lapseSteps_ports]
      simpa [State.port, State.setPort, Vector.getElem_set, Fin.ext_iff, Fin.val_ne_of_ne hne.symm] using h
    · simpa [State.role, State.portParams] using h
    · rw [State.lapseSteps_hallStop, if_neg fun hm => hstop hm h, h]
  unfold State.lapse
  split_ifs
  · exact hsteps.moves ((arcMoves_lapseSteps s p).queueLaw hq)
      (((arcMoves_lapseSteps s p).queueLaw hq).walk none) (by simp [SameOn, Piece.same])
  · exact hsteps

theorem State.PermitLaw.started {s : State} (hs : s.PermitLaw) {p : Port} (b : Nat) (j : Job)
    (hp : (s.port p).state = .online) (hr : s.role p = .gantry) (hstop : s.hallStop = none) :
    (s.started p b j).PermitLaw := by
  intro q hl
  rw [State.torch_started] at hl
  split_ifs at hl with hpq
  · exact hpq ▸ ⟨hp, hr, hstop⟩
  · exact hs q hl

theorem Params.inForce_congr {ps qs : Params} (h : ps.inForce = qs.inForce) (q : Port) :
    (ps.ports[q.val].role, ps.ports[q.val].side) = (qs.ports[q.val].role, qs.ports[q.val].side) := by
  have hget (ps : Params) : ps.inForce[q.val]? = some (ps.ports[q.val].role, ps.ports[q.val].side) := by
    simp [Params.inForce]
  exact Option.some_inj.mp ((hget ps).symm.trans ((congrArg (·[q.val]?) h).trans (hget qs)))

theorem inForce_paramsAfter (l : List ParamEntry) (ps : Params) : (paramsAfter l ps).inForce = ps.inForce := by
  dsimp only [paramsAfter]
  split_ifs
  · exact inForce_writeEntries l ps
  · exact inForce_writeEntries l ps

/-- R143: a PARAM-SET leaves the roles in force. -/
theorem role_paramSet (l : List ParamEntry) (s : State) (q : Port) : (ownParamSet l s).1.role q = s.role q := by
  have hreform (old : Params) (u : State) : (State.reformBudget old u).role q = u.role q := by
    unfold State.reformBudget
    split_ifs <;> simp [State.role, State.portParams]
  refine byCases_keeps (P := fun u => u.role q = s.role q) rfl fun _ => (hreform _ _).trans ?_
  have h : (paramsAfter l s.params).inForce = s.params.inForce := inForce_paramsAfter l s.params
  exact congrArg Prod.fst (Params.inForce_congr h q)

theorem State.PermitLaw.request {i : Instr} {p : Port} {tag : Byte} {s : State} (hi : requestOf i = some (p, tag))
    (ht : touches [.torches, .ports, .hallStop, .params] i = true)
    (ha : s.admission p (allowedRoles i) (heardOffline i) = none) (hq : s.QueueLaw) (hs : s.PermitLaw) :
    (ownAct i s).1.PermitLaw := by
  by_cases hports : touches [.ports, .hallStop, .params] i = true
  · cases i with
    | hello p t r =>
      refine hs.of_live fun q hl => ⟨(arcMoves_hello s p r).live hq hl, ?_⟩
      show (_ → ((ownHello p r s).1.port q).state = _) ∧ (_ → (ownHello p r s).1.role q = _)
        ∧ (_ → (ownHello p r s).1.hallStop = _)
      have honline : (s.port q).state = .online → ((s.comeOnline p).port q).state = .online := by
        simp only [State.comeOnline, State.startKeepalive, State.setPortState, State.port_setPort]
        split_ifs <;> simp
      unfold ownHello
      split
      · exact ⟨id, id, id⟩
      · split
        · exact ⟨id, id, id⟩
        · split
          · exact ⟨honline, by simp [State.role, State.portParams], by simp⟩
          · exact ⟨id, id, id⟩
          · split
            · refine ⟨?_, by simp [State.role, State.portParams], by simp⟩
              simp only [State.port, State.returnTorch_frame]
              exact honline
            · exact ⟨id, id, id⟩
    | keepalive p t =>
      refine hs.of_live fun q hl => ⟨hl, ?_, fun h => h, fun h => h⟩
      show _ → ((s.startKeepalive p).port q).state = _
      rw [State.startKeepalive, State.port_setPort]
      split_ifs with h
      · exact fun ho => h ▸ ho
      · exact id
    | portRestore p t n =>
      show (ownPortRestore n s).1.PermitLaw
      unfold ownPortRestore
      split
      · exact hs
      · split_ifs with h
        · refine hs.of_live fun r hl => ⟨hl, fun ho => ?_, fun h => h, fun h => h⟩
          rw [State.setPortState, State.port_setPort]
          split_ifs with he
          · rw [← he, h] at ho
            exact absurd ho (by simp)
          · exact ho
        · exact hs
    | hallRestore p t =>
      show (ownHallRestore s).1.PermitLaw
      unfold ownHallRestore
      split_ifs
      · exact hs
      · exact hs.of_live fun q hl => ⟨hl, id, id, fun _ => rfl⟩
    | paramSet p t l =>
      refine hs.of_live fun q hl => ⟨(hq.paramSet l).live hq hl, ?_⟩
      have hframe := ownAct_sameBut (.paramSet p t l) s
      have hp : (ownAct (.paramSet p t l) s).1.ports = s.ports := hframe.2 .ports (by simp [mayChange])
      have hh : (ownAct (.paramSet p t l) s).1.hallStop = s.hallStop := hframe.2 .hallStop (by simp [mayChange])
      refine ⟨by simp [State.port, hp], ?_, by simp [hh]⟩
      rw [show (ownAct (.paramSet p t l) s).1.role q = s.role q from role_paramSet l s q]
      exact id
    | _ => first | exact absurd hports Bool.false_ne_true | cases hi
  · have hsame : SameOn [.ports, .hallStop, .params] s (ownAct i s).1 :=
      (ownAct_sameBut i s).sameOn_of_not_touches (by simpa using hports)
    have htorch : touches [.torches, .startQueue] i = true := by
      cases i <;> first | rfl | exact absurd ht Bool.false_ne_true | exact absurd rfl hports
    obtain h | ⟨n, b, j, rfl, -, -, hidle, hstop, h⟩ | ⟨q, s', hdown, h⟩ := ownAct_arc_cases hi htorch hq
    · exact hs.moves hq h hsame
    · have honline : (s.port p).state = .online := State.online_of_admission ha
      have hrole : s.role p = .gantry := by simpa [allowedRoles] using State.role_of_admission ha
      rw [h]
      exact (hs.started b j honline hrole hstop).moves (hq.started hidle b j) ((hq.started hidle b j).walk _)
        (by simp [SameOn, Piece.same])
    · rw [h]
      have hsame' : s'.PermitLaw := hs.reads (hdown.sameBut.sameOn (by decide))
      have hq' : s'.QueueLaw := hq.reads (hdown.sameBut.sameOn (by decide))
      exact hsame'.moves hq' (hq'.walk none) (by simp [SameOn, Piece.same])

theorem permitLaw_upkeep : Upkeep State.QueueLaw [.torches, .ports, .hallStop, .params] State.PermitLaw where
  apart := by decide
  reads h hs := hs.reads h
  aged {s} _ hs := by
    refine hs.of_live fun q hl => ?_
    have hlive : s.Live q := by
      unfold State.Live at hl ⊢
      rwa [State.torch_aged, Torch.aged_state] at hl
    exact ⟨hlive, by simp [State.port, State.aged, PortRecord.aged], id, id⟩
  frameError {s} p hs := by
    refine hs.of_live fun q hl => ⟨hl, ?_, id, id⟩
    rw [State.countFrameError, State.port_setPort]
    split_ifs with h
    · exact fun ho => h ▸ ho
    · exact id
  request hi ht ha hq hs := hs.request hi ht ha hq
  lapse _ hq hs := hs.lapse hq _
  feeder b _ hq hs := hs.moves hq (hq.feederByte b) ((feederByte_sameBut _ b).sameOn (by decide))
  timed {i s} hi ht hq hs := by
    cases i with
    | establishTimerExpiry p =>
      exact hs.moves hq (hq.establishExpiry p) ((eventAct_sameBut (i := .establishTimerExpiry p) rfl s).sameOn (by simp [mayChange]))
    | waitTimerExpiry p =>
      exact hs.moves hq (hq.waitExpiry p) ((eventAct_sameBut (i := .waitTimerExpiry p) rfl s).sameOn (by simp [mayChange]))
    | _ => first | exact absurd hi Bool.false_ne_true | exact absurd ht Bool.false_ne_true
  powerUp {s} _ _ := by
    refine powerUp_keeps (fun c n h => h.reads (by simp [SameOn, Piece.same]))
      (fun h => h.reads (by simp [SameOn, Piece.same])) fun q hl => ?_
    simp [poweredUp, State.torch, Torch.idle, TorchState.lit] at hl
  warmUp {s} _ _ := by
    refine warmUp_keeps (fun c n h => h.reads (by simp [SameOn, Piece.same]))
      (fun h => h.reads (by simp [SameOn, Piece.same])) fun q hl => ?_
    have htorches : (blocksReset s).resetJobs.torches = _ := (resetJobs_sameBut (blocksReset s)).2 .torches (by simp)
    simp [State.torch, htorches, Torch.idle, TorchState.lit] at hl

/-- Settles O23. -/
theorem stepKeepsPermitLaw : Obligations.StepKeepsPermitLaw :=
  fun _ _ hq hs ht => ((queueLaw_kept.and permitLaw_upkeep).step ⟨hq, hs⟩ ht).2

end Sys2Proof.Machine
end

section
/-! The law of the job tables (R39, R40, R41). -/

namespace Sys2Proof.Machine

open Sys2Proof

/-! ## One table -/

/-- R39, R40, R41: the bounds of one table. -/
def JobTable.Sound (t : JobTable) : Prop :=
  t.jobs.length ≤ Config.maxJobs ∧ (t.jobs.map Job.number).Nodup ∧ (t.jobs.map Job.arrival).Nodup
    ∧ ∀ j ∈ t.jobs, j.arrival < t.counter

theorem JobTable.sound_fresh : JobTable.fresh.Sound := by simp [JobTable.Sound, JobTable.fresh]

theorem State.tableLaw_iff {s : State} : s.TableLaw ↔ ∀ b : Nat, (s.table b).Sound := by
  refine ⟨fun h b => ?_, fun h b => h b.val⟩
  by_cases hb : b < 48
  · exact h ⟨b, hb⟩
  · simpa [State.table, hb] using JobTable.sound_fresh

/-- A change of the jobs that leaves their numbers keeps the bounds. -/
theorem JobTable.Sound.map {t : JobTable} (h : t.Sound) {f : Job → Job} (hf : KeepsNumbers f) :
    JobTable.Sound { t with jobs := t.jobs.map f } := by
  obtain ⟨hlen, hnum, harr, hlt⟩ := h
  refine ⟨by simpa using hlen, ?_, ?_, fun j hj => ?_⟩
  · simpa [List.map_map, Function.comp_def, fun j => (hf j).1] using hnum
  · simpa [List.map_map, Function.comp_def, fun j => (hf j).2] using harr
  · obtain ⟨k, hk, rfl⟩ := List.mem_map.mp hj
    exact (hf k).2.symm ▸ hlt k hk

theorem JobTable.Sound.aged {t : JobTable} (h : t.Sound) : t.aged.Sound := h.map fun _ => ⟨rfl, rfl⟩

/-- R57, R41: a job leaves, and the counter starts anew in an empty table. -/
theorem JobTable.Sound.removed {t : JobTable} (h : t.Sound) (keep : Job → Bool) :
    JobTable.Sound ⟨t.jobs.filter keep, if (t.jobs.filter keep).isEmpty then 1 else t.counter⟩ := by
  obtain ⟨hlen, hnum, harr, hlt⟩ := h
  refine ⟨(List.length_filter_le _ _).trans hlen, hnum.sublist (List.filter_sublist.map _),
    harr.sublist (List.filter_sublist.map _), fun j hj => ?_⟩
  have hne : (t.jobs.filter keep).isEmpty = false := by
    rw [List.isEmpty_eq_false_iff]
    exact List.ne_nil_of_mem hj
  rw [hne]
  exact hlt j (List.mem_filter.mp hj).1

/-- R45: a job enters with the counter's number, and the counter goes on. -/
theorem JobTable.Sound.entered {t : JobTable} (h : t.Sound) {j : Job} (hroom : t.jobs.length < Config.maxJobs)
    (hnew : ∀ k ∈ t.jobs, k.number ≠ j.number) (ha : j.arrival = t.counter) :
    JobTable.Sound ⟨t.jobs ++ [j], t.counter + 1⟩ := by
  obtain ⟨hlen, hnum, harr, hlt⟩ := h
  refine ⟨by simpa using hroom, ?_, ?_, fun k hk => ?_⟩
  · rw [List.map_append, List.map_singleton]
    refine List.nodup_append.mpr ⟨hnum, List.nodup_singleton _, fun a hm b hb => ?_⟩
    obtain ⟨k, hk, rfl⟩ := List.mem_map.mp hm
    exact List.mem_singleton.mp hb ▸ hnew k hk
  · rw [List.map_append, List.map_singleton]
    refine List.nodup_append.mpr ⟨harr, List.nodup_singleton _, fun a hm b hb => ?_⟩
    obtain ⟨k, hk, rfl⟩ := List.mem_map.mp hm
    rw [List.mem_singleton.mp hb, ha]
    exact Nat.ne_of_lt (hlt k hk)
  · obtain hk | hk := List.mem_append.mp hk
    · exact (hlt k hk).trans (Nat.lt_succ_self _)
    · rw [List.mem_singleton.mp hk, ha]
      exact Nat.lt_succ_self _

/-! ## All tables -/

theorem State.TableLaw.sound {s : State} (h : s.TableLaw) (b : Nat) : (s.table b).Sound := State.tableLaw_iff.mp h b

theorem State.TableLaw.setTable {s : State} (h : s.TableLaw) {t : JobTable} (b : Nat) (ht : t.Sound) :
    (s.setTable b t).TableLaw := by
  refine State.tableLaw_iff.mpr fun c => ?_
  rw [State.table_setTable]
  split_ifs
  · exact ht
  · exact h.sound c

theorem State.table_congr {s t : State} (h : t.tables = s.tables) (b : Nat) : t.table b = s.table b := by
  simp [State.table, h]

theorem State.TableLaw.reads {s t : State} (h : SameOn [.tables] s t) (hs : s.TableLaw) : t.TableLaw :=
  State.tableLaw_iff.mpr fun b => by
    rw [State.table_congr (h .tables (by simp))]
    exact hs.sound b

theorem KeepsNumbers.changeJob {f : Job → Job} (hf : KeepsNumbers f) (n : Nat) : KeepsNumbers (changeJob n f) := by
  intro j
  unfold Machine.changeJob
  split_ifs
  · exact hf j
  · exact ⟨rfl, rfl⟩

theorem State.TableLaw.setJob {s : State} (h : s.TableLaw) {f : Job → Job} (b n : Nat) (hf : KeepsNumbers f) :
    (s.setJob b n f).TableLaw := h.setTable b ((h.sound b).map (hf.changeJob n))

theorem State.TableLaw.removeJob {s : State} (h : s.TableLaw) (b : Nat) (j : Job) (o : Completion) :
    (s.removeJob b j o).TableLaw := by
  have hpush : (s.push b (j.logRecord o)).TableLaw := h.reads (by simp [SameOn, Piece.same])
  exact hpush.setTable b ((hpush.sound b).removed _)

theorem tableLaw_changesKeep : ChangesKeep State.TableLaw where
  torch p t hs := hs.reads (by simp [SameOn, Piece.same])
  closeUp k hs := hs.reads (by simp [SameOn, Piece.same])
  queue l hs := hs.reads (by simp [SameOn, Piece.same])
  job b n _ hf hs := hs.setJob b n hf
  remove b j o hs := hs.removeJob b j o
  raise c n hs := hs.reads (by simp [SameOn, Piece.same])
  notify p n hs := hs.reads (by simp [SameOn, Piece.same])
  record j hs := hs.reads (by simp [SameOn, Piece.same])
  port p r hs := hs.reads (by simp [SameOn, Piece.same])
  latch h hs := hs.reads (by simp [SameOn, Piece.same])
  feeder f hs := hs.reads (by simp [SameOn, Piece.same])

theorem State.TableLaw.remakeBed {s : State} (hs : s.TableLaw) (z : Nat) (old new : ZoneKind) :
    (s.remakeBed z old new).TableLaw := by
  unfold State.remakeBed
  split_ifs
  · exact hs
  · exact State.TableLaw.reads (by simp [SameOn, Piece.same]) (hs.setTable z JobTable.sound_fresh)

theorem State.TableLaw.staleBindings {s : State} (hs : s.TableLaw) (z : Nat) : (s.staleBindings z).TableLaw :=
  hs.reads (by simp [SameOn, Piece.same])

/-- R44 case 5: a job is accepted only where the table has room. -/
theorem jobAdd_room {w : JobWrite} {s : State} (h : firstCase (jobAddCases w s) = none) :
    (s.table w.bed).jobs.length < Config.maxJobs := by
  have := (firstCase_eq_none _).mp h
    (decide (Config.maxJobs ≤ (s.table w.bed).jobs.length ∨ (s.table w.bed).counter = Config.maxArrival), .full)
    (by simp [jobAddCases])
  simp only [decide_eq_false_iff_not, not_or, not_le] at this
  exact this.1

/-- Every request that may change a job table keeps the law. -/
theorem State.TableLaw.request {i : Instr} {p : Port} {tag : Byte} {s : State} (hi : requestOf i = some (p, tag))
    (ht : touches [.tables] i = true) (hs : s.TableLaw) : (ownAct i s).1.TableLaw := by
  have hops := tableLaw_changesKeep
  have hreads {s t : State} (h : SameBut [.zones, .records, .cranes, .links] s t) (hs : s.TableLaw) : t.TableLaw :=
    hs.reads (h.sameOn (by decide))
  cases i with
  | keepalive p t => exact hs.reads (by simp [ownAct, ownKeepalive, SameOn, Piece.same])
  | zoneSet p t w =>
    refine byCases_keeps hs fun _ => ?_
    dsimp only
    have hz (e : Zone) : (s.setZone w.zone e).TableLaw := hs.reads (by simp [SameOn, Piece.same])
    exact ((hz _).remakeBed w.zone _ _).staleBindings w.zone
  | zoneClear p t z =>
    have hz : (s.setZone z .empty).TableLaw := hs.reads (by simp [SameOn, Piece.same])
    exact byCases_keeps hs fun _ => hz.remakeBed z _ _
  | jobAdd p t w =>
    refine byCases_keeps hs fun hc => ?_
    have hnew := State.job_eq_none.mp (jobAdd_accepted hc).2
    exact hs.setTable w.bed ((hs.sound w.bed).entered (jobAdd_room hc) hnew rfl)
  | jobTake p t =>
    refine byCases_keeps hs fun _ => ?_
    dsimp only
    split
    · exact hs
    · exact hs.setJob _ _ fun _ => ⟨rfl, rfl⟩
  | jobReturn p t n =>
    refine byCases_keeps hs fun _ => ?_
    split
    · exact hs
    · exact hs.setJob _ _ fun _ => ⟨rfl, rfl⟩
  | jobCancel p t b n => exact hops.jobCancel b n hs
  | jobResume p t b n => exact byCases_keeps hs fun _ => hs.setJob _ _ fun _ => ⟨rfl, rfl⟩
  | arcStart p t n => exact hops.arcStart p n hs
  | arcEstablished p t => exact hops.arcEstablished p hs
  | arcOff p t o => exact hops.arcOff p o hs
  | setDown p t ox oy turn => exact setDown_keeps hops hreads hs p ox oy turn
  | liftAbort p t => exact liftAbort_keeps hops hreads hs p
  | paramSet p t l => exact byCases_keeps hs fun _ => hops.reformBudget _ (hs.reads (by simp [SameOn, Piece.same]))
  | _ => first | exact absurd ht Bool.false_ne_true | cases hi

theorem State.table_aged (s : State) (b : Nat) : s.aged.table b = (s.table b).aged := by
  unfold State.table
  split_ifs
  · simp [State.aged]
  · rfl

theorem tableLaw_kept : Kept [.tables] State.TableLaw where
  apart := by decide
  reads h hs := hs.reads h
  aged _ hs := State.tableLaw_iff.mpr fun b => by
    rw [State.table_aged]
    exact (hs.sound b).aged
  frameError p hs := hs.reads (by simp [SameOn, Piece.same])
  request hi ht _ _ hs := hs.request hi ht
  lapse _ _ hs := tableLaw_changesKeep.lapse _ hs
  feeder b _ _ hs := tableLaw_changesKeep.feederByte b hs
  timed {i s} hi ht _ hs := by
    cases i with
    | establishTimerExpiry p => exact tableLaw_changesKeep.establishExpiry p hs
    | waitTimerExpiry p => exact tableLaw_changesKeep.waitExpiry p hs
    | overdueTimerExpiry b n => exact tableLaw_changesKeep.overdueExpiry b n hs
    | _ => first | exact absurd hi Bool.false_ne_true | exact absurd ht Bool.false_ne_true
  powerUp {s} _ _ := by
    refine powerUp_keeps (fun c n h => h.reads (by simp [SameOn, Piece.same]))
      (fun h => h.reads (by simp [SameOn, Piece.same])) (State.tableLaw_iff.mpr fun b => ?_)
    simpa [poweredUp, State.table] using JobTable.sound_fresh
  warmUp {s} _ hs := by
    refine warmUp_keeps (fun c n h => h.reads (by simp [SameOn, Piece.same]))
      (fun h => h.reads (by simp [SameOn, Piece.same])) (tableLaw_changesKeep.resetJobs ?_)
    exact hs.reads (by simp [SameOn, Piece.same])

end Sys2Proof.Machine
end

section
/-! The bindings that go STALE (R19). -/

namespace Sys2Proof.Machine

open Sys2Proof

theorem State.binding_notify (s : State) (p q : Port) (n : Notice) : (s.notify p n).binding q = s.binding q := by
  simp [State.binding]

theorem State.staleBinding_of_ne {s : State} {z : Nat} {p q : Port} (h : q ≠ p) :
    (s.staleBinding z q).binding p = s.binding p ∧ (s.staleBinding z q).link p = s.link p := by
  dsimp only [State.staleBinding]
  split_ifs
  · exact ⟨by rw [State.binding_notify, State.binding_setBinding, if_neg h],
      by rw [State.link_notify, if_neg h]; rfl⟩
  · exact ⟨rfl, rfl⟩

theorem State.staleBinding_self (s : State) (z : Nat) (p : Port) :
    if (s.binding p).state = .bound ∧ (s.binding p).zone = z then
      (s.staleBinding z p).binding p = { s.binding p with state := .stale }
        ∧ (s.staleBinding z p).link p = (s.link p).offer (.bedStale z)
    else (s.staleBinding z p).binding p = s.binding p ∧ (s.staleBinding z p).link p = s.link p := by
  dsimp only [State.staleBinding]
  split_ifs with h
  · exact ⟨by rw [State.binding_notify, State.binding_setBinding, if_pos rfl],
      by rw [State.link_notify, if_pos rfl]; rfl⟩
  · exact ⟨rfl, rfl⟩

theorem staleAll_of_not_mem {l : List Port} {p : Port} (h : p ∉ l) (s : State) (z : Nat) :
    (l.foldl (fun s q => s.staleBinding z q) s).binding p = s.binding p
      ∧ (l.foldl (fun s q => s.staleBinding z q) s).link p = s.link p := by
  induction l generalizing s with
  | nil => exact ⟨rfl, rfl⟩
  | cons q rest ih =>
    obtain ⟨hq, hrest⟩ : p ≠ q ∧ p ∉ rest := by simpa using h
    obtain ⟨hb, hl⟩ := ih hrest (s.staleBinding z q)
    obtain ⟨hb', hl'⟩ := State.staleBinding_of_ne (s := s) (z := z) (Ne.symm hq)
    exact ⟨hb.trans hb', hl.trans hl'⟩

/-- Each port's binding and link see the one change that is theirs. -/
theorem State.staleBindings_self (s : State) (z : Nat) (p : Port) :
    (s.staleBindings z).binding p = (s.staleBinding z p).binding p
      ∧ (s.staleBindings z).link p = (s.staleBinding z p).link p := by
  have hall : ∀ l : List Port, l.Nodup → p ∈ l → ∀ s : State,
      (l.foldl (fun s q => s.staleBinding z q) s).binding p = (s.staleBinding z p).binding p
        ∧ (l.foldl (fun s q => s.staleBinding z q) s).link p = (s.staleBinding z p).link p := by
    intro l hl hp
    induction l with
    | nil => exact absurd hp List.not_mem_nil
    | cons q rest ih =>
      obtain ⟨hq, hrest⟩ := List.nodup_cons.mp hl
      intro s
      by_cases hqp : q = p
      · subst hqp
        exact staleAll_of_not_mem hq _ z
      · obtain ⟨hb, hl⟩ := ih hrest ((List.mem_cons.mp hp).resolve_left (Ne.symm hqp)) (s.staleBinding z q)
        obtain ⟨hb', hl'⟩ := State.staleBinding_of_ne (s := s) (z := z) hqp
        have hself (u : State) (hub : u.binding p = s.binding p) (hul : u.link p = s.link p) :
            (u.staleBinding z p).binding p = (s.staleBinding z p).binding p
              ∧ (u.staleBinding z p).link p = (s.staleBinding z p).link p := by
          have hu := u.staleBinding_self z p
          have hs := s.staleBinding_self z p
          rw [hub, hul] at hu
          split_ifs at hu hs
          · exact ⟨hu.1.trans hs.1.symm, hu.2.trans hs.2.symm⟩
          · exact ⟨hu.1.trans hs.1.symm, hu.2.trans hs.2.symm⟩
        obtain ⟨hb2, hl2⟩ := hself _ hb' hl'
        exact ⟨hb.trans hb2, hl.trans hl2⟩
  exact hall allPorts (by decide) (mem_allPorts p) s

/-- Settles O31. -/
theorem staleBindingsAreNoticed : Obligations.StaleBindingsAreNoticed := by
  intro s z p hit
  obtain ⟨hb, hl⟩ := s.staleBindings_self z p
  have h := s.staleBinding_self z p
  rw [hb, hl]
  exact ⟨fun hp => by rwa [if_pos hp] at h, fun hp => by rwa [if_neg hp] at h⟩

/-- R19: a binding that goes STALE stays a binding of its zone. -/
theorem State.binding_staleBindings (s : State) (z : Nat) (p : Port) :
    ((s.staleBindings z).binding p).zone = (s.binding p).zone
      ∧ (((s.staleBindings z).binding p).state = .none ↔ (s.binding p).state = .none) := by
  rw [(s.staleBindings_self z p).1]
  have h := s.staleBinding_self z p
  split_ifs at h with hp
  · rw [h.1]
    simp [hp.1]
  · rw [h.1]
    exact ⟨rfl, Iff.rfl⟩

end Sys2Proof.Machine
end

section
/-! The law of the arcs: a port holds at most one job, in the table of its bound bed, and a torch that waits or is lit serves it
(R43, R49, R52, R60). -/

namespace Sys2Proof.Machine

open Sys2Proof

/-! ## The job a port holds -/

/-- R43: the job of bed `b` is one that port `p` holds. -/
def State.Holds (s : State) (p : Port) (b : Nat) (j : Job) : Prop :=
  j ∈ (s.table b).jobs ∧ j.taker = some p ∧ j.state.active = true

theorem State.mem_allJobs {s : State} {b : Nat} {j : Job} : (b, j) ∈ s.allJobs ↔ j ∈ (s.table b).jobs := by
  constructor
  · intro h
    obtain ⟨c, -, hj⟩ := List.mem_flatMap.mp h
    obtain ⟨k, hk, he⟩ := List.mem_map.mp hj
    cases he
    exact hk
  · intro h
    exact List.mem_flatMap.mpr ⟨b, List.mem_range.mpr (State.lt_of_mem_jobs h), List.mem_map_of_mem h⟩

theorem State.holds_of_heldJob {s : State} {p : Port} {b : Nat} {j : Job} (h : s.heldJob p = some (b, j)) : s.Holds p b j := by
  have hp := List.find?_some (show List.find? _ s.allJobs = some (b, j) from h)
  have hm := List.mem_of_find?_eq_some (show List.find? _ s.allJobs = some (b, j) from h)
  simp only [Bool.and_eq_true, decide_eq_true_eq] at hp
  exact ⟨State.mem_allJobs.mp hm, hp⟩

theorem State.not_holds_of_heldJob {s : State} {p : Port} (h : s.heldJob p = none) (b : Nat) (j : Job) : ¬ s.Holds p b j := by
  rintro ⟨hm, ht, ha⟩
  have := List.find?_eq_none.mp (show List.find? _ s.allJobs = none from h) _ (State.mem_allJobs.mpr hm)
  simp [ht, ha] at this

/-- A number names one job that is held. -/
theorem State.Holds.eq_of_number {s : State} (hl : s.TableLaw) {p q : Port} {b : Nat} {j k : Job} (hj : s.Holds p b j)
    (hk : s.Holds q b k) (hn : k.number = j.number) : q = p ∧ k = j := by
  obtain rfl := hl.eq_of_number hj.1 hk.1 hn
  exact ⟨Option.some_inj.mp (hk.2.1.symm.trans hj.2.1), rfl⟩

/-! ## The law of one port -/

/-- R43, R49, R52, R60: the law for one port. -/
structure State.ArcOk (s : State) (p : Port) : Prop where
  one : ∀ {b c j k}, s.Holds p b j → s.Holds p c k → b = c ∧ j = k
  bed : ∀ {b j}, s.Holds p b j → (s.binding p).state ≠ .none ∧ (s.binding p).zone = b
  kind : (s.binding p).state ≠ .none → (s.desc (s.binding p).zone).kind = .bed
  serves : ∀ {st}, (s.torch p).state.serves = some st →
    ∃ b j, s.Holds p b j ∧ j.state = st ∧ (s.torch p).job = some (b, j.number)

theorem State.ArcOk.heldJob {s : State} {p : Port} (h : s.ArcOk p) {b : Nat} {j : Job} (hj : s.Holds p b j) :
    s.heldJob p = some (b, j) := by
  cases hh : s.heldJob p with
  | none => exact absurd hj (State.not_holds_of_heldJob hh b j)
  | some ck =>
    obtain ⟨rfl, rfl⟩ := h.one (State.holds_of_heldJob hh) hj
    rfl

theorem State.arcLaw_iff {s : State} : s.ArcLaw ↔ ∀ p, s.ArcOk p := by
  constructor
  · intro h p
    obtain ⟨hone, hbed, hkind, hserves⟩ := h p
    refine ⟨fun {b c j k} hj hk => ?_, fun hj => hbed _ (State.mem_allJobs.mpr hj.1) hj.2.1 hj.2.2, hkind, fun {st} hst => ?_⟩
    · exact Prod.mk.inj (hone _ (State.mem_allJobs.mpr hj.1) _ (State.mem_allJobs.mpr hk.1) hj.2.1 hj.2.2 hk.2.1 hk.2.2)
    · rw [hst, Option.all_some] at hserves
      cases hheld : s.heldJob p with
      | none => simp [hheld] at hserves
      | some bj =>
        simp only [hheld, Option.any_some, Bool.and_eq_true, decide_eq_true_eq] at hserves
        exact ⟨bj.1, bj.2, State.holds_of_heldJob hheld, hserves⟩
  · intro h p
    refine ⟨fun x hx y hy hxt hxa hyt hya => ?_, fun x hx ht ha => (h p).bed ⟨State.mem_allJobs.mp hx, ht, ha⟩, (h p).kind, ?_⟩
    · exact Prod.ext_iff.mpr ((h p).one ⟨State.mem_allJobs.mp hx, hxt, hxa⟩ ⟨State.mem_allJobs.mp hy, hyt, hya⟩)
    · cases hst : (s.torch p).state.serves with
      | none => rfl
      | some st =>
        obtain ⟨b, j, hj, hstate, hjob⟩ := (h p).serves hst
        rw [Option.all_some, (h p).heldJob hj]
        simp [hstate, hjob]

/-- The law of one port is kept by a change of its job under which the torch still serves it. -/
theorem State.ArcOk.change {s t : State} {q : Port} (hs : s.ArcOk q) (hbind : t.binding q = s.binding q)
    (hkind : ∀ z, (t.desc z).kind = (s.desc z).kind) (g : Nat → Job → Job)
    (hheld : ∀ {c k'}, t.Holds q c k' → ∃ k, s.Holds q c k ∧ k' = g c k)
    (hserves : ∀ {st}, (t.torch q).state.serves = some st →
      ∃ c k, t.Holds q c k ∧ k.state = st ∧ (t.torch q).job = some (c, k.number)) : t.ArcOk q where
  one hj hk := by
    obtain ⟨j, hj', rfl⟩ := hheld hj
    obtain ⟨k, hk', rfl⟩ := hheld hk
    obtain ⟨rfl, rfl⟩ := hs.one hj' hk'
    exact ⟨rfl, rfl⟩
  bed hj := by
    obtain ⟨j, hj, -⟩ := hheld hj
    exact hbind ▸ hs.bed hj
  kind h := by
    rw [hbind] at h ⊢
    rw [hkind]
    exact hs.kind h
  serves := hserves

/-- The same where the torch is as it was, or serves no job, and a job that it serves keeps its number and its state. -/
theorem State.ArcOk.still {s t : State} {q : Port} (hs : s.ArcOk q) (hbind : t.binding q = s.binding q)
    (hkind : ∀ z, (t.desc z).kind = (s.desc z).kind) (g : Nat → Job → Job)
    (hheld : ∀ {c k'}, t.Holds q c k' → ∃ k, s.Holds q c k ∧ k' = g c k)
    (hserves : ∀ {st}, (t.torch q).state.serves = some st →
      (s.torch q).state.serves = some st ∧ (t.torch q).job = (s.torch q).job
      ∧ ∀ {c k}, s.Holds q c k → t.Holds q c (g c k) ∧ (g c k).state = k.state ∧ (g c k).number = k.number) : t.ArcOk q :=
  hs.change hbind hkind g hheld fun hst => by
    obtain ⟨hst, hjob, hkeep⟩ := hserves hst
    obtain ⟨c, k, hk, hstate, hkjob⟩ := hs.serves hst
    obtain ⟨hheld', hstate', hnumber⟩ := hkeep hk
    exact ⟨c, g c k, hheld', hstate'.trans hstate, by rw [hjob, hkjob, hnumber]⟩

/-! ## What the operations on tables leave held -/

theorem State.binding_congr {s t : State} (h : t.bindings = s.bindings) (q : Port) : t.binding q = s.binding q := by
  simp [State.binding, h]

theorem State.desc_congr {s t : State} (h : t.zones = s.zones) (z : Nat) : t.desc z = s.desc z := by
  simp [State.desc, State.zone, h]

theorem State.holds_congr {s t : State} (h : t.tables = s.tables) {q : Port} {c : Nat} {k : Job} :
    t.Holds q c k ↔ s.Holds q c k := by
  rw [State.Holds, State.Holds, State.table_congr h]

theorem State.heldJob_congr {s t : State} (h : t.tables = s.tables) (p : Port) : t.heldJob p = s.heldJob p := by
  simp [State.heldJob, State.allJobs, State.table, h]

theorem State.setJob_congr {s t : State} (h : t.tables = s.tables) (b n : Nat) (f : Job → Job) :
    (t.setJob b n f).tables = (s.setJob b n f).tables := by
  simp [State.setJob, State.setTable, State.table, h]

theorem State.tables_admitTorch {s : State} (own : Option Port) {p : Port} {b : Nat} {j : Job}
    (hj : s.heldJob p = some (b, j)) :
    (s.admitTorch own p).tables = (s.setJob b j.number fun k => { k with state := .starting }).tables := by
  have hheld (t' : Torch) : ((s.unqueue p).setTorch p t').heldJob p = some (b, j) := by
    rw [State.heldJob_congr (s := s) (by simp), hj]
  simp only [State.admitTorch, hheld]
  split_ifs
  · exact State.setJob_congr (by simp) b _ _
  · simpa using State.setJob_congr (by simp) b _ _

theorem State.tables_establish {s : State} {p : Port} {b : Nat} {j : Job} (hj : s.heldJob p = some (b, j))
    (hstate : j.state = .starting) :
    (s.establish p).tables = (s.setJob b j.number fun k => { k with state := .burning }).tables := by
  have hheld (t' : Torch) : (s.setTorch p t').heldJob p = some (b, j) := by
    rw [State.heldJob_congr (s := s) (by simp), hj]
  simp only [State.establish, hheld, hstate, if_true]
  exact State.setJob_congr (by simp) b _ _

theorem State.mem_setJob {s : State} {b n : Nat} {f : Job → Job} {c : Nat} {k' : Job} :
    k' ∈ ((s.setJob b n f).table c).jobs ↔
      ∃ k ∈ (s.table c).jobs, k' = if c = b then changeJob n f k else k := by
  rw [State.setJob, State.table_setTable]
  split_ifs with h1 h2 h2
  · simp [h1.1, eq_comm]
  · exact absurd h1.1.symm h2
  · have : ∀ k ∈ (s.table c).jobs, False := fun k hk => h1 ⟨h2.symm, State.lt_of_mem_jobs hk⟩
    exact ⟨fun hk => absurd (this _ hk) id, fun ⟨k, hk, _⟩ => absurd (this _ hk) id⟩
  · simp

theorem State.mem_removeJob {s : State} {b : Nat} {j : Job} {o : Completion} {c : Nat} {k : Job} :
    k ∈ ((s.removeJob b j o).table c).jobs ↔ k ∈ (s.table c).jobs ∧ (c = b → k.number ≠ j.number) := by
  have htable (d : Nat) : (s.push b (j.logRecord o)).table d = s.table d := State.table_congr (by simp) d
  rw [State.removeJob, State.table_setTable, htable, htable]
  by_cases h : b = c ∧ c < 48
  · simp [h]
  · rw [if_neg h]
    exact ⟨fun hk => ⟨hk, fun hc => absurd ⟨hc.symm, State.lt_of_mem_jobs hk⟩ h⟩, fun hk => hk.1⟩

/-- R48, R51, R52: what is held after a job has lost its taker. -/
theorem State.holds_setJob_free {s : State} {b n : Nat} {f : Job → Job} (hf : ∀ j, (f j).taker = none) {q : Port} {c : Nat}
    {k : Job} : (s.setJob b n f).Holds q c k ↔ s.Holds q c k ∧ (c = b → k.number ≠ n) := by
  simp only [State.Holds, State.mem_setJob]
  constructor
  · rintro ⟨⟨k, hk, rfl⟩, ht, ha⟩
    by_cases hc : c = b
    · by_cases hn : k.number = n
      · simp [hc, changeJob, hn, hf] at ht
      · rw [if_pos hc, changeJob, if_neg hn] at ht ha ⊢
        exact ⟨⟨hk, ht, ha⟩, fun _ => hn⟩
    · rw [if_neg hc] at ht ha ⊢
      exact ⟨⟨hk, ht, ha⟩, fun h => absurd h hc⟩
  · rintro ⟨⟨hk, ht, ha⟩, hn⟩
    refine ⟨⟨k, hk, ?_⟩, ht, ha⟩
    split_ifs with hc
    · rw [changeJob, if_neg (hn hc)]
    · rfl

theorem State.holds_removeJob {s : State} {b : Nat} {j : Job} {o : Completion} {q : Port} {c : Nat} {k : Job} :
    (s.removeJob b j o).Holds q c k ↔ s.Holds q c k ∧ (c = b → k.number ≠ j.number) := by
  simp only [State.Holds, State.mem_removeJob]
  exact ⟨fun ⟨⟨hk, hn⟩, h⟩ => ⟨⟨hk, h⟩, hn⟩, fun ⟨⟨hk, h⟩, hn⟩ => ⟨⟨hk, hn⟩, h⟩⟩

/-! ## The moves -/

section

variable {s t : State} (hs : s.ArcLaw)
include hs

theorem State.ArcLaw.ok (p : Port) : s.ArcOk p := State.arcLaw_iff.mp hs p

/-- The law reads the bindings, the kinds of the zones, the tables, and what the torches serve. -/
theorem State.ArcLaw.congr (hbind : t.bindings = s.bindings) (hkind : ∀ z, (t.desc z).kind = (s.desc z).kind)
    (htable : t.tables = s.tables) (htorch : ∀ q, (t.torch q).state.serves = none ∨
      (t.torch q).state = (s.torch q).state ∧ (t.torch q).job = (s.torch q).job) : t.ArcLaw :=
  State.arcLaw_iff.mpr fun q => (hs.ok q).still (State.binding_congr hbind q) hkind (fun _ k => k)
    (fun hk => ⟨_, (State.holds_congr htable).mp hk, rfl⟩) fun {st} hst => by
      obtain hq | ⟨hstate, hjob⟩ := htorch q
      · rw [hq] at hst
        cases hst
      · exact ⟨hstate ▸ hst, hjob, fun hk => ⟨(State.holds_congr htable).mpr hk, rfl, rfl⟩⟩

theorem State.ArcLaw.torches (hbind : t.bindings = s.bindings) (hzones : t.zones = s.zones) (htable : t.tables = s.tables)
    (htorch : ∀ q, (t.torch q).state.serves = none ∨
      (t.torch q).state = (s.torch q).state ∧ (t.torch q).job = (s.torch q).job) : t.ArcLaw :=
  hs.congr hbind (fun z => by rw [State.desc_congr hzones]) htable htorch

/-- A change of the jobs that leaves what the law reads. -/
theorem State.ArcLaw.mapJobs {g : Nat → Job → Job} (hg : ∀ c, KeepsArc (g c)) (hbind : t.bindings = s.bindings)
    (hzones : t.zones = s.zones) (hmem : ∀ c k', k' ∈ (t.table c).jobs ↔ ∃ k ∈ (s.table c).jobs, k' = g c k)
    (htorch : ∀ q, (t.torch q).state = (s.torch q).state ∧ (t.torch q).job = (s.torch q).job) : t.ArcLaw := by
  refine State.arcLaw_iff.mpr fun q => ?_
  refine (hs.ok q).still (State.binding_congr hbind q) (fun z => by rw [State.desc_congr hzones]) g ?_ fun {st} hst => ?_
  · rintro c k' ⟨hm, ht, ha⟩
    obtain ⟨k, hk, rfl⟩ := (hmem c k').mp hm
    obtain ⟨-, -, hstate, htaker⟩ := hg c k
    exact ⟨k, ⟨hk, htaker ▸ ht, hstate ▸ ha⟩, rfl⟩
  · refine ⟨(htorch q).1 ▸ hst, (htorch q).2, fun {c k} hk => ?_⟩
    obtain ⟨hnumber, -, hstate, htaker⟩ := hg c k
    exact ⟨⟨(hmem c _).mpr ⟨k, hk.1, rfl⟩, htaker.trans hk.2.1, by rw [hstate]; exact hk.2.2⟩, hstate, hnumber⟩

theorem State.ArcLaw.reads (h : SameOn [.zones, .bindings, .tables, .torches] s t) : t.ArcLaw :=
  hs.congr (h .bindings (by simp)) (fun z => by rw [State.desc_congr (h .zones (by simp))]) (h .tables (by simp))
    fun q => .inr (by simp [State.torch_congr (h .torches (by simp)) q])

/-- R49: the torch of a port and the job it serves go on to their next state together. -/
theorem State.ArcLaw.advance (hl : s.TableLaw) {p : Port} {b : Nat} {j : Job} (hj : s.Holds p b j) {x : JobState} {t' : Torch}
    (hx : t'.state.serves = some x) (hactive : x.active = true) (hjob : t'.job = some (b, j.number))
    (hbind : t.bindings = s.bindings) (hzones : t.zones = s.zones)
    (htables : t.tables = (s.setJob b j.number fun k => { k with state := x }).tables)
    (htorch : ∀ q, t.torch q = if p = q then t' else s.torch q) : t.ArcLaw := by
  set g : Nat → Job → Job := fun c k => if c = b then changeJob j.number (fun k => { k with state := x }) k else k with hg
  have hself : g b j = { j with state := x } := by simp [hg, changeJob]
  have hother {q : Port} {c : Nat} {k : Job} (hq : p ≠ q) (hk : s.Holds q c k) : g c k = k := by
    simp only [hg, changeJob]
    split_ifs with hc hn
    · subst hc
      exact absurd (hj.eq_of_number hl hk hn).1.symm hq
    · rfl
    · rfl
  have hmem {c : Nat} {k' : Job} : k' ∈ (t.table c).jobs ↔ ∃ k ∈ (s.table c).jobs, k' = g c k := by
    rw [State.table_congr htables, State.mem_setJob]
  have hbefore {q : Port} {c : Nat} {k' : Job} (hk' : t.Holds q c k') : ∃ k, s.Holds q c k ∧ k' = g c k := by
    obtain ⟨hm, ht, ha⟩ := hk'
    obtain ⟨k, hk, rfl⟩ := hmem.mp hm
    refine ⟨k, ?_, rfl⟩
    by_cases hit : c = b ∧ k.number = j.number
    · obtain ⟨rfl, hn⟩ := hit
      obtain rfl := hl.eq_of_number hj.1 hk hn
      rw [hself] at ht
      exact ⟨hk, ht, hj.2.2⟩
    · have : g c k = k := by
        simp only [hg, changeJob]
        split_ifs with hc hn
        · exact absurd ⟨hc, hn⟩ hit
        · rfl
        · rfl
      rw [this] at ht ha
      exact ⟨hk, ht, ha⟩
  refine State.arcLaw_iff.mpr fun q => ?_
  have hkind (z : Nat) : (t.desc z).kind = (s.desc z).kind := by rw [State.desc_congr hzones]
  by_cases hq : p = q
  · subst hq
    refine (hs.ok p).change (State.binding_congr hbind p) hkind g hbefore fun {st} hst => ?_
    rw [htorch, if_pos rfl] at hst ⊢
    refine ⟨b, g b j, ⟨hmem.mpr ⟨j, hj.1, rfl⟩, ?_, ?_⟩, ?_, ?_⟩
    · rw [hself]
      exact hj.2.1
    · rw [hself]
      exact hactive
    · rw [hself]
      exact Option.some_inj.mp (hx.symm.trans hst)
    · rw [hself]
      exact hjob
  · refine (hs.ok q).still (State.binding_congr hbind q) hkind g hbefore fun {st} hst => ?_
    rw [htorch, if_neg hq] at hst ⊢
    refine ⟨hst, rfl, fun {c k} hk => ?_⟩
    rw [hother hq hk]
    exact ⟨⟨hmem.mpr ⟨k, hk.1, (hother hq hk).symm⟩, hk.2⟩, rfl, rfl⟩

/-- A job is held no longer, and its port's torch serves none. -/
theorem State.ArcLaw.released {b n : Nat} (hbind : t.bindings = s.bindings) (hzones : t.zones = s.zones)
    (hheld : ∀ {q c k}, t.Holds q c k ↔ s.Holds q c k ∧ (c = b → k.number ≠ n))
    (htorch : ∀ q, (t.torch q).state.serves = none ∨ ((t.torch q).state = (s.torch q).state
      ∧ (t.torch q).job = (s.torch q).job ∧ ∀ {k}, s.Holds q b k → k.number ≠ n)) : t.ArcLaw := by
  refine State.arcLaw_iff.mpr fun q => ?_
  refine (hs.ok q).still (State.binding_congr hbind q) (fun z => by rw [State.desc_congr hzones]) (fun _ k => k)
    (fun hk => ⟨_, (hheld.mp hk).1, rfl⟩) fun {st} hst => ?_
  obtain hq | ⟨hstate, hjob, hn⟩ := htorch q
  · rw [hq] at hst
    cases hst
  · exact ⟨hstate ▸ hst, hjob, fun {c k} hk => ⟨hheld.mpr ⟨hk, fun hc => hn (hc ▸ hk)⟩, rfl, rfl⟩⟩

end

theorem State.Dark.serves {s : State} {p : Port} (h : s.Dark p) : (s.torch p).state.serves = none := by
  obtain h | h := h <;> rw [h] <;> rfl

theorem Torch.Gone.serves {t : Torch} (h : t.Gone) : t.state.serves = none := by
  obtain ⟨h | h, -⟩ := h <;> rw [h] <;> rfl

theorem State.torch_leaveTorch_serves (s : State) (p q : Port) {t' : Torch} (ht : t'.Gone) :
    ((s.leaveTorch p t').torch q).state.serves = none ∨ ((s.leaveTorch p t').torch q).state = (s.torch q).state
      ∧ ((s.leaveTorch p t').torch q).job = (s.torch q).job := by
  have hclose (k : Nat) (u : Torch) : (u.closedUp k).state = u.state ∧ (u.closedUp k).job = u.job := by
    unfold Torch.closedUp
    split_ifs <;> exact ⟨rfl, rfl⟩
  by_cases hq : p = q
  · subst hq
    exact .inl (by rw [s.state_leaveTorch_self, ht.serves])
  · rw [State.torch_leaveTorch]
    simp only [hq, if_false]
    split_ifs
    · exact .inr (hclose _ _)
    · exact .inr ⟨rfl, rfl⟩

/-- R52: a job that a port's torch waits for is TAKEN. -/
theorem State.ArcOk.serves_of_taken {s : State} {p : Port} (h : s.ArcOk p) {b : Nat} {j : Job} (hj : s.Holds p b j)
    (hstate : j.state = .taken) (hwait : (s.torch p).state ≠ .waiting) : (s.torch p).state.serves = none := by
  cases hst : (s.torch p).state.serves with
  | none => rfl
  | some st =>
    obtain ⟨c, k, hk, rfl, -⟩ := h.serves hst
    obtain ⟨-, rfl⟩ := h.one hj hk
    rw [hstate] at hst
    cases hx : (s.torch p).state <;> simp_all [TorchState.serves]

theorem ArcMove.arcLaw {s t : State} (h : ArcMove s t) (hl : s.TableLaw) (hq : s.QueueLaw) (hs : s.ArcLaw) : t.ArcLaw := by
  have hnot {p q : Port} {b : Nat} {j k : Job} (hj : s.Holds p b j) (hne : p ≠ q) (hk : s.Holds q b k) :
      k.number ≠ j.number := fun hn => hne (hj.eq_of_number hl hk hn).1.symm
  have hsame (t : State) (ht : t.torches = s.torches) (q : Port) :
      (t.torch q).state = (s.torch q).state ∧ (t.torch q).job = (s.torch q).job := by simp [State.torch_congr ht q]
  cases h with
  | same h => exact hs.reads fun x hx => h x (by simp [arcPieces] at hx ⊢; tauto)
  | start own p hp hclear =>
    have hwait : (s.torch p).state = .waiting := hq.mem_iff.mp hp
    obtain ⟨b, j, hj, -, hjob⟩ := (hs.ok p).serves (st := .taken) (by rw [hwait]; rfl)
    exact hs.advance hl (x := .starting) (t' := { s.torch p with
        state := .starting, seq := s.litCount + 1, establish := some s.params.establishLimit, wait := none })
      hj rfl rfl hjob (by simp) (by simp) (State.tables_admitTorch own ((hs.ok p).heldJob hj)) (s.torch_admit own p)
  | burn p hp =>
    obtain ⟨b, j, hj, hstate, hjob⟩ := (hs.ok p).serves (st := .starting) (by rw [hp]; rfl)
    exact hs.advance hl (x := .burning) (t' := { s.torch p with state := .burning, establish := none })
      hj rfl rfl hjob (by simp) (by simp) (State.tables_establish ((hs.ok p).heldJob hj) hstate) (s.torch_establish p)
  | out p t' hp ht =>
    exact hs.torches (by simp) (by simp) (by simp) fun q => s.torch_leaveTorch_serves p q ht
  | quit p t' hp ht =>
    exact hs.torches (by simp) (by simp) (by simp)
      fun q => (s.unqueue p).torch_leaveTorch_serves p q ht
  | clear p hp =>
    exact hs.torches (by simp) (by simp) (by simp)
      fun q => s.torch_leaveTorch_serves p q gone_idle
  | @mark b n f hf =>
    refine hs.mapJobs (g := fun c k => if c = b then changeJob n f k else k) (fun c k => ?_) (by simp) (by simp)
      (fun c k' => State.mem_setJob) (hsame _ (by simp))
    dsimp only [changeJob]
    split_ifs
    · exact hf k
    · exact ⟨rfl, rfl, rfl, rfl⟩
    · exact ⟨rfl, rfl, rfl, rfl⟩
  | @hold p b j d hj hp =>
    have hheld := State.holds_of_heldJob hj
    refine hs.released (by simp) (by simp) (State.holds_setJob_free fun _ => rfl) fun q => ?_
    by_cases hpq : p = q
    · exact .inl (by rw [(hsame _ (by simp) q).1, ← hpq, hp.serves])
    · exact .inr ⟨(hsame _ (by simp) q).1, (hsame _ (by simp) q).2, hnot hheld hpq⟩
  | @gone p b j j' o hj hp hn =>
    have hheld := State.holds_of_heldJob hj
    refine hs.released (by simp) (by simp) State.holds_removeJob fun q => ?_
    by_cases hpq : p = q
    · exact .inl (by rw [(hsame _ (by simp) q).1, ← hpq, hp.serves])
    · exact .inr ⟨(hsame _ (by simp) q).1, (hsame _ (by simp) q).2, fun hk => hn ▸ hnot hheld hpq hk⟩
  | @remove b n j o hj hidle =>
    obtain ⟨hm, -⟩ := State.mem_of_job hj
    refine hs.released (by simp) (by simp) State.holds_removeJob fun q => ?_
    refine .inr ⟨(hsame _ (by simp) q).1, (hsame _ (by simp) q).2, fun {k} hk hn => ?_⟩
    obtain rfl := hl.eq_of_number hm hk.1 hn
    have := hidle hk.2.2
    simp [hk.2.1] at this
  | @withdraw q b n j o hj hstate htaker hwait =>
    have hheld : s.Holds q b j := ⟨(State.mem_of_job hj).1, htaker, by rw [hstate]; rfl⟩
    refine hs.released (by simp) (by simp) State.holds_removeJob fun r => ?_
    by_cases hqr : q = r
    · exact .inl (by rw [(hsame _ (by simp) r).1, ← hqr, (hs.ok q).serves_of_taken hheld hstate hwait])
    · exact .inr ⟨(hsame _ (by simp) r).1, (hsame _ (by simp) r).2, hnot hheld hqr⟩
  | @withdrawStart q b n j o hj hstate htaker hwait =>
    have hheld : s.Holds q b j := ⟨(State.mem_of_job hj).1, htaker, by rw [hstate]; rfl⟩
    have hafter {r : Port} {c : Nat} {k : Job} : (((s.removeJob b j o).unqueue q).idleTorch q).Holds r c k ↔
        s.Holds r c k ∧ (c = b → k.number ≠ j.number) :=
      (State.holds_congr (s := s.removeJob b j o) (by simp)).trans State.holds_removeJob
    refine hs.released (by simp) (by simp) hafter fun r => ?_
    by_cases hqr : q = r
    · have hdark := ((s.removeJob b j o).unqueue q).dark_leaveTorch q gone_idle
      exact .inl (by rw [← hqr]; exact hdark.serves)
    · obtain h | ⟨h1, h2⟩ := ((s.removeJob b j o).unqueue q).torch_leaveTorch_serves q r gone_idle
      · exact .inl h
      · have := hsame ((s.removeJob b j o).unqueue q) (by simp) r
        exact .inr ⟨h1.trans this.1, h2.trans this.2, hnot hheld hqr⟩

/-- R43, R49: the three laws that the arcs rest on, kept by every chain of moves. -/
abbrev State.ArcsLaw (s : State) : Prop := s.QueueLaw ∧ s.TableLaw ∧ s.ArcLaw

theorem ArcMove.tableLaw {s t : State} (h : ArcMove s t) (hs : s.TableLaw) : t.TableLaw := by
  have hops := tableLaw_changesKeep
  cases h with
  | same h => exact hs.reads fun x hx => h x (by simp_all [arcPieces])
  | start own p => exact hops.admitTorch own p hs
  | burn p => exact hops.establish p hs
  | out p t' => exact hops.leaveTorch p t' hs
  | quit p t' => exact hops.leaveTorch p t' (hops.queue _ hs)
  | clear p => exact hops.leaveTorch p _ hs
  | mark b n hf => exact hs.setJob b n fun j => ⟨(hf j).1, (hf j).2.1⟩
  | hold d => exact hs.setJob _ _ fun j => ⟨rfl, rfl⟩
  | gone j' o => exact hs.removeJob _ _ _
  | remove o => exact hs.removeJob _ _ _
  | withdraw o => exact hs.removeJob _ _ _
  | withdrawStart o => exact hops.leaveTorch _ _ (hops.queue _ (hs.removeJob _ _ _))

theorem ArcMove.arcsLaw {s t : State} (h : ArcMove s t) (hs : s.ArcsLaw) : t.ArcsLaw :=
  ⟨h.torchMove.queueLaw hs.1, h.tableLaw hs.2.1, h.arcLaw hs.2.1 hs.1 hs.2.2⟩

theorem ArcMoves.arcLaw {s t : State} (h : ArcMoves s t) (hs : s.ArcsLaw) : t.ArcLaw :=
  (h.keeps (P := State.ArcsLaw) ArcMove.arcsLaw hs).2.2

/-! ## The zone table and the bindings -/

theorem State.desc_setZone (s : State) (z y : Nat) (e : Zone) :
    (s.setZone z e).desc y = if z = y ∧ y < 48 then e.desc else s.desc y := by
  rw [State.desc, State.zone_setZone]
  split_ifs <;> rfl

theorem State.desc_setUsed (s : State) (z y : Nat) (f : Bool) : (s.setUsed z f).desc y = s.desc y := by
  rw [State.setUsed, State.desc_setZone]
  split_ifs with h
  · rw [← h.1]
    rfl
  · rfl

theorem State.table_remakeBed (s : State) (z y : Nat) (old new : ZoneKind) :
    (s.remakeBed z old new).table y = if decide (old = .bed) ≠ decide (new = .bed) ∧ z = y then .fresh else s.table y := by
  have hlog (t : JobTable) : ((s.setTable z t).setLog z .fresh).table y = (s.setTable z t).table y :=
    State.table_congr (by simp) y
  unfold State.remakeBed
  by_cases h : decide (old = .bed) = decide (new = .bed)
  · simp [h]
  · rw [if_neg h, hlog, State.table_setTable]
    by_cases hz : z = y
    · by_cases hy : y < 48
      · simp [h, hz, hy]
      · simp [hz, hy, h, State.table]
    · simp [hz]

/-- A bed that is bound, or whose table holds a job, is in use. -/
theorem State.not_zoneInUse {s : State} {z : Nat} (h : s.zoneInUse z = false) :
    (∀ q, (s.binding q).state ≠ .none → (s.binding q).zone ≠ z) ∧ (s.table z).jobs = [] := by
  simp only [State.zoneInUse, Bool.or_eq_false_iff, Bool.not_eq_false', List.isEmpty_iff] at h
  refine ⟨fun q hq hz => ?_, h.1.1.1.2⟩
  exact List.ne_nil_of_mem (State.mem_bindersOf.mpr ⟨hq, hz⟩) h.1.2

section

variable {s t : State} (hs : s.ArcLaw)
include hs

/-- The zone table changes where no binding and no job is, and bindings of other zones keep their zone. -/
theorem State.ArcLaw.zones (htorch : t.torches = s.torches)
    (hheld : ∀ {q c k}, t.Holds q c k ↔ s.Holds q c k)
    (hbind : ∀ q, (t.binding q).zone = (s.binding q).zone ∧ ((t.binding q).state = .none ↔ (s.binding q).state = .none))
    (hkind : ∀ q, (s.binding q).state ≠ .none → (t.desc (s.binding q).zone).kind = (s.desc (s.binding q).zone).kind) :
    t.ArcLaw := by
  refine State.arcLaw_iff.mpr fun q => ?_
  obtain ⟨hzone, hnone⟩ := hbind q
  refine ⟨fun hj hk => (hs.ok q).one (hheld.mp hj) (hheld.mp hk), fun hj => ?_, fun h => ?_, fun hst => ?_⟩
  · obtain ⟨h1, h2⟩ := (hs.ok q).bed (hheld.mp hj)
    exact ⟨fun h => h1 (hnone.mp h), hzone.trans h2⟩
  · rw [hzone, hkind q fun h' => h (hnone.mpr h')]
    exact (hs.ok q).kind fun h' => h (hnone.mpr h')
  · rw [State.torch_congr htorch] at hst ⊢
    obtain ⟨b, j, hj, h⟩ := (hs.ok q).serves hst
    exact ⟨b, j, hheld.mpr hj, h⟩

/-- R43: a port without a binding holds no job. -/
theorem State.ArcLaw.not_holds {p : Port} (h : (s.binding p).state = .none) (b : Nat) (j : Job) : ¬ s.Holds p b j :=
  fun hj => ((hs.ok p).bed hj).1 h

/-- R49: a port that holds no job has no torch that serves one. -/
theorem State.ArcLaw.serves_none {p : Port} (h : ∀ b j, ¬ s.Holds p b j) : (s.torch p).state.serves = none := by
  cases hst : (s.torch p).state.serves with
  | none => rfl
  | some st =>
    obtain ⟨b, j, hj, -⟩ := (hs.ok p).serves hst
    exact absurd hj (h b j)

/-- R17, R18: a binding changes while its port holds no job. -/
theorem State.ArcLaw.rebound {p : Port} {b : Binding} (htables : t.tables = s.tables) (htorch : t.torches = s.torches)
    (hkinds : ∀ z, (t.desc z).kind = (s.desc z).kind) (hbind : ∀ q, t.binding q = if p = q then b else s.binding q)
    (hbed : b.state ≠ .none → (s.desc b.zone).kind = .bed)
    (hheld : ∀ {c k}, s.Holds p c k → b.state ≠ .none ∧ b.zone = c) : t.ArcLaw := by
  refine State.arcLaw_iff.mpr fun q => ?_
  have hcongr {q : Port} {c : Nat} {k : Job} : t.Holds q c k ↔ s.Holds q c k := State.holds_congr htables
  refine ⟨fun hj hk => (hs.ok q).one (hcongr.mp hj) (hcongr.mp hk), fun hj => ?_, fun h => ?_, fun hst => ?_⟩
  · rw [hbind]
    split_ifs with hq
    · exact hheld (hcongr.mp (hq ▸ hj))
    · exact (hs.ok q).bed (hcongr.mp hj)
  · rw [hbind] at h ⊢
    rw [hkinds]
    split_ifs at h ⊢
    · exact hbed h
    · exact (hs.ok q).kind h
  · rw [State.torch_congr htorch] at hst ⊢
    obtain ⟨c, k, hk, h⟩ := (hs.ok q).serves hst
    exact ⟨c, k, hcongr.mpr hk, h⟩

/-- R52: a port's job is one that none holds once the job has gone back to the queue. -/
theorem State.ArcLaw.requeued (hl : s.TableLaw) {b : Nat} {j : Job} (hj : j ∈ (s.table b).jobs)
    (hfree : ∀ {q}, s.Holds q b j → (s.torch q).state.serves = none) : (s.setJob b j.number Job.requeued).ArcLaw := by
  refine hs.released (by simp) (by simp) (State.holds_setJob_free fun _ => rfl) fun q => ?_
  have htorch : (s.setJob b j.number Job.requeued).torch q = s.torch q := State.torch_congr (by simp) q
  rw [htorch]
  by_cases hq : s.Holds q b j
  · exact .inl (hfree hq)
  · refine .inr ⟨rfl, rfl, fun {k} hk hn => hq ?_⟩
    obtain rfl := hl.eq_of_number hj hk.1 hn
    exact hk

end

end Sys2Proof.Machine
end

section
/-! The job tables at a release (R59). -/

namespace Sys2Proof.Machine

open Sys2Proof

/-! ## One table -/

/-- R59: a lit job whose cancel is pending leaves its table. -/
def Job.goesAtReset (j : Job) : Bool := j.state.lit && j.cancelPending

/-- R59: a job that stays is QUEUED or HELD as it was, or becomes HELD. -/
def Job.atReset (j : Job) : Job :=
  if j.state = .queued ∨ j.state = .held then j else { j with state := .held, taker := none, timer := none }

theorem Job.active_atReset (j : Job) : j.atReset.state.active = false := by
  unfold Job.atReset
  split_ifs with h
  · obtain h | h := h <;> rw [h] <;> rfl
  · rfl

theorem Job.atReset_of_active {j : Job} (h : j.state.active = true) : j.atReset = j.toHeld j.drops := by
  unfold Job.atReset
  rw [if_neg]
  · rfl
  · rintro (hj | hj) <;> rw [hj] at h <;> exact absurd h Bool.false_ne_true

theorem Job.atReset_of_not_active {j : Job} (h : j.state.active = false) : j.atReset = j := by
  unfold Job.atReset
  rw [if_pos]
  cases hj : j.state <;> simp_all [JobState.active]

/-- What the reset of one job does to its table. -/
def JobTable.resetOne (t : JobTable) (j : Job) : JobTable :=
  if j.goesAtReset then
    let left := t.jobs.filter fun k => decide (k.number ≠ j.number)
    ⟨left, if left.isEmpty then 1 else t.counter⟩
  else if j.state.active then { t with jobs := t.jobs.map (changeJob j.number (Job.toHeld j.drops)) }
  else t

/-- A job with a number of its own goes, or is as after a reset; the others are left. -/
theorem JobTable.resetOne_middle {past rest : List Job} {j : Job} (n : Nat)
    (hn : ((past ++ j :: rest).map Job.number).Nodup) :
    JobTable.resetOne ⟨past ++ j :: rest, n⟩ j =
      if j.goesAtReset then ⟨past ++ rest, if past ++ rest = [] then 1 else n⟩ else ⟨past ++ j.atReset :: rest, n⟩ := by
  rw [List.map_append, List.map_cons] at hn
  have hothers := (List.nodup_cons.mp (List.nodup_middle.mp hn)).1
  rw [← List.map_append] at hothers
  have hne : ∀ k ∈ past ++ rest, k.number ≠ j.number := fun k hk h => hothers (h ▸ List.mem_map_of_mem hk)
  have hpast : ∀ k ∈ past, k.number ≠ j.number := fun k hk => hne k (List.mem_append_left _ hk)
  have hrest : ∀ k ∈ rest, k.number ≠ j.number := fun k hk => hne k (List.mem_append_right _ hk)
  have hfilter {l : List Job} (h : ∀ k ∈ l, k.number ≠ j.number) :
      l.filter (fun k => decide (k.number ≠ j.number)) = l :=
    List.filter_eq_self.mpr fun k hk => decide_eq_true (h k hk)
  have hmap {l : List Job} (h : ∀ k ∈ l, k.number ≠ j.number) (f : Job → Job) : l.map (changeJob j.number f) = l := by
    conv_rhs => rw [← List.map_id l]
    exact List.map_congr_left fun k hk => if_neg (h k hk)
  unfold JobTable.resetOne
  by_cases hgone : j.goesAtReset = true
  · rw [if_pos hgone, if_pos hgone, List.filter_append, List.filter_cons_of_neg (by simp), hfilter hpast, hfilter hrest]
    simp only [List.isEmpty_iff]
  · rw [if_neg hgone, if_neg hgone]
    by_cases hactive : j.state.active = true
    · rw [if_pos hactive, List.map_append, List.map_cons, hmap hpast, hmap hrest, changeJob, if_pos rfl,
        Job.atReset_of_active hactive]
    · rw [if_neg hactive, Job.atReset_of_not_active (by simpa using hactive)]

/-- The table once every job of the list has been reset, those before it having been reset already. -/
theorem JobTable.foldl_resetOne (todo : List Job) (past : List Job) (n : Nat)
    (hn : ((past ++ todo).map Job.number).Nodup) :
    todo.foldl JobTable.resetOne ⟨past ++ todo, n⟩ =
      ⟨past ++ (todo.filter fun j => !j.goesAtReset).map Job.atReset,
        if past = [] ∧ todo ≠ [] ∧ todo.all Job.goesAtReset = true then 1 else n⟩ := by
  induction todo generalizing past n with
  | nil => simp
  | cons j rest ih =>
    rw [List.foldl_cons, JobTable.resetOne_middle n hn]
    by_cases hgone : j.goesAtReset = true
    · rw [if_pos hgone]
      have hn' : ((past ++ rest).map Job.number).Nodup :=
        hn.sublist (((List.sublist_cons_self j rest).append_left past).map _)
      rw [ih past _ hn']
      by_cases hp : past = []
      · by_cases hr : rest = []
        · simp [hp, hr, hgone]
        · simp [hp, hr, hgone]
      · simp [hp, hgone]
    · rw [if_neg hgone]
      have hn' : ((past ++ [j.atReset] ++ rest).map Job.number).Nodup := by
        have : j.atReset.number = j.number := by
          unfold Job.atReset
          split_ifs <;> rfl
        simpa [this] using hn
      have := ih (past ++ [j.atReset]) n hn'
      rw [List.append_assoc, List.singleton_append] at this
      simp [this, hgone]

/-! ## All tables -/

theorem State.table_resetJob (s : State) (b : Nat) (j : Job) (c : Nat) :
    (resetJob s (b, j)).table c = if b = c then (s.table c).resetOne j else s.table c := by
  have hfresh (h : ¬ c < 48) : (s.table c).resetOne j = s.table c := by
    have : s.table c = ⟨[], 1⟩ := by
      rw [State.table, dif_neg h]
      rfl
    rw [this]
    unfold JobTable.resetOne
    split_ifs <;> rfl
  have hpush (r : LogRecord) (d : Nat) : (s.push b r).table d = s.table d := State.table_congr (by simp) d
  unfold resetJob
  by_cases hb : b = c
  · subst hb
    rw [if_pos rfl]
    by_cases hlt : b < 48
    · unfold JobTable.resetOne Job.goesAtReset
      cases hstate : j.state <;> cases hc : j.cancelPending <;>
        simp [State.stopJob, State.removeJob, State.setJob, State.table_setTable, hlt, hc, hpush, JobState.lit, JobState.active]
    · rw [hfresh hlt]
      split_ifs
      · simp only [State.stopJob]
        split_ifs <;> simp [State.removeJob, State.setJob, State.table_setTable, hlt, hpush]
      · simp [State.setJob, State.table_setTable, hlt]
      · rfl
  · rw [if_neg hb]
    split_ifs
    · simp only [State.stopJob]
      split_ifs <;> simp [State.removeJob, State.setJob, State.table_setTable, hb, hpush]
    · simp [State.setJob, State.table_setTable, hb]
    · rfl

theorem State.table_foldl_resetJob (l : List (Nat × Job)) (s : State) (c : Nat) :
    (l.foldl resetJob s).table c = ((l.filter fun bj => decide (bj.1 = c)).map Prod.snd).foldl JobTable.resetOne (s.table c) := by
  induction l generalizing s with
  | nil => rfl
  | cons bj rest ih =>
    obtain ⟨b, j⟩ := bj
    rw [List.foldl_cons, ih, State.table_resetJob, List.filter_cons]
    by_cases hb : b = c <;> simp [hb]

/-- The jobs of a bed among the jobs of all beds. -/
theorem State.allJobs_of_bed (s : State) (c : Nat) :
    (s.allJobs.filter fun bj => decide (bj.1 = c)).map Prod.snd = (s.table c).jobs := by
  have hbed (b : Nat) : (((s.table b).jobs.map fun j => (b, j)).filter fun bj => decide (bj.1 = c)).map Prod.snd =
      if b = c then (s.table b).jobs else [] := by
    split_ifs with h <;> simp [h, List.filter_map, Function.comp_def]
  have hall : ∀ l : List Nat, l.Nodup → ((l.flatMap fun b => (s.table b).jobs.map fun j => (b, j)).filter
      fun bj => decide (bj.1 = c)).map Prod.snd = if c ∈ l then (s.table c).jobs else [] := by
    intro l hl
    induction l with
    | nil => rfl
    | cons b rest ih =>
      obtain ⟨hb, hrest⟩ := List.nodup_cons.mp hl
      rw [List.flatMap_cons, List.filter_append, List.map_append, hbed, ih hrest]
      by_cases h : b = c
      · subst h
        simp [hb]
      · simp [h, Ne.symm h]
  rw [State.allJobs, hall _ List.nodup_range]
  by_cases hc : c < 48
  · simp [hc]
  · simp [hc, State.table, JobTable.fresh]

/-- R59, R41: the job tables after a release. -/
theorem State.TableLaw.table_resetJobs {s : State} (hl : s.TableLaw) (c : Nat) : s.resetJobs.table c =
    ⟨((s.table c).jobs.filter fun j => !j.goesAtReset).map Job.atReset,
      if (s.table c).jobs ≠ [] ∧ (s.table c).jobs.all Job.goesAtReset = true then 1 else (s.table c).counter⟩ := by
  rw [State.resetJobs, State.table_foldl_resetJob, State.allJobs_of_bed]
  simpa using JobTable.foldl_resetOne (s.table c).jobs [] (s.table c).counter (by simpa using (hl.sound c).2.1)

/-- R59: no job is TAKEN or lit after a release. -/
theorem State.TableLaw.not_holds_resetJobs {s : State} (hl : s.TableLaw) (q : Port) (b : Nat) (j : Job) :
    ¬ s.resetJobs.Holds q b j := by
  rintro ⟨hj, -, ha⟩
  rw [hl.table_resetJobs] at hj
  obtain ⟨k, -, rfl⟩ := List.mem_map.mp hj
  rw [Job.active_atReset] at ha
  exact absurd ha Bool.false_ne_true

end Sys2Proof.Machine
end

section
/-! Every step keeps the law of the arcs. -/

namespace Sys2Proof.Machine

open Sys2Proof

/-- With no job held, no port bound and no torch lit or waiting, the law holds. -/
theorem State.arcLaw_of_idle {s : State} (hheld : ∀ q b j, ¬ s.Holds q b j) (hbind : s.bindings = Vector.replicate 6 .unbound)
    (htorch : s.torches = Vector.replicate 6 .idle) : s.ArcLaw := by
  have hunbound (q : Port) : (s.binding q).state = .none := by simp [State.binding, hbind, Binding.unbound]
  refine State.arcLaw_iff.mpr fun q => ⟨fun hj => absurd hj (hheld _ _ _), fun hj => absurd hj (hheld _ _ _),
    fun h => absurd (hunbound q) h, fun hst => ?_⟩
  simp [State.torch, htorch, Torch.idle, TorchState.serves] at hst

/-- R47: a QUEUED job of the bound bed is taken by a port that holds none. -/
theorem State.ArcLaw.taken {s : State} (hs : s.ArcLaw) (hl : s.TableLaw) {p : Port} {j : Job}
    (hj : j ∈ (s.table (s.binding p).zone).jobs) (hqueued : j.state = .queued) (hbound : (s.binding p).state ≠ .none)
    (hnone : ∀ b k, ¬ s.Holds p b k) : (s.setJob (s.binding p).zone j.number (Job.taken p)).ArcLaw := by
  set b := (s.binding p).zone with hb
  set t := s.setJob b j.number (Job.taken p) with ht
  have htorch (q : Port) : t.torch q = s.torch q := State.torch_congr (by simp [ht]) q
  have hbind (q : Port) : t.binding q = s.binding q := State.binding_congr (by simp [ht]) q
  have hself {c : Nat} {k : Job} (hk : k ∈ (s.table c).jobs) (hit : c = b ∧ k.number = j.number) : k = j := by
    obtain ⟨rfl, hn⟩ := hit
    exact hl.eq_of_number hj hk hn
  have hwas {q : Port} {c : Nat} {k' : Job} (hk' : t.Holds q c k') :
      (q = p ∧ c = b ∧ k' = j.taken p) ∨ (q ≠ p ∧ s.Holds q c k') := by
    obtain ⟨hm, hta, ha⟩ := hk'
    obtain ⟨k, hk, rfl⟩ := State.mem_setJob.mp hm
    by_cases hit : c = b ∧ k.number = j.number
    · obtain rfl := hself hk hit
      rw [if_pos hit.1, changeJob, if_pos rfl] at hta ⊢
      exact .inl ⟨(Option.some_inj.mp hta).symm, hit.1, rfl⟩
    · have hsame : (if c = b then changeJob j.number (Job.taken p) k else k) = k := by
        unfold changeJob
        split_ifs with hc hn
        · exact absurd ⟨hc, hn⟩ hit
        · rfl
        · rfl
      rw [hsame] at hta ha ⊢
      exact .inr ⟨fun hq => hnone c k ⟨hk, hq ▸ hta, ha⟩, hk, hta, ha⟩
  refine State.arcLaw_iff.mpr fun q => ⟨fun hk hk' => ?_, fun hk => ?_, fun h => ?_, fun {st} hst => ?_⟩
  · obtain ⟨rfl, rfl, rfl⟩ | ⟨hq, hk⟩ := hwas hk
    · obtain ⟨-, rfl, rfl⟩ | ⟨hq', -⟩ := hwas hk'
      · exact ⟨rfl, rfl⟩
      · exact absurd rfl hq'
    · obtain ⟨hq', -⟩ | ⟨-, hk'⟩ := hwas hk'
      · exact absurd hq' hq
      · exact (hs.ok q).one hk hk'
  · rw [hbind]
    obtain ⟨rfl, rfl, -⟩ | ⟨-, hk⟩ := hwas hk
    · exact ⟨hbound, hb.symm⟩
    · exact (hs.ok q).bed hk
  · rw [hbind] at h ⊢
    rw [State.desc_congr (s := s) (by simp [ht])]
    exact (hs.ok q).kind h
  · rw [htorch] at hst ⊢
    obtain ⟨c, k, hk, h⟩ := (hs.ok q).serves hst
    have hother : ¬ (c = b ∧ k.number = j.number) := fun hit => by
      have := hk.2.2
      rw [hself hk.1 hit, hqueued] at this
      exact absurd this Bool.false_ne_true
    refine ⟨c, k, ⟨State.mem_setJob.mpr ⟨k, hk.1, ?_⟩, hk.2⟩, h⟩
    unfold changeJob
    split_ifs with hc hn
    · exact absurd ⟨hc, hn⟩ hother
    · rfl
    · rfl

/-! ## The requests of chapters 1 and 3 -/

section

variable {s : State} (hs : s.ArcLaw)
include hs

theorem State.ArcLaw.staleBindings (z : Nat) : (s.staleBindings z).ArcLaw :=
  hs.zones (by simp) (State.holds_congr (by simp)) (fun q => s.binding_staleBindings z q)
    fun q _ => by rw [State.desc_congr (s := s) (by simp)]

/-- R12, R13: an entry that is not in use changes its kind, or any entry keeps its kind. -/
theorem State.ArcLaw.rezoned {z : Nat} {e : Zone} (h : (s.desc z).kind ≠ e.desc.kind →
    (∀ q, (s.binding q).state ≠ .none → (s.binding q).zone ≠ z) ∧ (s.table z).jobs = []) :
    ((s.setZone z e).remakeBed z (s.desc z).kind e.desc.kind).ArcLaw := by
  refine hs.zones (by simp) (fun {q c k} => ?_) (fun q => ?_) fun q hq => ?_
  · rw [State.Holds, State.Holds, State.table_remakeBed]
    by_cases hz : decide ((s.desc z).kind = .bed) ≠ decide (e.desc.kind = .bed) ∧ z = c
    · rw [if_pos hz, ← hz.2, (h fun he => hz.1 (by rw [he])).2]
      rfl
    · rw [if_neg hz]
      rfl
  · rw [State.binding_congr (s := s) (by simp)]
    exact ⟨rfl, Iff.rfl⟩
  · rw [State.desc_congr (s := s.setZone z e) (by simp), State.desc_setZone]
    split_ifs with hz
    · by_contra hne
      rw [← hz.1] at hne
      exact (h (Ne.symm hne)).1 q hq hz.1.symm
    · rfl

theorem State.ArcLaw.zoneSet (w : ZoneWrite) : (ownZoneSet w s).1.ArcLaw := by
  refine byCases_keeps hs fun hc => ?_
  have huse := (firstCase_eq_none _).mp hc
    (decide ((s.desc w.zone).kind ≠ w.kind.getD .none ∧ s.zoneInUse w.zone), .occupied) (by simp [zoneSetCases])
  simp only [decide_eq_false_iff_not, not_and] at huse
  have hnew (used : Bool) := hs.rezoned (z := w.zone) (e := ⟨writtenDesc w (s.desc w.zone), used⟩)
    fun hne => State.not_zoneInUse (by simpa using huse hne)
  dsimp only
  exact (hnew _).staleBindings w.zone

theorem State.ArcLaw.zoneClear (z : Nat) : (ownZoneClear z s).1.ArcLaw := by
  refine byCases_keeps hs fun hc => ?_
  have hcase := (firstCase_eq_none _).mp hc
  have hbound := hcase (!(s.bindersOf z).isEmpty, .occupied) (by simp [zoneClearCases])
  have hjobs := hcase (!(s.table z).jobs.isEmpty, .occupied) (by simp [zoneClearCases])
  simp only [Bool.not_eq_false', List.isEmpty_iff] at hbound hjobs
  exact hs.rezoned (e := .empty) fun _ =>
    ⟨fun q hq hz => absurd (hbound ▸ State.mem_bindersOf.mpr ⟨hq, hz⟩) List.not_mem_nil, hjobs⟩

theorem State.ArcLaw.zoneService (z : Nat) (f : Bool) : (ownZoneService z f s).1.ArcLaw := by
  refine byCases_keeps hs fun _ => ?_
  have hserved : (s.setZone z { s.zone z with desc := { s.desc z with inService := f } }).ArcLaw := by
    refine hs.congr (by simp) (fun y => ?_) (by simp) fun q => .inr ⟨rfl, rfl⟩
    rw [State.desc_setZone]
    split_ifs with h
    · rw [← h.1]
    · rfl
  dsimp only
  split_ifs
  · exact hserved.staleBindings z
  · exact hserved

theorem State.ArcLaw.setUsed (z : Nat) (f : Bool) : (s.setUsed z f).ArcLaw :=
  hs.congr (by simp) (fun y => by rw [State.desc_setUsed]) (by simp) fun q => .inr ⟨rfl, rfl⟩

theorem State.ArcLaw.bedBind (p : Port) (z : Nat) : (ownBedBind p z s).1.ArcLaw := by
  refine byCases_keeps hs fun hc => ?_
  have hcase := (firstCase_eq_none _).mp hc
  have hbed := hcase (decide ((s.desc z).kind ≠ .bed), .range) (by simp [bedBindCases, bedCases])
  have hbusy := hcase (decide ((s.heldJob p).isSome ∧ (s.binding p).zone ≠ z), .busy) (by simp [bedBindCases])
  simp only [decide_eq_false_iff_not, not_not, not_and] at hbed hbusy
  have hset : (s.setBinding p ⟨.bound, z, some (s.desc z)⟩).ArcLaw := by
    refine hs.rebound (by simp) (by simp) (fun y => rfl) (fun q => s.binding_setBinding p q _) (fun _ => hbed)
      fun {c k} hk => ⟨by simp, ?_⟩
    rw [← ((hs.ok p).bed hk).2]
    exact (hbusy (by rw [(hs.ok p).heldJob hk]; rfl)).symm
  exact hset.setUsed z true

theorem State.ArcLaw.bedUnbind (p : Port) : (ownBedUnbind p s).1.ArcLaw := by
  refine byCases_keeps hs fun hc => ?_
  have hheld := (firstCase_eq_none _).mp hc ((s.heldJob p).isSome, .busy) (by simp)
  rw [Option.isSome_eq_false_iff, Option.isNone_iff_eq_none] at hheld
  exact hs.rebound (p := p) (b := .unbound) (by simp) (by simp) (fun y => rfl) (fun q => s.binding_setBinding p q _)
    (fun h => absurd rfl h) fun hk => absurd hk (State.not_holds_of_heldJob hheld _ _)

theorem State.ArcLaw.jobAdd (w : JobWrite) : (ownJobAdd w s).1.ArcLaw := by
  refine byCases_keeps hs fun _ => hs.zones (by simp) (fun {q c k} => ?_) (fun q => ⟨rfl, Iff.rfl⟩) fun q _ => rfl
  rw [State.Holds, State.Holds, State.table_setTable]
  split_ifs with h
  · rw [List.mem_append, List.mem_singleton, ← h.1]
    constructor
    · rintro ⟨hk | rfl, ht, ha⟩
      · exact ⟨hk, ht, ha⟩
      · simp [writtenJob] at ht
    · exact fun ⟨hk, ht⟩ => ⟨.inl hk, ht⟩
  · rfl

theorem State.ArcLaw.jobTake (hl : s.TableLaw) (p : Port) : (ownJobTake p s).1.ArcLaw := by
  refine byCases_keeps hs fun hc => ?_
  have hcase := (firstCase_eq_none _).mp hc
  have hbound := hcase (decide ((s.binding p).state = .none), .unbound) (by simp [jobTakeCases])
  have hheld := hcase ((s.heldJob p).isSome, .busy) (by simp [jobTakeCases])
  rw [decide_eq_false_iff_not] at hbound
  rw [Option.isSome_eq_false_iff, Option.isNone_iff_eq_none] at hheld
  dsimp only
  split
  · exact hs
  · rename_i j hj
    have hjq : j ∈ s.queuedJobs (s.binding p).zone := List.mem_of_find?_eq_some hj
    obtain ⟨hjm, hjs⟩ : j ∈ (s.table (s.binding p).zone).jobs ∧ j.state = .queued := by
      simpa using List.mem_filter.mp ((takeOrder_perm _).mem_iff.mp hjq)
    exact hs.taken hl hjm hjs hbound (State.not_holds_of_heldJob hheld)

theorem State.ArcLaw.jobReturn (hl : s.TableLaw) (p : Port) (n : Nat) : (ownJobReturn p n s).1.ArcLaw := by
  refine byCases_keeps hs fun hc => ?_
  have hcase := (firstCase_eq_none _).mp hc
  have hlit := hcase ((s.heldJob p).any (fun bj => bj.2.state.lit), .state) (by simp [jobReturnCases])
  have hwait := hcase (decide ((s.torch p).state = .waiting), .busy) (by simp [jobReturnCases])
  split
  · exact hs
  · rename_i b j hj
    rw [hj, Option.any_some] at hlit
    have hheld := State.holds_of_heldJob hj
    have htaken : j.state = .taken := by
      have ha := hheld.2.2
      cases hstate : j.state <;> simp_all [JobState.active, JobState.lit]
    refine hs.requeued hl hheld.1 fun {q} hq => ?_
    obtain rfl : q = p := Option.some_inj.mp (hq.2.1.symm.trans hheld.2.1)
    exact (hs.ok q).serves_of_taken hheld htaken (of_decide_eq_false hwait)

theorem State.ArcLaw.jobResume (hl : s.TableLaw) (b n : Nat) : (ownJobResume b n s).1.ArcLaw := by
  refine byCases_keeps hs fun hc => ?_
  have hcase := (firstCase_eq_none _).mp hc
  have hsome := hcase ((s.job b n).isNone, .unknownId) (by simp [jobResumeCases])
  have hheld := hcase ((s.job b n).any (fun j => decide (j.state ≠ .held)), .state) (by simp [jobResumeCases])
  obtain ⟨j, hj⟩ := Option.isSome_iff_exists.mp (Option.isNone_eq_false_iff.mp hsome)
  rw [hj, Option.any_some, decide_eq_false_iff_not, not_not] at hheld
  obtain ⟨hm, rfl⟩ := State.mem_of_job hj
  refine hs.requeued hl hm fun {q} hq => ?_
  have := hq.2.2
  rw [hheld] at this
  exact absurd this Bool.false_ne_true

end

/-- A change that leaves bindings, tables, torches and the descriptors. -/
theorem State.ArcLaw.descs {s t : State} (hs : s.ArcLaw) (h : SameOn [.bindings, .tables, .torches] s t)
    (hdesc : ∀ z, t.desc z = s.desc z) : t.ArcLaw :=
  hs.congr (h .bindings (by simp)) (fun z => by rw [hdesc]) (h .tables (by simp)) fun q =>
    .inr (by simp [State.torch_congr (h .torches (by simp)) q])

theorem State.desc_grantLift (s : State) (p : Port) (r : Plate) (z y : Nat) : (s.grantLift p r z).desc y = s.desc y := by
  unfold State.grantLift
  rw [State.reportMove, State.desc_congr (State.notify_frame _ _ _).1, State.desc_setUsed]
  rfl

theorem State.Unloads.desc {s s' : State} {p : Port} (h : s.Unloads p s') (z : Nat) : s'.desc z = s.desc z := by
  have hnotify (u : State) (p : Port) (a : CraneAction) (id z : Nat) (d : MoveData) (y : Nat) :
      (u.reportMove p a id z d).desc y = u.desc y := State.desc_congr (by simp) y
  cases h with
  | rest => rw [State.rested, hnotify, State.desc_setUsed]; rfl
  | scrap => rw [State.scrapped, hnotify, State.desc_setUsed]; rfl

theorem State.ArcLaw.unloads {s s' : State} {p : Port} (hs : s.ArcLaw) (h : s.Unloads p s') : s'.ArcLaw := by
  exact hs.descs (h.sameBut.sameOn (by decide)) h.desc

theorem State.ArcLaw.started {s : State} (hs : s.ArcLaw) {p : Port} {b : Nat} {j : Job} (hj : s.heldJob p = some (b, j))
    (htaken : j.state = .taken) : (s.started p b j).ArcLaw := by
  have hcongr {q : Port} {c : Nat} {k : Job} : (s.started p b j).Holds q c k ↔ s.Holds q c k := State.holds_congr rfl
  refine State.arcLaw_iff.mpr fun q => ?_
  refine (hs.ok q).change rfl (fun z => rfl) (fun _ k => k) (fun hk => ⟨_, hcongr.mp hk, rfl⟩) fun hst => ?_
  rw [State.torch_started] at hst ⊢
  split_ifs at hst ⊢ with hq
  · subst hq
    have hx := Option.some_inj.mp hst
    exact ⟨b, j, hcongr.mpr (State.holds_of_heldJob hj), htaken.trans hx, rfl⟩
  · obtain ⟨c, k, hk, h⟩ := (hs.ok q).serves hst
    exact ⟨c, k, hcongr.mpr hk, h⟩

/-! ## Every step -/

/-- A law that is kept is kept under any other. -/
theorem Upkeep.under {Q P : State → Prop} {read : List Piece} (h : Kept read P) : Upkeep Q read P where
  apart := h.apart
  reads := h.reads
  aged _ hp := h.aged trivial hp
  frameError := h.frameError
  request hi ht ha _ hp := h.request hi ht ha trivial hp
  lapse hl _ hp := h.lapse hl trivial hp
  feeder b ht _ hp := h.feeder b ht trivial hp
  timed hi ht _ hp := h.timed hi ht trivial hp
  powerUp _ hp := h.powerUp trivial hp
  warmUp _ hp := h.warmUp trivial hp

/-- Under the laws of the queue and of the tables, every request keeps the law of the arcs. -/
theorem State.ArcsLaw.request {i : Instr} {p : Port} {tag : Byte} {s : State} (hi : requestOf i = some (p, tag))
    (ht : touches [.zones, .bindings, .tables, .torches] i = true) (hs : s.ArcsLaw) : (ownAct i s).1.ArcLaw := by
  obtain ⟨hq, hl, ha⟩ := hs
  by_cases htorch : touches [.torches, .startQueue] i = true
  · obtain h | ⟨n, b, j, -, hj, htaken, hidle, -, h⟩ | ⟨q, s', hdown, h⟩ := ownAct_arc_cases hi htorch hq
    · exact h.arcLaw ⟨hq, hl, ha⟩
    · have hl' : (s.started p b j).TableLaw := hl.reads (by simp [SameOn, Piece.same, State.started])
      rw [h]
      exact ((hq.started hidle b j).walk _).arcLaw ⟨hq.started hidle b j, hl', ha.started hj htaken⟩
    · have hq' : s'.QueueLaw := hq.reads (hdown.sameBut.sameOn (by decide))
      have hl' : s'.TableLaw := hl.reads (hdown.sameBut.sameOn (by decide))
      rw [h]
      exact (hq'.walk none).arcLaw ⟨hq', hl', ha.unloads hdown⟩
  · cases i with
    | zoneSet p t w => exact ha.zoneSet w
    | zoneClear p t z => exact ha.zoneClear z
    | zoneService p t z f => exact ha.zoneService z f
    | zoneUsedClear p t z => exact byCases_keeps ha fun _ => ha.setUsed z false
    | bedBind p t z => exact ha.bedBind p z
    | bedUnbind p t => exact ha.bedUnbind p
    | plateRegister p t h z ox oy =>
      refine byCases_keeps ha fun _ => ?_
      exact ha.descs (by simp [SameOn, Piece.same]) fun y => by rw [State.desc_setUsed]; rfl
    | jobAdd p t w => exact ha.jobAdd w
    | jobTake p t => exact ha.jobTake hl p
    | jobReturn p t n => exact ha.jobReturn hl p n
    | jobResume p t b n => exact ha.jobResume hl b n
    | lift p t id z =>
      refine byCases_keeps ha fun _ => ?_
      split
      · exact ha
      · exact ha.descs (by simp [SameOn, Piece.same]) (State.desc_grantLift s p _ z)
    | _ => first | exact absurd ht Bool.false_ne_true | exact absurd rfl htorch | cases hi

theorem arcLaw_upkeep : Upkeep (fun s => s.QueueLaw ∧ s.TableLaw) [.zones, .bindings, .tables, .torches] State.ArcLaw where
  apart := by decide
  reads h hs := hs.reads h
  aged {s} _ hs := by
    refine hs.mapJobs (g := fun _ k => k.aged) (fun c k => ⟨rfl, rfl, rfl, rfl⟩) rfl rfl (fun c k' => ?_)
      fun q => by simp
    rw [State.table_aged]
    simp [JobTable.aged, eq_comm]
  frameError p hs := hs.reads (by simp [SameOn, Piece.same])
  request hi ht _ hq hs := State.ArcsLaw.request hi ht ⟨hq.1, hq.2, hs⟩
  lapse _ hq hs := (hq.1.lapse _).arcLaw ⟨hq.1, hq.2, hs⟩
  feeder b _ hq hs := (hq.1.feederByte b).arcLaw ⟨hq.1, hq.2, hs⟩
  timed {i s} hi ht hq hs := by
    cases i with
    | establishTimerExpiry p => exact (hq.1.establishExpiry p).arcLaw ⟨hq.1, hq.2, hs⟩
    | waitTimerExpiry p => exact (hq.1.waitExpiry p).arcLaw ⟨hq.1, hq.2, hs⟩
    | overdueTimerExpiry b n => exact (arcMoves_overdueExpiry s b n).arcLaw ⟨hq.1, hq.2, hs⟩
    | _ => first | exact absurd hi Bool.false_ne_true | exact absurd ht Bool.false_ne_true
  powerUp {s} _ _ := by
    refine powerUp_keeps (fun c n h => h.reads (by simp [SameOn, Piece.same]))
      (fun h => h.reads (by simp [SameOn, Piece.same])) (State.arcLaw_of_idle (fun q b j hj => ?_) rfl rfl)
    simpa [poweredUp, State.table, JobTable.fresh] using hj.1
  warmUp {s} hq _ := by
    have hframe := resetJobs_sameBut (blocksReset s)
    have hl : (blocksReset s).TableLaw := hq.2.reads (by simp [SameOn, Piece.same])
    have hbind : (blocksReset s).resetJobs.bindings = _ := hframe.2 .bindings (by simp)
    have htorch : (blocksReset s).resetJobs.torches = _ := hframe.2 .torches (by simp)
    exact warmUp_keeps (fun c n h => h.reads (by simp [SameOn, Piece.same]))
      (fun h => h.reads (by simp [SameOn, Piece.same]))
      (State.arcLaw_of_idle hl.not_holds_resetJobs (by simp [hbind]) (by simp [htorch]))

/-- Settles O27: the law of the tables by itself, and the law of the arcs under it and the queue's. -/
theorem stepKeepsTableLaw : Obligations.StepKeepsTableLaw := fun _ _ hl ht =>
  ⟨tableLaw_kept.step hl ht, fun hq ha =>
    (((queueLaw_kept.and tableLaw_kept.under).and arcLaw_upkeep).step ⟨⟨hq, hl⟩, ha⟩ ht).2⟩

end Sys2Proof.Machine
end

section
/-! The law of the runway: the WEST span stays below the EAST span (R87). -/

namespace Sys2Proof.Machine

open Sys2Proof

/-! ## What the requests leave of a crane -/

theorem State.crane_congr {s t : State} (h : t.cranes = s.cranes) (q : Port) : t.crane q = s.crane q := by
  simp [State.crane, h]

theorem State.crane_grantLift (s : State) (p : Port) (r : Plate) (z : Nat) (q : Port) :
    (s.grantLift p r z).crane q = if p = q then { s.crane p with
      hook := some r.id, corridor := some (s.liftCorridor r z), target := z, targets := [z], origin := r.origin }
      else s.crane q := by
  rw [← State.crane_setCrane]
  refine State.crane_congr ?_ q
  simp [State.grantLift, State.crane]
  rfl

/-- R101: the crane as its hook becomes FREE. -/
def Crane.freed (c : Crane) : Crane := { c with hook := none, corridor := none, target := 0, targets := [], origin := .nowhere }

theorem State.crane_freeHook (s : State) (p q : Port) : (s.freeHook p).crane q = if p = q then (s.crane p).freed else s.crane q :=
  s.crane_setCrane p q _

theorem State.Unloads.crane {s s' : State} {p : Port} (h : s.Unloads p s') (q : Port) :
    s'.crane q = if p = q then (s.crane p).freed else s.crane q := by
  rw [← State.crane_freeHook]
  cases h with
  | rest => exact State.crane_congr (by simp [State.rested, State.freeHook, State.setCrane, State.crane]) q
  | scrap => exact State.crane_congr (by simp [State.scrapped, State.freeHook, State.setCrane, State.crane]) q

/-! ## The law -/

theorem State.RunwayLaw.congr {s t : State} (hs : s.RunwayLaw)
    (hspan : ∀ q, (t.crane q).span = (s.crane q).span) (hrole : t.params.inForce = s.params.inForce) : t.RunwayLaw := by
  have hport (q : Port) : t.role q = s.role q ∧ t.side q = s.side q := Prod.mk.inj (Params.inForce_congr hrole q)
  intro p q hp hq hwest heast a ha b hb
  rw [(hport _).1] at hp hq
  rw [(hport _).2] at hwest heast
  rw [hspan] at ha hb
  exact hs p q hp hq hwest heast a ha b hb

theorem State.RunwayLaw.cranes {s t : State} (hs : s.RunwayLaw) (hspan : ∀ q, (t.crane q).span = (s.crane q).span)
    (hparams : t.params = s.params) : t.RunwayLaw := hs.congr hspan (by rw [hparams])

theorem State.RunwayLaw.reads {s t : State} (h : SameOn [.cranes, .params] s t) (hs : s.RunwayLaw) : t.RunwayLaw :=
  hs.cranes (fun q => by rw [State.crane_congr (h .cranes (by simp))]) (h .params (by simp))

/-- R88 case 4: a span that is claimed keeps the runway order against the other crane's. -/
theorem State.RunwayLaw.spanSet {s : State} (hl : s.ConfigLaw) (hs : s.RunwayLaw) {p : Port} (hp : s.role p = .crane)
    (lo hi : Nat) : (ownSpanSet p lo hi s).1.RunwayLaw := by
  unfold ownSpanSet
  split
  · exact hs
  · rename_i hc
    have horder := (firstCase_eq_none _).mp hc ((s.otherSpan p).any (breaksOrder (s.side p) lo hi), .conflict)
      (by simp [spanSetCases])
    have hother {q : Port} {o : Nat × Nat} (hq : s.role q = .crane) (hqp : q ≠ p) (ho : o ∈ (s.crane q).span) :
        breaksOrder (s.side p) lo hi o = false := by
      have hspan : s.otherSpan p = some o := (State.otherSpan_eq_some hl hp).mpr ⟨q, hqp, hq, ho⟩
      simpa [hspan] using horder
    have hcrane (q : Port) : ((s.setCrane p { s.crane p with span := some (lo, hi) }).crane q).span =
        if p = q then some (lo, hi) else (s.crane q).span := by
      rw [State.crane_setCrane]
      split_ifs <;> rfl
    intro x y hx hy hwest heast a ha b hb
    rw [hcrane] at ha hb
    have hne : x ≠ y := by
      rintro rfl
      exact absurd (hwest.symm.trans heast) (by simp)
    change s.side x = .west at hwest
    change s.side y = .east at heast
    split_ifs at ha hb with h1 h2 h2
    · exact absurd (h1.symm.trans h2) hne
    · subst h1
      obtain rfl : (lo, hi) = a := by simpa using ha
      have := hother hy hne.symm hb
      rw [hwest] at this
      simpa [breaksOrder] using this
    · subst h2
      obtain rfl : (lo, hi) = b := by simpa using hb
      have := hother hx hne ha
      rw [heast] at this
      simpa [breaksOrder] using this
    · exact hs x y hx hy hwest heast a ha b hb

theorem State.RunwayLaw.request {i : Instr} {p : Port} {tag : Byte} {s : State} (hi : requestOf i = some (p, tag))
    (ht : touches [.cranes, .params] i = true) (ha : s.admission p (allowedRoles i) (heardOffline i) = none)
    (hl : s.ConfigLaw) (hs : s.RunwayLaw) : (ownAct i s).1.RunwayLaw := by
  have hset {q : Port} {c : Crane} (hspan : c.span = (s.crane q).span) (r : Port) :
      ((s.setCrane q c).crane r).span = (s.crane r).span := by
    rw [State.crane_setCrane]
    split_ifs with h
    · rw [hspan, h]
    · rfl
  have hdown {q : Port} {s' : State} (h : s.Unloads q s') : s'.runWalk.RunwayLaw := by
    refine hs.cranes (fun r => ?_) ?_
    · rw [State.crane_congr (s := s') (by simp), h.crane]
      split_ifs with hr
      · rw [← hr]
        rfl
      · rfl
    · have hparams : s'.params = s.params := h.sameBut.2 .params (by simp)
      simp [hparams]
  cases i with
  | plateRegisterOnHook p t w n =>
    refine byCases_keeps hs fun _ => ?_
    split
    · exact hs
    · exact hs.cranes (hset rfl) rfl
  | spanSet q t lo hi' =>
    obtain rfl : q = p := by simpa [requestOf] using (Prod.mk.inj (Option.some_inj.mp hi)).1
    exact hs.spanSet hl (by simpa [allowedRoles] using State.role_of_admission ha) lo hi'
  | spanClear p t =>
    refine byCases_keeps hs fun _ => ?_
    intro x y hx hy hwest heast a ha b hb
    rw [State.crane_setCrane] at ha hb
    split_ifs at ha hb
    · cases ha
    · cases ha
    · cases hb
    · exact hs x y hx hy hwest heast a ha b hb
  | lift p t id z =>
    refine byCases_keeps hs fun _ => ?_
    split
    · exact hs
    · refine hs.cranes (fun q => ?_) (by simp)
      rw [State.crane_grantLift]
      split_ifs with h
      · rw [← h]
      · rfl
  | retarget p t z =>
    refine byCases_keeps hs fun _ => hs.cranes (fun q => ?_) (by simp)
    rw [State.crane_congr (s := s.retarget p z) (by simp)]
    obtain ⟨-, h⟩ | ⟨-, h⟩ := s.retarget_cases p z
    · rw [h]
    · rw [h, State.crane_setCrane]
      split_ifs with hq
      · rw [← hq]
      · rfl
  | setDown p t ox oy turn =>
    obtain h | ⟨s', hu, h⟩ := ownSetDown_cases s p ox oy turn
    · rwa [show (ownAct (.setDown p t ox oy turn) s).1 = s from h]
    · rw [show (ownAct (.setDown p t ox oy turn) s).1 = s'.runWalk from h]
      exact hdown hu
  | liftAbort p t =>
    obtain h | ⟨s', hu, h⟩ := ownLiftAbort_cases s p
    · rwa [show (ownAct (.liftAbort p t) s).1 = s from h]
    · rw [show (ownAct (.liftAbort p t) s).1 = s'.runWalk from h]
      exact hdown hu
  | paramSet p t l =>
    refine byCases_keeps hs fun _ => hs.congr (fun q => ?_) ?_
    · refine congrArg _ (State.crane_congr ?_ q)
      unfold State.reformBudget
      split_ifs <;> simp
    · rw [← inForce_paramsAfter l s.params]
      refine congrArg _ ?_
      unfold State.reformBudget
      split_ifs <;> simp
  | _ => first | exact absurd ht Bool.false_ne_true | cases hi

/-- A crane after a power-on has no span. -/
theorem State.runwayLaw_of_powerOn {s : State} (h : s.cranes = Vector.replicate 6 .powerOn) : s.RunwayLaw := by
  intro p q _ _ _ _ a ha
  simp [State.crane, h, Crane.powerOn] at ha

theorem runwayLaw_upkeep : Upkeep State.ConfigLaw [.cranes, .params] State.RunwayLaw where
  apart := by decide
  reads h hs := hs.reads h
  aged _ hs := hs
  frameError p hs := hs.reads (by simp [SameOn, Piece.same])
  request hi ht ha hl hs := hs.request hi ht ha hl
  lapse _ _ hs := hs.reads (by simp [SameOn, Piece.same])
  feeder _ ht := absurd ht Bool.false_ne_true
  timed {i _} hi ht := by
    cases i <;> first | exact absurd hi Bool.false_ne_true | exact absurd ht Bool.false_ne_true
  powerUp {s} _ _ := powerUp_keeps (fun c n h => h.reads (by simp [SameOn, Piece.same]))
    (fun h => h.reads (by simp [SameOn, Piece.same])) (State.runwayLaw_of_powerOn rfl)
  warmUp {s} _ hs := by
    have hframe := resetJobs_sameBut (blocksReset s)
    have hcranes : (blocksReset s).resetJobs.cranes = (blocksReset s).cranes := hframe.2 .cranes (by simp)
    have hparams : (blocksReset s).resetJobs.params = (blocksReset s).params := hframe.2 .params (by simp)
    refine warmUp_keeps (fun c n h => h.reads (by simp [SameOn, Piece.same]))
      (fun h => h.reads (by simp [SameOn, Piece.same])) ?_
    by_cases hidle : s.cranesIdle = true
    · exact State.runwayLaw_of_powerOn (by rw [hcranes, blocksReset_cranes, if_pos hidle])
    · refine hs.congr (fun q => ?_) ?_
      · rw [State.crane_congr (s := s) (by rw [hcranes, blocksReset_cranes, if_neg hidle])]
      · rw [hparams, blocksReset_params, if_neg hidle]
        rfl

/-- Settles O26. -/
theorem stepKeepsRunwayLaw : Obligations.StepKeepsRunwayLaw :=
  fun _ _ hl hs ht => ((configLaw_kept.and runwayLaw_upkeep).step ⟨hl, hs⟩ ht).2

end Sys2Proof.Machine
end

section
/-! The records of the register (R21): a record found, entered, changed, taken out. -/

namespace Sys2Proof.Machine

open Sys2Proof

/-! ## A record and its id -/

theorem State.mem_of_record {s : State} {id : Nat} {r : Plate} (h : s.record id = some r) : r ∈ s.records ∧ r.id = id :=
  ⟨List.mem_of_find?_eq_some h, State.id_of_record h⟩

theorem State.record_eq_none {s : State} {id : Nat} : s.record id = none ↔ ∀ r ∈ s.records, r.id ≠ id := by
  simp [State.record]

theorem State.record_isSome {s : State} {id : Nat} : (s.record id).isSome = true ↔ ∃ r ∈ s.records, r.id = id := by
  simp [State.record]

theorem State.record_congr {s t : State} (h : t.records = s.records) (id : Nat) : t.record id = s.record id := by
  simp [State.record, h]

/-- R21: the id names one record. -/
theorem State.RegisterLaw.eq_of_id {s : State} (h : s.RegisterLaw) {a b : Plate} (ha : a ∈ s.records) (hb : b ∈ s.records)
    (hid : a.id = b.id) : a = b := by
  have hnodup : (s.records.map Plate.id).Nodup := by
    rw [List.Nodup, List.pairwise_map]
    exact h.1.imp Nat.ne_of_lt
  exact List.inj_on_of_nodup_map hnodup ha hb hid

theorem State.RegisterLaw.record_of_mem {s : State} (h : s.RegisterLaw) {r : Plate} (hr : r ∈ s.records) :
    s.record r.id = some r := by
  obtain ⟨q, hq⟩ := Option.isSome_iff_exists.mp (State.record_isSome.mpr ⟨r, hr, rfl⟩)
  obtain ⟨hm, hid⟩ := State.mem_of_record hq
  rw [hq, h.eq_of_id hm hr hid]

/-! ## The law of the register -/

/-- R21: the records before and after the place of a new one (log 22). -/
theorem State.RegisterLaw.split {s : State} (h : s.RegisterLaw) (r : Plate) : ∃ before after, s.records = before ++ after
    ∧ (∀ q ∈ before, q.id < r.id) ∧ (∀ q ∈ after, r.id ≤ q.id)
    ∧ s.addRecord r = { s with records := before ++ r :: after } := by
  refine ⟨s.records.takeWhile fun q => decide (q.id < r.id), s.records.dropWhile fun q => decide (q.id < r.id),
    List.takeWhile_append_dropWhile.symm, fun q hq => ?_, fun q hq => ?_, rfl⟩
  · simpa using List.mem_takeWhile_imp hq
  · have hsorted : (s.records.dropWhile fun q => decide (q.id < r.id)).Pairwise fun a b => a.id < b.id :=
      h.1.sublist (List.dropWhile_sublist _)
    cases hd : s.records.dropWhile fun q => decide (q.id < r.id) with
    | nil => simp [hd] at hq
    | cons a rest =>
      rw [hd] at hq hsorted
      have ha : ¬ a.id < r.id := by
        have := List.head_dropWhile_not (p := fun q : Plate => decide (q.id < r.id)) (l := s.records) (by simp [hd])
        simpa [hd] using this
      obtain rfl | hq := List.mem_cons.mp hq
      · exact Nat.le_of_not_lt ha
      · exact (Nat.le_of_not_lt ha).trans ((List.pairwise_cons.mp hsorted).1 q hq).le

theorem State.RegisterLaw.congr {s t : State} (h : t.records = s.records) (hs : s.RegisterLaw) : t.RegisterLaw := by
  simpa only [State.RegisterLaw, h] using hs

/-- A change that keeps the ids keeps the law. -/
theorem State.RegisterLaw.mapRecords {s t : State} (hs : s.RegisterLaw) {f : Plate → Plate} (hf : ∀ r, (f r).id = r.id)
    (h : t.records = s.records.map f) : t.RegisterLaw := by
  obtain ⟨hsorted, hlen⟩ := hs
  refine ⟨?_, by simpa [h] using hlen⟩
  rw [h, List.pairwise_map]
  simpa [hf] using hsorted

theorem State.RegisterLaw.filterRecords {s t : State} (hs : s.RegisterLaw) {keep : Plate → Bool}
    (h : t.records = s.records.filter keep) : t.RegisterLaw := by
  obtain ⟨hsorted, hlen⟩ := hs
  exact ⟨h ▸ hsorted.sublist List.filter_sublist, h ▸ (List.length_filter_le _ _).trans hlen⟩

theorem State.mem_addRecord {s : State} {r q : Plate} : q ∈ (s.addRecord r).records ↔ q = r ∨ q ∈ s.records := by
  rw [(s.addRecord_perm r).mem_iff, List.mem_cons]

theorem State.RegisterLaw.addRecord {s : State} (hs : s.RegisterLaw) {r : Plate} (hnew : s.record r.id = none)
    (hroom : s.records.length < Config.maxRecords) : (s.addRecord r).RegisterLaw := by
  obtain ⟨before, after, hsplit, hbefore, hafter, hadd⟩ := hs.split r
  have hfresh : ∀ q ∈ after, r.id < q.id := fun q hq =>
    lt_of_le_of_ne (hafter q hq) (Ne.symm (State.record_eq_none.mp hnew q (by simp [hsplit, hq])))
  obtain ⟨hsorted, -⟩ := hs
  rw [hsplit, List.pairwise_append] at hsorted
  obtain ⟨h1, h2, h12⟩ := hsorted
  refine ⟨?_, ?_⟩
  · rw [hadd]
    refine List.pairwise_append.mpr ⟨h1, List.pairwise_cons.mpr ⟨hfresh, h2⟩, fun a ha b hb => ?_⟩
    obtain rfl | hb := List.mem_cons.mp hb
    · exact hbefore a ha
    · exact h12 a ha b hb
  · rw [(s.addRecord_perm r).length_eq]
    exact hroom

theorem id_changeRecord {f : Plate → Plate} (hf : ∀ r, (f r).id = r.id) (id : Nat) (r : Plate) :
    (changeRecord id f r).id = r.id := by
  unfold changeRecord
  split_ifs
  · exact hf r
  · rfl

@[simp] theorem Plate.id_leftBy (parent : Nat) (r : Plate) : (r.leftBy parent).id = r.id := by
  unfold Plate.leftBy
  split_ifs <;> rfl

theorem State.RegisterLaw.setRecord {s : State} (hs : s.RegisterLaw) (id : Nat) {f : Plate → Plate}
    (hf : ∀ r, (f r).id = r.id) : (s.setRecord id f).RegisterLaw := hs.mapRecords (id_changeRecord hf id) rfl

theorem State.RegisterLaw.deleteRecord {s : State} (hs : s.RegisterLaw) (id : Nat) : (s.deleteRecord id).RegisterLaw := by
  have h : State.RegisterLaw { s with records := s.records.filter fun r => decide (r.id ≠ id) } := hs.filterRecords rfl
  exact h.mapRecords (Plate.id_leftBy id) rfl

/-! ## What the requests do to the register -/

/-- The change leaves a record's id, size, place, kind and parent, and a SKELETON stays one. -/
structure Quiet (f : Plate → Plate) : Prop where
  id : ∀ r, (f r).id = r.id
  kind : ∀ r, (f r).kind = r.kind
  length : ∀ r, (f r).length = r.length
  width : ∀ r, (f r).width = r.width
  location : ∀ r, (f r).location = r.location
  parent : ∀ r, (f r).parent = r.parent
  inParent : ∀ r, (f r).inParent = r.inParent
  form : ∀ r, r.form = .skeleton → (f r).form = .skeleton

theorem Quiet.changeRecord {f : Plate → Plate} (h : Quiet f) (id : Nat) : Quiet (changeRecord id f) := by
  have hor (r : Plate) : Machine.changeRecord id f r = f r ∨ Machine.changeRecord id f r = r := by
    unfold Machine.changeRecord
    split_ifs
    · exact .inl rfl
    · exact .inr rfl
  have hkeep {α : Type} {get : Plate → α} (hget : ∀ r, get (f r) = get r) (r : Plate) :
      get (Machine.changeRecord id f r) = get r := by
    obtain hr | hr := hor r
    · rw [hr, hget]
    · rw [hr]
  refine ⟨hkeep h.id, hkeep h.kind, hkeep h.length, hkeep h.width, hkeep h.location, hkeep h.parent, hkeep h.inParent,
    fun r hform => ?_⟩
  obtain hr | hr := hor r
  · rw [hr]
    exact h.form r hform
  · rw [hr]
    exact hform

/-- R27, R28: the conditions under which a record enters and rests. -/
structure State.Enters (s : State) (r : Plate) (z ox oy : Nat) (t : Turn) : Prop where
  location : r.location = .resting z ox oy t
  fresh : s.record r.id = none
  room : s.records.length < Config.maxRecords
  capacity : s.restingCount z < (s.desc z).capacity
  within : (footprint r.length r.width ox oy t).within (s.desc z).frame = true
  apart : s.overlaps r z ox oy t = false
  claim : r.inParent = true → r.kind = .remnant ∧ ∃ q, s.record (r.parent.getD 0) = some q ∧ r.parent = some q.id
    ∧ q.form = .skeleton ∧ q.restsIn z = true ∧ ∃ f, s.hallFootprint q = some f ∧ (s.footprintAt r z ox oy t).within f = true

/-- R111: the conditions under which a remnant is declared of `r`. -/
structure State.Declares (s : State) (r : Plate) (id x0 y0 x1 y1 : Nat) : Prop where
  parent : s.record r.id = some r
  resting : r.isResting = true
  form : r.form ≠ .skeleton
  loose : r.kind = .remnant → r.inParent = false
  corners : x0 < x1 ∧ y0 < y1 ∧ x1 ≤ r.length ∧ y1 ≤ r.width
  fresh : s.record id = none
  room : s.records.length < Config.maxRecords
  capacity : s.restingCount r.zoneOf < (s.desc r.zoneOf).capacity

/-- R95: the conditions of a lift. -/
structure State.Lifts (s : State) (p : Port) (r : Plate) (z : Nat) : Prop where
  record : s.record r.id = some r
  resting : r.isResting = true
  free : (s.crane p).hook = none
  within : columnsWithin (s.liftCorridor r z).columns (s.crane p).span = true
  clear : s.overHotBed (s.liftCorridor r z) = false

/-- What a request does to the records and the cranes; the descriptors of the zones stay. -/
inductive RegisterMove (s t : State) : Prop
  | quiet {f : Plate → Plate} (hf : Quiet f) (hrec : t.records = s.records.map f) (hcrane : t.cranes = s.cranes)
      (hdesc : ∀ z, t.desc z = s.desc z)
  | enter {r : Plate} {z ox oy : Nat} {turn : Turn} (h : s.Enters r z ox oy turn)
      (hrec : t.records = (s.addRecord r).records) (hcrane : t.cranes = s.cranes) (hdesc : ∀ z, t.desc z = s.desc z)
  | hook {r : Plate} {q : Port} {sp : Nat × Nat} (hloc : r.location = .onHook q) (hfresh : s.record r.id = none)
      (hroom : s.records.length < Config.maxRecords) (hin : r.inParent = false) (hfree : (s.crane q).hook = none)
      (hspan : (s.crane q).span = some sp) (hclear : s.overHotBed (spanRect sp) = false)
      (hrec : t.records = (s.addRecord r).records)
      (hcrane : ∀ x, t.crane x = if q = x then
        ⟨some sp, some r.id, some (spanRect sp), 0, [], .nowhere⟩ else s.crane x)
      (hdesc : ∀ z, t.desc z = s.desc z)
  | declare {r : Plate} {id x0 y0 x1 y1 : Nat} (h : s.Declares r id x0 y0 x1 y1)
      (hrec : t.records = ((s.setRecord r.id fun r => { r with form := .skeleton }).addRecord
        (r.remnantOf id x0 y0 x1 y1)).records) (hcrane : t.cranes = s.cranes) (hdesc : ∀ z, t.desc z = s.desc z)
  | lift {p : Port} {r : Plate} {z : Nat} (h : s.Lifts p r z) (ht : t = s.grantLift p r z)
  | drop {r : Plate} (hr : s.record r.id = some r) (hrest : r.isResting = true)
      (hrec : t.records = (s.deleteRecord r.id).records) (hcrane : t.cranes = s.cranes) (hdesc : ∀ z, t.desc z = s.desc z)
  | unload {p : Port} {s' : State} (h : s.Unloads p s') (hrec : t.records = s'.records) (hcrane : t.cranes = s'.cranes)
      (hdesc : ∀ z, t.desc z = s'.desc z)

theorem RegisterMove.of_same {s t : State} (h : SameOn [.zones, .records, .cranes] s t) : RegisterMove s t :=
  .quiet (f := id) ⟨fun _ => rfl, fun _ => rfl, fun _ => rfl, fun _ => rfl, fun _ => rfl, fun _ => rfl, fun _ => rfl,
    fun _ h => h⟩ ((h .records (by simp)).trans (List.map_id _).symm) (h .cranes (by simp)) (State.desc_congr (h .zones (by simp)))

theorem RegisterMove.setRecord (s : State) (id : Nat) {f : Plate → Plate} (hf : Quiet f) :
    RegisterMove s (s.setRecord id f) :=
  .quiet (hf.changeRecord id) rfl rfl fun _ => rfl

/-! ## Every request that may change a record -/

theorem quiet_parts (l : List Part) : Quiet fun r => { r with parts := l, hold := none } :=
  ⟨fun _ => rfl, fun _ => rfl, fun _ => rfl, fun _ => rfl, fun _ => rfl, fun _ => rfl, fun _ => rfl, fun _ h => h⟩

theorem quiet_append (l : List Part) : Quiet fun r => { r with parts := r.parts ++ l, hold := none } :=
  ⟨fun _ => rfl, fun _ => rfl, fun _ => rfl, fun _ => rfl, fun _ => rfl, fun _ => rfl, fun _ => rfl, fun _ h => h⟩

theorem quiet_hold (h : Option Reservation) : Quiet fun r => { r with hold := h } :=
  ⟨fun _ => rfl, fun _ => rfl, fun _ => rfl, fun _ => rfl, fun _ => rfl, fun _ => rfl, fun _ => rfl, fun _ h => h⟩

theorem quiet_skeleton : Quiet fun r => { r with form := .skeleton } :=
  ⟨fun _ => rfl, fun _ => rfl, fun _ => rfl, fun _ => rfl, fun _ => rfl, fun _ => rfl, fun _ => rfl, fun _ _ => rfl⟩

theorem quiet_aged : Quiet Plate.aged :=
  ⟨fun _ => rfl, fun _ => rfl, fun _ => rfl, fun _ => rfl, fun _ => rfl, fun _ => rfl, fun _ => rfl, fun _ h => h⟩

theorem quiet_finish (j : Job) : Quiet (Plate.finish j) := by
  refine ⟨fun _ => rfl, fun _ => rfl, fun _ => rfl, fun _ => rfl, fun _ => rfl, fun _ => rfl, fun _ => rfl, fun r h => ?_⟩
  simp [Plate.finish, h]

theorem registerMove_arcOff (s : State) (p : Port) (o : Option ArcOutcome) : RegisterMove s (ownArcOff p o s).1 := by
  have hsame {t : State} (hrec : t.records = s.records) (hz : t.zones = s.zones) (hc : t.cranes = s.cranes) :
      RegisterMove s t := .of_same (by simp [SameOn, Piece.same, hrec, hz, hc])
  have hend (o : ArcOutcome) : RegisterMove s ((s.idleTorch p).endJob p o).runWalk := by
    unfold State.endJob
    split
    · rename_i b j _
      split_ifs
      · split
        · exact .quiet ((quiet_finish j).changeRecord j.plate) (by simp [State.finishJob, State.setRecord]) (by simp)
            fun z => State.desc_congr (by simp) z
        · exact hsame (by simp) (by simp) (by simp)
      · exact hsame (by simp) (by simp) (by simp)
    · exact hsame (by simp) (by simp) (by simp)
  unfold ownArcOff
  split
  · exact hsame rfl rfl rfl
  · dsimp only
    split
    · exact hend _
    · exact hend _
    · exact hsame (by simp) (by simp) (by simp)
    · exact hsame (by simp) (by simp) (by simp)
    · exact hsame rfl rfl rfl

/-- R29 steps 1 and 3. -/
theorem registerCases_accepted {w : PlateWrite} {s : State} (h : firstCase (registerCases w s) = none) :
    s.record w.id = none ∧ s.records.length < Config.maxRecords ∧ badFields w = false := by
  have hcase := (firstCase_eq_none _).mp h
  have hnew := hcase ((s.record w.id).isSome, .duplicate) (by simp [registerCases])
  have hroom := hcase (decide (Config.maxRecords ≤ s.records.length), .full) (by simp [registerCases])
  have hfields := hcase (badFields w, .range) (by simp [registerCases])
  exact ⟨Option.isNone_iff_eq_none.mp (Option.isSome_eq_false_iff.mp hnew), not_le.mp (of_decide_eq_false hroom), hfields⟩

/-- R27 steps 1 to 3. -/
theorem placementCases_accepted {s : State} {r : Plate} {z ox oy : Nat} {t : Turn}
    (h : firstCase (placementCases s r z ox oy t) = none) : s.restingCount z < (s.desc z).capacity
      ∧ (footprint r.length r.width ox oy t).within (s.desc z).frame = true := by
  have hcase := (firstCase_eq_none _).mp h
  have hfull := hcase (decide ((s.desc z).kind = .keepout ∨ (s.desc z).capacity ≤ s.restingCount z), .full)
    (by simp [placementCases])
  have hfit := hcase (!(footprint r.length r.width ox oy t).within (s.desc z).frame, .fit) (by simp [placementCases])
  simp only [decide_eq_false_iff_not, not_or, not_le] at hfull
  exact ⟨hfull.2, by simpa using hfit⟩

/-- R29: a claim is one of a remnant. -/
theorem claim_of_fields {w : PlateWrite} (h : badFields w = false) (hc : w.claim = true) :
    w.kind = some .remnant ∧ w.parent ≠ 0 := by
  unfold badFields at h
  rcases hk : w.kind with _ | _ | _ <;> simp_all

theorem enters_of_accepted {w : PlateWrite} {z ox oy : Nat} {s : State}
    (h : firstCase (plateRegisterCases w z ox oy s) = none) :
    s.Enters (writtenPlate w (.resting z ox oy (w.turn.getD .deg0))) z ox oy (w.turn.getD .deg0) := by
  simp only [plateRegisterCases, firstCase_append, Option.or_eq_none_iff] at h
  obtain ⟨⟨⟨⟨hreg, -⟩, hplace⟩, hclaim⟩, hover⟩ := h
  obtain ⟨hnew, hroom, hfields⟩ := registerCases_accepted hreg
  obtain ⟨hcap, hwithin⟩ := placementCases_accepted hplace
  have hapart := (firstCase_eq_none _).mp hover _ List.mem_cons_self
  refine ⟨rfl, hnew, hroom, hcap, hwithin, hapart, fun hin => ?_⟩
  have hc : w.claim = true := hin
  obtain ⟨hkind, hparent⟩ := claim_of_fields hfields hc
  refine ⟨by simp [writtenPlate, hkind], ?_⟩
  have hcase := (firstCase_eq_none _).mp hclaim
  simp only [claimCases, hc, Bool.true_and, List.mem_cons, List.not_mem_nil, or_false, forall_eq_or_imp, forall_eq] at hcase
  obtain ⟨hsome, hstate, hfit⟩ := hcase
  obtain ⟨q, hq⟩ := Option.isSome_iff_exists.mp (Option.isNone_eq_false_iff.mp hsome)
  rw [hq, Option.any_some] at hstate hfit
  simp only [Bool.or_eq_false_iff, decide_eq_false_iff_not, not_not, Bool.not_eq_false'] at hstate hfit
  rw [Option.any_eq_true] at hfit
  obtain ⟨f, hf, hwithin'⟩ := hfit
  have hid : q.id = w.parent := State.id_of_record hq
  exact ⟨q, by simpa [writtenPlate, hparent] using hq, by simp [writtenPlate, hparent, hid], hstate.1, hstate.2, f, hf, hwithin'⟩

theorem registerMove_plateRegister (s : State) (w : PlateWrite) (z ox oy : Nat) :
    RegisterMove s (ownPlateRegister w z ox oy s).1 := by
  have hsame : RegisterMove s s := .of_same fun x _ => by cases x <;> rfl
  exact byCases_keeps hsame fun hc => .enter (enters_of_accepted hc) (by simp) (by simp) fun y => by
    rw [State.desc_setUsed]
    rfl

theorem registerMove_onHook (s : State) (w : PlateWrite) (n : Nat) : RegisterMove s (ownPlateRegisterOnHook w n s).1 := by
  have hsame : RegisterMove s s := .of_same fun x _ => by cases x <;> rfl
  refine byCases_keeps hsame fun hc => ?_
  have hcase := (firstCase_eq_none _).mp hc
  split
  · exact hsame
  · rename_i q hq
    have hnew := hcase ((s.record w.id).isSome, .duplicate) (by simp [plateRegisterOnHookCases])
    have hroom := hcase (decide (Config.maxRecords ≤ s.records.length), .full) (by simp [plateRegisterOnHookCases])
    have hfields := hcase (badFields w || w.claim, .range) (by simp [plateRegisterOnHookCases])
    have hbusy := hcase (((s.cranePort n).map s.crane).any (·.hook.isSome), .busy) (by simp [plateRegisterOnHookCases])
    have hspan := hcase (((s.cranePort n).map s.crane).any (·.span.isNone), .span) (by simp [plateRegisterOnHookCases])
    have hhot := hcase (((s.cranePort n).map s.crane).any
      (fun c => c.span.any fun sp => s.overHotBed (spanRect sp)), .hot) (by simp [plateRegisterOnHookCases])
    simp only [hq, Option.map_some, Option.any_some] at hbusy hspan hhot
    obtain ⟨sp, hsp⟩ := Option.isSome_iff_exists.mp (Option.isNone_eq_false_iff.mp hspan)
    rw [hsp, Option.any_some] at hhot
    refine .hook (q := q) (sp := sp) (r := writtenPlate w (.onHook q)) rfl
      (Option.isNone_iff_eq_none.mp (Option.isSome_eq_false_iff.mp hnew)) (not_le.mp (of_decide_eq_false hroom))
      (Bool.or_eq_false_iff.mp hfields).2 (Option.isNone_iff_eq_none.mp (Option.isSome_eq_false_iff.mp hbusy)) hsp hhot rfl
      (fun x => ?_) fun _ => rfl
    rw [State.crane_setCrane]
    split_ifs
    · simp only [hsp, Option.getD_some]
      rfl
    · rfl

theorem registerMove_declare (s : State) (pl id x0 y0 x1 y1 : Nat) :
    RegisterMove s (ownRemnantDeclare pl id x0 y0 x1 y1 s).1 := by
  have hsame : RegisterMove s s := .of_same fun x _ => by cases x <;> rfl
  refine byCases_keeps hsame fun hc => ?_
  have hcase := (firstCase_eq_none _).mp hc
  split
  · exact hsame
  · rename_i r hr
    obtain rfl : r.id = pl := State.id_of_record hr
    simp only [declareCases, hr, Option.any_some, Option.map_some, Option.getD_some, List.mem_cons, List.not_mem_nil, or_false,
      forall_eq_or_imp, forall_eq] at hcase
    obtain ⟨-, hstate, -, -, hrange, -, -, -, hnew, hroom, hfull, -⟩ := hcase
    simp only [Bool.or_eq_false_iff, Bool.not_eq_false', decide_eq_false_iff_not, Bool.and_eq_false_iff] at hstate
    simp only [decide_eq_false_iff_not, not_or, not_le, Bool.or_eq_true, decide_eq_true_eq, not_lt] at hrange
    obtain ⟨⟨hrest, hform⟩, hloose⟩ := hstate
    obtain ⟨-, -, hx, hy, hlen, hwid⟩ := hrange
    refine .declare ⟨hr, hrest, hform, fun hk => hloose.resolve_left fun h => h hk, ⟨hx, hy, hlen, hwid⟩,
      Option.isNone_iff_eq_none.mp (Option.isSome_eq_false_iff.mp hnew), not_le.mp (of_decide_eq_false hroom),
      not_le.mp (of_decide_eq_false hfull)⟩ rfl rfl fun _ => rfl

theorem registerMove_lift (s : State) (p : Port) (id z : Nat) : RegisterMove s (ownLift p id z s).1 := by
  have hsame : RegisterMove s s := .of_same fun x _ => by cases x <;> rfl
  refine byCases_keeps hsame fun hc => ?_
  split
  · exact hsame
  · rename_i r hr
    obtain rfl : r.id = id := State.id_of_record hr
    simp only [liftCases, firstCase_append, Option.or_eq_none_iff, hr] at hc
    obtain ⟨hfirst, hcorridor⟩ := hc
    have hcase := (firstCase_eq_none _).mp hfirst
    have hbusy := hcase ((s.crane p).hook.isSome, .busy) (by simp)
    have hrest := hcase (!r.isResting, .state) (by simp)
    have hcase' := (firstCase_eq_none _).mp hcorridor
    have hspan := hcase' (!columnsWithin (s.liftCorridor r z).columns (s.crane p).span, .span) (by simp [corridorCases])
    have hhot := hcase' (s.overHotBed (s.liftCorridor r z), .hot) (by simp [corridorCases])
    exact .lift ⟨hr, by simpa using hrest, Option.isNone_iff_eq_none.mp (Option.isSome_eq_false_iff.mp hbusy),
      by simpa using hspan, hhot⟩ rfl

theorem RegisterMove.walked {s s' : State} {p : Port} (h : s.Unloads p s') : RegisterMove s s'.runWalk :=
  .unload h (by simp) (by simp) fun z => State.desc_congr (by simp) z

/-- Every request that may change a record does so by one of the moves. -/
theorem registerMove_request {i : Instr} {p : Port} {tag : Byte} {s : State} (hi : requestOf i = some (p, tag))
    (ht : touches [.records] i = true) : RegisterMove s (ownAct i s).1 := by
  have hsame : RegisterMove s s := .of_same fun x _ => by cases x <;> rfl
  cases i with
  | plateRegister p t w z ox oy => exact registerMove_plateRegister s w z ox oy
  | plateRegisterOnHook p t w n => exact registerMove_onHook s w n
  | platePartsReplace p t id l => exact byCases_keeps hsame fun _ => .setRecord s id (quiet_parts _)
  | platePartsAppend p t id l => exact byCases_keeps hsame fun _ => .setRecord s id (quiet_append _)
  | plateFinish p t id => exact byCases_keeps hsame fun _ => .setRecord s id quiet_skeleton
  | plateDrop p t id =>
    refine byCases_keeps hsame fun hc => ?_
    have hcase := (firstCase_eq_none _).mp hc
    have hsome := hcase ((s.record id).isNone, .unknownId) (by simp [plateDropCases])
    have hrest := hcase ((s.record id).any (fun r => !r.isResting), .state) (by simp [plateDropCases])
    obtain ⟨r, hr⟩ := Option.isSome_iff_exists.mp (Option.isNone_eq_false_iff.mp hsome)
    obtain rfl : r.id = id := State.id_of_record hr
    rw [hr, Option.any_some] at hrest
    exact .drop hr (by simpa using hrest) rfl rfl fun _ => rfl
  | arcOff p t o => exact registerMove_arcOff s p o
  | lift p t id z => exact registerMove_lift s p id z
  | setDown p t ox oy turn =>
    obtain h | ⟨s', hu, h⟩ := ownSetDown_cases s p ox oy turn
    · rwa [show (ownAct (.setDown p t ox oy turn) s).1 = s from h]
    · rw [show (ownAct (.setDown p t ox oy turn) s).1 = s'.runWalk from h]
      exact .walked hu
  | liftAbort p t =>
    obtain h | ⟨s', hu, h⟩ := ownLiftAbort_cases s p
    · rwa [show (ownAct (.liftAbort p t) s).1 = s from h]
    · rw [show (ownAct (.liftAbort p t) s).1 = s'.runWalk from h]
      exact .walked hu
  | remnantDeclare p t pl id x0 y0 x1 y1 => exact registerMove_declare s pl id x0 y0 x1 y1
  | remnantFit p t g th l w hold =>
    refine byCases_keeps hsame fun _ => ?_
    dsimp only
    split
    · exact hsame
    · exact .setRecord s _ (quiet_hold _)
  | remnantRelease p t id => exact byCases_keeps hsame fun _ => .setRecord s id (quiet_hold none)
  | _ => first | exact absurd ht Bool.false_ne_true | cases hi

theorem registerMove_holdExpiry (s : State) (id : Nat) : RegisterMove s (holdExpiry id s) := by
  unfold holdExpiry
  split_ifs
  · exact .quiet ((quiet_hold none).changeRecord id) (by simp [State.setRecord]) (by simp)
      fun z => State.desc_congr (by simp) z
  · exact .of_same fun x _ => by cases x <;> rfl

end Sys2Proof.Machine
end

section
/-! Every step keeps the law of the register and that of the hooks (R21, R86). -/

namespace Sys2Proof.Machine

open Sys2Proof

/-! ## The register -/

theorem RegisterMove.registerLaw {s t : State} (h : RegisterMove s t) (hs : s.RegisterLaw) : t.RegisterLaw := by
  cases h with
  | quiet hf hrec => exact hs.mapRecords hf.id hrec
  | enter h hrec => exact (hs.addRecord h.fresh h.room).congr hrec
  | hook _ hfresh hroom _ _ _ _ hrec => exact (hs.addRecord hfresh hroom).congr hrec
  | @declare r id x0 y0 x1 y1 h hrec =>
    have hset : (s.setRecord r.id fun r => { r with form := .skeleton }).RegisterLaw := hs.setRecord r.id fun _ => rfl
    refine State.RegisterLaw.congr hrec (hset.addRecord ?_ ?_)
    · rw [State.record_eq_none]
      intro q hq
      obtain ⟨q, hq', rfl⟩ := List.mem_map.mp hq
      have hid : (changeRecord r.id (fun r => { r with form := .skeleton }) q).id = q.id :=
        id_changeRecord (by intro; rfl) r.id q
      rw [hid]
      exact State.record_eq_none.mp h.fresh q hq'
    · simpa [State.setRecord] using h.room
  | @lift p r z _ ht =>
    have hset : (s.setRecord r.id fun q => { q with location := .onHook p, inParent := false }).RegisterLaw :=
      hs.setRecord r.id fun _ => rfl
    refine hset.mapRecords (Plate.id_leftBy r.id) ?_
    simp [ht, State.grantLift, State.clearInParent]
  | @drop r _ _ hrec => exact (hs.deleteRecord r.id).congr hrec
  | @unload p s' h hrec =>
    refine State.RegisterLaw.congr hrec ?_
    cases h with
    | @rest r z ox oy t a =>
      have hset : (s.setRecord r.id fun q => { q with location := .resting z ox oy t }).RegisterLaw :=
        hs.setRecord r.id fun _ => rfl
      exact hset.congr (by simp [State.rested])
    | @scrap r => exact (hs.deleteRecord r.id).congr (by simp [State.scrapped])

/-- A law of the records alone that the moves keep is kept by every step, under any law. -/
theorem registerLaw_kept : Kept [.records] State.RegisterLaw where
  apart := by decide
  reads h hs := hs.congr (h .records (by simp))
  aged _ hs := hs.mapRecords (f := Plate.aged) (fun _ => rfl) rfl
  frameError p hs := hs.congr (by simp)
  request hi ht _ _ hs := (registerMove_request hi ht).registerLaw hs
  lapse _ _ hs := hs.congr (by simp)
  feeder _ ht := absurd ht Bool.false_ne_true
  timed {i s} hi ht _ hs := by
    cases i with
    | holdTimerExpiry id => exact (registerMove_holdExpiry s id).registerLaw hs
    | _ => first | exact absurd hi Bool.false_ne_true | exact absurd ht Bool.false_ne_true
  powerUp {s} _ _ := powerUp_keeps (P := State.RegisterLaw) (fun c n h => h.congr (by simp)) (fun h => h.congr (by simp))
    ⟨List.Pairwise.nil, Nat.zero_le _⟩
  warmUp {s} _ hs := by
    have hframe : (blocksReset s).resetJobs.records = (blocksReset s).records :=
      (resetJobs_sameBut (blocksReset s)).2 .records (by simp)
    refine warmUp_keeps (P := State.RegisterLaw) (fun c n h => h.congr (by simp)) (fun h => h.congr (by simp)) ?_
    exact hs.mapRecords (f := fun r => { r with hold := none }) (fun _ => rfl) (by rw [hframe, blocksReset_records])

/-! ## The hooks -/

/-- R86: what the law of the hooks says of one crane by itself. -/
structure Crane.Sound (c : Crane) : Prop where
  span : (c.span.all fun a => decide (a.1 ≤ a.2) && decide (a.2 ≤ Config.lastColumn)) = true
  free : c.hook = none → c.corridor = none ∧ c.target = 0 ∧ c.targets = [] ∧ c.origin.zone = 0
  loaded : c.hook ≠ none → c.span.isSome ∧ c.corridor.isSome ∧ (c.corridor.all fun r => columnsWithin r.columns c.span) = true
    ∧ (c.target ∈ c.targets ∨ c.target = 0 ∧ c.targets = [])

theorem State.hookLaw_iff {s : State} : s.HookLaw ↔
    (∀ r ∈ s.records, ∀ p : Port, r.location = .onHook p ↔ (s.crane p).hook = some r.id)
    ∧ (∀ (p : Port) (id : Nat), (s.crane p).hook = some id → (s.record id).isSome) ∧ ∀ p, (s.crane p).Sound := by
  constructor
  · rintro ⟨hloc, hcrane⟩
    refine ⟨hloc, fun p id hp => ?_, fun p => ?_⟩
    · obtain ⟨-, -, hloaded⟩ := hcrane p
      simpa [hp] using (hloaded (by simp [hp])).1
    · obtain ⟨hspan, hfree, hloaded⟩ := hcrane p
      exact ⟨hspan, hfree, fun h => (hloaded h).2⟩
  · rintro ⟨hloc, hfound, hcrane⟩
    refine ⟨hloc, fun p => ⟨(hcrane p).span, (hcrane p).free, fun h => ⟨?_, (hcrane p).loaded h⟩⟩⟩
    obtain ⟨id, hid⟩ := Option.ne_none_iff_exists'.mp h
    simpa [hid] using hfound p id hid

section

variable {s t : State} (hs : s.HookLaw)
include hs

theorem State.HookLaw.located {r : Plate} (hr : r ∈ s.records) (p : Port) :
    r.location = .onHook p ↔ (s.crane p).hook = some r.id := (State.hookLaw_iff.mp hs).1 r hr p

theorem State.HookLaw.found {p : Port} {id : Nat} (h : (s.crane p).hook = some id) : (s.record id).isSome :=
  (State.hookLaw_iff.mp hs).2.1 p id h

theorem State.HookLaw.sound (p : Port) : (s.crane p).Sound := (State.hookLaw_iff.mp hs).2.2 p

/-- The cranes change, but for their hooks. -/
theorem State.HookLaw.spans (hrec : t.records = s.records) (hhook : ∀ p, (t.crane p).hook = (s.crane p).hook)
    (hsound : ∀ p, (t.crane p).Sound) : t.HookLaw := by
  refine State.hookLaw_iff.mpr ⟨fun r hr p => ?_, fun p id hp => ?_, hsound⟩
  · rw [hhook]
    exact hs.located (hrec ▸ hr) p
  · rw [hhook] at hp
    rw [State.record_congr hrec]
    exact hs.found hp

theorem State.HookLaw.reads (h : SameOn [.records, .cranes] s t) : t.HookLaw := by
  have hcrane (p : Port) : t.crane p = s.crane p := State.crane_congr (h .cranes (by simp)) p
  exact hs.spans (h .records (by simp)) (fun p => by rw [hcrane]) fun p => by
    rw [hcrane]
    exact hs.sound p

/-- The records change, but for those on a hook and the ids in use; a new one rests. -/
theorem State.HookLaw.records (hcrane : t.cranes = s.cranes)
    (hold : ∀ r' ∈ t.records, (∃ r ∈ s.records, r.id = r'.id ∧ r.location = r'.location)
      ∨ (r'.isResting = true ∧ s.record r'.id = none))
    (hkeep : ∀ r ∈ s.records, r.isResting = false → ∃ r' ∈ t.records, r'.id = r.id) : t.HookLaw := by
  have hc (p : Port) : t.crane p = s.crane p := State.crane_congr hcrane p
  refine State.hookLaw_iff.mpr ⟨fun r' hr' p => ?_, fun p id hp => ?_, fun p => by rw [hc]; exact hs.sound p⟩
  · rw [hc]
    obtain ⟨r, hr, hid, hloc⟩ | ⟨hrest, hnew⟩ := hold r' hr'
    · rw [← hid, ← hloc]
      exact hs.located hr p
    · constructor
      · intro hloc
        simp [Plate.isResting, hloc] at hrest
      · intro hp
        have := hs.found hp
        simp [hnew] at this
  · rw [hc] at hp
    obtain ⟨r, hr, hid⟩ := State.record_isSome.mp (hs.found hp)
    have hloc : r.location = .onHook p := (hs.located hr p).mpr (hid ▸ hp)
    obtain ⟨r', hr', hid'⟩ := hkeep r hr (by simp [Plate.isResting, hloc])
    exact State.record_isSome.mpr ⟨r', hr', hid'.trans hid⟩

end

theorem State.isResting_of_location {r : Plate} {z ox oy : Nat} {t : Turn} (h : r.location = .resting z ox oy t) :
    r.isResting = true := by simp [Plate.isResting, h]

theorem Plate.location_leftBy (parent : Nat) (r : Plate) : (r.leftBy parent).location = r.location := by
  unfold Plate.leftBy
  split_ifs <;> rfl

theorem Plate.isResting_remnantOf {r : Plate} (h : r.isResting = true) (id x0 y0 x1 y1 : Nat) :
    (r.remnantOf id x0 y0 x1 y1).isResting = true := by
  unfold Plate.isResting at h ⊢
  unfold Plate.remnantOf
  cases hl : r.location with
  | resting z ox oy t => cases t <;> rfl
  | onHook q => simp [hl] at h

/-- R28, R35: the records that stay when one leaves the register. -/
theorem State.mem_deleteRecord {s : State} {id : Nat} {r' : Plate} :
    r' ∈ (s.deleteRecord id).records ↔ ∃ r ∈ s.records, r.id ≠ id ∧ r' = r.leftBy id := by
  simp only [State.deleteRecord, State.clearInParent, List.mem_map, List.mem_filter, decide_eq_true_eq]
  exact ⟨fun ⟨r, ⟨hr, hn⟩, he⟩ => ⟨r, hr, hn, he.symm⟩, fun ⟨r, hr, hn, he⟩ => ⟨r, ⟨hr, hn⟩, he.symm⟩⟩

/-- A hook that names one record is loaded with it and no other is. -/
theorem State.HookLaw.rehook {s t : State} (hs : s.HookLaw) {p : Port} {id : Nat} {c : Crane}
    (hfree : (s.crane p).hook = none ∨ (s.crane p).hook = some id)
    (hother : ∀ q, q ≠ p → (s.crane q).hook ≠ some id) (hsound : c.Sound)
    (hcrane : ∀ q, t.crane q = if p = q then c else s.crane q)
    (hold : ∀ r' ∈ t.records, r'.id ≠ id → ∃ r ∈ s.records, r.id = r'.id ∧ r.location = r'.location)
    (hkeep : ∀ r ∈ s.records, r.id ≠ id → ∃ r' ∈ t.records, r'.id = r.id)
    (hself : ∀ r' ∈ t.records, r'.id = id → ∀ q, r'.location = .onHook q ↔ p = q ∧ c.hook = some id)
    (hhook : c.hook = none ∨ (c.hook = some id ∧ ∃ r' ∈ t.records, r'.id = id)) : t.HookLaw := by
  have hne {q : Port} {k : Nat} (hk : k ≠ id) (hq : (s.crane q).hook = some k) : q ≠ p := by
    rintro rfl
    obtain h | h := hfree
    · simp [h] at hq
    · exact hk (Option.some_inj.mp (hq.symm.trans h))
  refine State.hookLaw_iff.mpr ⟨fun r' hr' q => ?_, fun q k hq => ?_, fun q => ?_⟩
  · by_cases hid : r'.id = id
    · rw [hself r' hr' hid, hcrane, hid]
      split_ifs with hpq
      · simp [hpq]
      · simp [hpq, hother q (Ne.symm hpq)]
    · obtain ⟨r, hr, hrid, hloc⟩ := hold r' hr' hid
      rw [← hloc, hs.located hr, hrid, hcrane]
      split_ifs with hpq
      · subst hpq
        constructor
        · exact fun h => absurd rfl (hne hid h)
        · intro h
          obtain hc | ⟨hc, -⟩ := hhook
          · simp [hc] at h
          · exact absurd (Option.some_inj.mp (h.symm.trans hc)) hid
      · rfl
  · rw [hcrane] at hq
    rw [State.record_isSome]
    split_ifs at hq with hpq
    · obtain hc | ⟨hc, hr⟩ := hhook
      · simp [hc] at hq
      · obtain rfl := Option.some_inj.mp (hq.symm.trans hc)
        exact hr
    · have hk : k ≠ id := fun h => hother q (Ne.symm hpq) (h ▸ hq)
      obtain ⟨r, hr, hrid⟩ := State.record_isSome.mp (hs.found hq)
      obtain ⟨r', hr', hid'⟩ := hkeep r hr (hrid ▸ hk)
      exact ⟨r', hr', hid'.trans hrid⟩
  · rw [hcrane]
    split_ifs
    · exact hsound
    · exact hs.sound q

end Sys2Proof.Machine
end

section
/-! Every step keeps the law of the hooks (R86). -/

namespace Sys2Proof.Machine

open Sys2Proof

theorem Crane.sound_freed {c : Crane} (h : c.Sound) : c.freed.Sound :=
  ⟨h.span, fun _ => ⟨rfl, rfl, rfl, rfl⟩, fun hn => absurd rfl hn⟩

/-- R30: the crane that a registration loads. -/
theorem Crane.sound_loaded {sp : Nat × Nat} {id : Nat} (hsp : (decide (sp.1 ≤ sp.2) && decide (sp.2 ≤ Config.lastColumn)) = true) :
    (⟨some sp, some id, some (spanRect sp), 0, [], .nowhere⟩ : Crane).Sound := by
  refine ⟨hsp, nofun, fun _ => ⟨rfl, rfl, ?_, .inr ⟨rfl, rfl⟩⟩⟩
  simp only [Bool.and_eq_true, decide_eq_true_eq] at hsp
  refine Bool.and_eq_true_iff.mpr ⟨decide_eq_true ?_, decide_eq_true ?_⟩
  · simp [Rect.columns, spanRect, Config.columnWidth]
  · simp only [Rect.columns, spanRect, Config.columnWidth]
    omega

theorem RegisterMove.hookLaw {s t : State} (h : RegisterMove s t) (hr : s.RegisterLaw) (hs : s.HookLaw) : t.HookLaw := by
  have hreg := h.registerLaw hr
  cases h with
  | quiet hf hrec hcrane =>
    refine hs.records hcrane (fun r' hr' => .inl ?_) fun r hr _ => ?_
    · rw [hrec] at hr'
      obtain ⟨r, hr, rfl⟩ := List.mem_map.mp hr'
      exact ⟨r, hr, (hf.id r).symm, (hf.location r).symm⟩
    · rw [hrec]
      exact ⟨_, List.mem_map_of_mem hr, hf.id r⟩
  | @enter r z ox oy turn he hrec hcrane =>
    refine hs.records hcrane (fun r' hr' => ?_) fun q hq _ => ⟨q, by rw [hrec]; exact State.mem_addRecord.mpr (.inr hq), rfl⟩
    rw [hrec] at hr'
    obtain rfl | hr' := State.mem_addRecord.mp hr'
    · exact .inr ⟨State.isResting_of_location he.location, he.fresh⟩
    · exact .inl ⟨r', hr', rfl, rfl⟩
  | @hook r q sp hloc hfresh _ _ hfree hspan _ hrec hcrane =>
    have hnone := State.record_eq_none.mp hfresh
    have hself : ∀ r' ∈ t.records, r'.id = r.id → r' = r := fun r' hr' hid => by
      rw [hrec] at hr'
      exact (State.mem_addRecord.mp hr').resolve_right fun h => hnone r' h hid
    refine hs.rehook (p := q) (id := r.id) (c := _) (.inl hfree) (fun x _ hx => ?_) ?_ hcrane (fun r' hr' hid => ?_)
      (fun r' hr' _ => ⟨r', by rw [hrec]; exact State.mem_addRecord.mpr (.inr hr'), rfl⟩) (fun r' hr' hid x => ?_)
      (.inr ⟨rfl, r, by rw [hrec]; exact State.mem_addRecord.mpr (.inl rfl), rfl⟩)
    · have := hs.found hx
      simp [hfresh] at this
    · have := (hs.sound q).span
      exact Crane.sound_loaded (by simpa [hspan] using this)
    · rw [hrec] at hr'
      exact ⟨r', (State.mem_addRecord.mp hr').resolve_left fun h => hid (h ▸ rfl), rfl, rfl⟩
    · rw [hself r' hr' hid, hloc]
      simp
  | @declare r id x0 y0 x1 y1 hd hrec hcrane =>
    have hmem (r' : Plate) : r' ∈ t.records ↔ r' = r.remnantOf id x0 y0 x1 y1
        ∨ ∃ q ∈ s.records, changeRecord r.id (fun r => { r with form := .skeleton }) q = r' := by
      rw [hrec, State.mem_addRecord]
      exact or_congr_right List.mem_map
    have hsame (q : Plate) : (changeRecord r.id (fun r => { r with form := .skeleton }) q).id = q.id
        ∧ (changeRecord r.id (fun r => { r with form := .skeleton }) q).location = q.location := by
      unfold changeRecord
      split_ifs <;> exact ⟨rfl, rfl⟩
    refine hs.records hcrane (fun r' hr' => ?_) fun q hq _ => ⟨_, (hmem _).mpr (.inr ⟨q, hq, rfl⟩), (hsame q).1⟩
    obtain rfl | ⟨q, hq, rfl⟩ := (hmem r').mp hr'
    · exact .inr ⟨Plate.isResting_remnantOf hd.resting .., hd.fresh⟩
    · exact .inl ⟨q, hq, (hsame q).1.symm, (hsame q).2.symm⟩
  | @lift p r z hl ht =>
    obtain ⟨hrm, -⟩ := State.mem_of_record hl.record
    have hrec : t.records = (s.records.map (changeRecord r.id fun q => { q with location := .onHook p, inParent := false })).map
        (Plate.leftBy r.id) := by
      simp [ht, State.grantLift, State.clearInParent, State.setRecord]
    have hmem (r' : Plate) : r' ∈ t.records ↔ ∃ q ∈ s.records,
        (changeRecord r.id (fun q => { q with location := .onHook p, inParent := false }) q).leftBy r.id = r' := by
      rw [hrec, List.map_map]
      exact List.mem_map
    have hid (q : Plate) : ((changeRecord r.id (fun q => { q with location := .onHook p, inParent := false }) q).leftBy r.id).id
        = q.id := by
      rw [Plate.id_leftBy]
      exact id_changeRecord (by intro; rfl) r.id q
    refine hs.rehook (p := p) (id := r.id) (c := { s.crane p with
      hook := some r.id, corridor := some (s.liftCorridor r z), target := z, targets := [z], origin := r.origin })
      (.inl hl.free) (fun x _ hx => ?_) ⟨(hs.sound p).span, nofun, fun _ => ⟨?_, rfl, hl.within, .inl ?_⟩⟩
      (fun q => by rw [ht, State.crane_grantLift]) (fun r' hr' hne => ?_)
      (fun q hq _ => ⟨_, (hmem _).mpr ⟨q, hq, rfl⟩, hid q⟩) (fun r' hr' he x => ?_)
      (.inr ⟨rfl, _, (hmem _).mpr ⟨r, hrm, rfl⟩, hid r⟩)
    · have hloc := (hs.located hrm x).mpr hx
      have := hl.resting
      simp [Plate.isResting, hloc] at this
    · have hwithin := hl.within
      cases hsp : (s.crane p).span with
      | none => simp [hsp, columnsWithin] at hwithin
      | some sp => rfl
    · exact List.mem_singleton.mpr rfl
    · obtain ⟨q, hq, rfl⟩ := (hmem r').mp hr'
      rw [hid] at hne
      exact ⟨q, hq, (hid q).symm, by rw [Plate.location_leftBy, changeRecord, if_neg hne]⟩
    · obtain ⟨q, hq, rfl⟩ := (hmem r').mp hr'
      rw [hid] at he
      rw [Plate.location_leftBy, changeRecord, if_pos he]
      simp
  | @drop r hrr hrest hrec hcrane =>
    have hmem := @State.mem_deleteRecord s r.id
    refine hs.records hcrane (fun r' hr' => .inl ?_) fun q hq hq' => ?_
    · obtain ⟨q, hq, -, rfl⟩ := hmem.mp (hrec ▸ hr')
      exact ⟨q, hq, (Plate.id_leftBy _ q).symm, (Plate.location_leftBy _ q).symm⟩
    · have hne : q.id ≠ r.id := fun he => by
        rw [hr.eq_of_id hq (State.mem_of_record hrr).1 he, hrest] at hq'
        cases hq'
      exact ⟨_, hrec ▸ hmem.mpr ⟨q, hq, hne, rfl⟩, Plate.id_leftBy _ q⟩
  | @unload p s' hu hrec hcrane =>
    have hc (q : Port) : t.crane q = if p = q then (s.crane p).freed else s.crane q := by
      rw [State.crane_congr hcrane, hu.crane]
    have hload {r : Plate} (h : s.load p = some r) : (s.crane p).hook = some r.id ∧ ∀ q, q ≠ p → (s.crane q).hook ≠ some r.id := by
      obtain ⟨id, hhook, hrec⟩ := Option.bind_eq_some_iff.mp h
      obtain ⟨hrm, rfl⟩ := State.mem_of_record hrec
      refine ⟨hhook, fun q hq hx => hq ?_⟩
      have h1 := (hs.located hrm p).mpr hhook
      have h2 := (hs.located hrm q).mpr hx
      exact (Location.onHook.inj (h1.symm.trans h2)).symm
    cases hu with
    | @rest r z ox oy turn a hr' _ =>
      obtain ⟨hhook, hother⟩ := hload hr'
      have hrec' : t.records = s.records.map (changeRecord r.id fun q => { q with location := .resting z ox oy turn }) := by
        rw [hrec]
        simp [State.rested, State.setRecord]
      have hid (q : Plate) : (changeRecord r.id (fun q => { q with location := .resting z ox oy turn }) q).id = q.id :=
        id_changeRecord (by intro; rfl) r.id q
      refine hs.rehook (.inr hhook) hother (Crane.sound_freed (hs.sound p)) hc (fun r' hr' hne => ?_)
        (fun q hq _ => ⟨_, by rw [hrec']; exact List.mem_map_of_mem hq, hid q⟩) (fun r' hr' he x => ?_) (.inl rfl)
      · rw [hrec'] at hr'
        obtain ⟨q, hq, rfl⟩ := List.mem_map.mp hr'
        rw [hid] at hne
        exact ⟨q, hq, (hid q).symm, by rw [changeRecord, if_neg hne]⟩
      · rw [hrec'] at hr'
        obtain ⟨q, hq, rfl⟩ := List.mem_map.mp hr'
        rw [hid] at he
        rw [changeRecord, if_pos he]
        simp [Crane.freed]
    | @scrap r z hr' =>
      obtain ⟨hhook, hother⟩ := hload hr'
      have hrec' : t.records = (s.deleteRecord r.id).records := by
        rw [hrec]
        simp [State.scrapped]
      have hmem := @State.mem_deleteRecord s r.id
      refine hs.rehook (.inr hhook) hother (Crane.sound_freed (hs.sound p)) hc (fun r' hr' _ => ?_)
        (fun q hq hne => ⟨_, hrec' ▸ hmem.mpr ⟨q, hq, hne, rfl⟩, Plate.id_leftBy _ q⟩) (fun r' hr' he x => ?_) (.inl rfl)
      · obtain ⟨q, hq, -, rfl⟩ := hmem.mp (hrec' ▸ hr')
        exact ⟨q, hq, (Plate.id_leftBy _ q).symm, (Plate.location_leftBy _ q).symm⟩
      · obtain ⟨q, hq, hne, rfl⟩ := hmem.mp (hrec' ▸ hr')
        exact absurd ((Plate.id_leftBy _ q).symm.trans he) hne

/-! ## The cranes alone -/

theorem State.HookLaw.setCrane {s : State} (hs : s.HookLaw) {p : Port} {c : Crane} (hhook : c.hook = (s.crane p).hook)
    (hc : c.Sound) : (s.setCrane p c).HookLaw := by
  refine hs.spans rfl (fun q => ?_) fun q => ?_
  · rw [State.crane_setCrane]
    split_ifs with h
    · rw [hhook, h]
    · rfl
  · rw [State.crane_setCrane]
    split_ifs
    · exact hc
    · exact hs.sound q

theorem State.HookLaw.spanSet {s : State} (hs : s.HookLaw) (p : Port) (lo hi : Nat) : (ownSpanSet p lo hi s).1.HookLaw := by
  unfold ownSpanSet
  split
  · exact hs
  · rename_i hc
    have hcase := (firstCase_eq_none _).mp hc
    have hrange := hcase (decide (hi < lo ∨ Config.lastColumn < hi), .range) (by simp [spanSetCases])
    have hfit := hcase ((s.crane p).hook.isSome && (s.crane p).corridor.any fun c => !columnsWithin c.columns (some (lo, hi)),
      .corridor) (by simp [spanSetCases])
    simp only [decide_eq_false_iff_not, not_or, not_lt] at hrange
    have hold := hs.sound p
    refine hs.setCrane rfl ⟨by simp [hrange.1, hrange.2], hold.free, fun hn => ⟨rfl, (hold.loaded hn).2.1, ?_, (hold.loaded hn).2.2.2⟩⟩
    obtain ⟨id, hid⟩ := Option.ne_none_iff_exists'.mp hn
    change (s.crane p).hook = some id at hid
    cases hcor : (s.crane p).corridor with
    | none => rfl
    | some c => simpa [hid, hcor] using hfit

theorem State.HookLaw.spanClear {s : State} (hs : s.HookLaw) (p : Port) : (ownSpanClear p s).1.HookLaw := by
  refine byCases_keeps hs fun hc => ?_
  have hbusy := (firstCase_eq_none _).mp hc ((s.crane p).hook.isSome, .busy) (by simp)
  have hfree : (s.crane p).hook = none := Option.isNone_iff_eq_none.mp (Option.isSome_eq_false_iff.mp hbusy)
  exact hs.setCrane rfl ⟨rfl, (hs.sound p).free, fun hn => absurd hfree hn⟩

theorem mem_withTarget {l : List Nat} {z x : Nat} : x ∈ withTarget l z ↔ x ∈ l ∨ x = z := by
  unfold withTarget
  split_ifs with h
  · rw [List.contains_iff_mem] at h
    exact ⟨.inl, fun hx => hx.elim id fun e => e ▸ h⟩
  · simp

/-- R98: what an accepted retarget has passed. -/
theorem retargetCases_accepted {p : Port} {z : Nat} {s : State} (h : firstCase (retargetCases p z s) = none) :
    (s.crane p).hook ≠ none ∧ columnsWithin (s.grownCorridor p z).columns (s.crane p).span = true
      ∧ s.overHotBed (s.grownCorridor p z) = false := by
  have hcase := (firstCase_eq_none _).mp h
  have hhook := hcase ((s.crane p).hook.isNone, .state) (by simp [retargetCases])
  have hspan := hcase (!columnsWithin (s.grownCorridor p z).columns (s.crane p).span, .span)
    (by simp [retargetCases, corridorCases])
  have hhot := hcase (s.overHotBed (s.grownCorridor p z), .hot) (by simp [retargetCases, corridorCases])
  exact ⟨fun hn => by simp [hn] at hhook, by simpa using hspan, hhot⟩

theorem State.HookLaw.retarget {s : State} (hs : s.HookLaw) {p : Port} {z : Nat}
    (hc : firstCase (retargetCases p z s) = none) : (s.retarget p z).HookLaw := by
  obtain ⟨hhook, hwithin, -⟩ := retargetCases_accepted hc
  obtain ⟨-, h⟩ | ⟨-, h⟩ := s.retarget_cases p z
  · rwa [h]
  · rw [h]
    have hold := hs.sound p
    exact hs.setCrane rfl ⟨hold.span, fun hn => absurd hn hhook,
      fun _ => ⟨(hold.loaded hhook).1, rfl, hwithin, .inl (mem_withTarget.mpr (.inr rfl))⟩⟩

/-! ## Every step -/

theorem State.HookLaw.request {i : Instr} {p : Port} {tag : Byte} {s : State} (hi : requestOf i = some (p, tag))
    (ht : touches [.records, .cranes] i = true) (hr : s.RegisterLaw) (hs : s.HookLaw) : (ownAct i s).1.HookLaw := by
  cases hrec : touches [.records] i with
  | true => exact (registerMove_request hi hrec).hookLaw hr hs
  | false =>
    cases i with
    | spanSet p t lo hi' => exact hs.spanSet p lo hi'
    | spanClear p t => exact hs.spanClear p
    | retarget p t z => exact byCases_keeps hs fun hc => (hs.retarget hc).reads (by simp [SameOn, Piece.same])
    | _ => first | exact absurd ht Bool.false_ne_true | exact absurd hrec.symm Bool.false_ne_true

theorem State.hookLaw_of_powerOn {s : State} (hrec : ∀ r ∈ s.records, r.isResting = true)
    (h : s.cranes = Vector.replicate 6 .powerOn) : s.HookLaw := by
  have hcrane (p : Port) : s.crane p = .powerOn := by simp [State.crane, h]
  refine State.hookLaw_iff.mpr ⟨fun r hr p => ?_, fun p id hp => ?_, fun p => ?_⟩
  · have := hrec r hr
    rw [hcrane]
    constructor
    · intro hloc
      simp [Plate.isResting, hloc] at this
    · intro hh
      cases hh
  · rw [hcrane] at hp
    cases hp
  · rw [hcrane]
    exact ⟨rfl, fun _ => ⟨rfl, rfl, rfl, rfl⟩, fun h => absurd rfl h⟩

theorem hookLaw_upkeep : Upkeep State.RegisterLaw [.records, .cranes] State.HookLaw where
  apart := by decide
  reads h hs := hs.reads h
  aged {s} hr hs := RegisterMove.hookLaw (t := s.aged) (.quiet quiet_aged rfl rfl fun _ => rfl) hr hs
  frameError p hs := hs.reads (by simp [SameOn, Piece.same])
  request hi ht _ hr hs := hs.request hi ht hr
  lapse _ _ hs := hs.reads (by simp [SameOn, Piece.same])
  feeder _ ht := absurd ht Bool.false_ne_true
  timed {i s} hi ht hr hs := by
    cases i with
    | holdTimerExpiry id => exact (registerMove_holdExpiry s id).hookLaw hr hs
    | _ => first | exact absurd hi Bool.false_ne_true | exact absurd ht Bool.false_ne_true
  powerUp {s} _ _ := powerUp_keeps (fun c n h => h.reads (by simp [SameOn, Piece.same]))
    (fun h => h.reads (by simp [SameOn, Piece.same])) (State.hookLaw_of_powerOn (fun _ hr => nomatch hr) rfl)
  warmUp {s} hr hs := by
    have hframe := resetJobs_sameBut (blocksReset s)
    have hcranes : (blocksReset s).resetJobs.cranes = (blocksReset s).cranes := hframe.2 .cranes (by simp)
    have hrecords : (blocksReset s).resetJobs.records = s.records.map fun r => { r with hold := none } := by
      rw [← blocksReset_records]
      exact hframe.2 .records (by simp)
    refine warmUp_keeps (fun c n h => h.reads (by simp [SameOn, Piece.same]))
      (fun h => h.reads (by simp [SameOn, Piece.same])) ?_
    by_cases hidle : s.cranesIdle = true
    · refine State.hookLaw_of_powerOn (fun r' hr' => ?_) (by rw [hcranes, blocksReset_cranes, if_pos hidle])
      rw [hrecords] at hr'
      obtain ⟨r, hr, rfl⟩ := List.mem_map.mp hr'
      cases hl : r.location with
      | resting z ox oy t => rfl
      | onHook q =>
        have := (hs.located hr q).mp hl
        simp [State.cranesIdle, mem_allPorts] at hidle
        simp [hidle q] at this
    · refine hs.records (by rw [hcranes, blocksReset_cranes, if_neg hidle]) (fun r' hr' => .inl ?_) fun r hr _ => ?_
      · rw [hrecords] at hr'
        obtain ⟨r, hr, rfl⟩ := List.mem_map.mp hr'
        exact ⟨r, hr, rfl, rfl⟩
      · rw [hrecords]
        exact ⟨_, List.mem_map_of_mem hr, rfl⟩

theorem hookLaw_kept : Kept ([.records] ++ [.records, .cranes]) fun s => s.RegisterLaw ∧ s.HookLaw :=
  registerLaw_kept.and hookLaw_upkeep

end Sys2Proof.Machine
end

section
/-! No hot bed lies under an active corridor (R72, R93). -/

namespace Sys2Proof.Machine

open Sys2Proof

/-- R16: the port's torch burns over the bed its binding names. -/
def State.LitBed (s : State) (p : Port) : Prop := (s.torch p).state.lit = true ∧ (s.binding p).state ≠ .none

theorem State.isHot_iff {s : State} {z : Nat} : s.isHot z = true ↔ ∃ p, s.LitBed p ∧ (s.binding p).zone = z := by
  rw [State.isHot, List.any_eq_true]
  constructor
  · rintro ⟨p, hp, hlit⟩
    obtain ⟨hbound, hz⟩ := State.mem_bindersOf.mp hp
    exact ⟨p, ⟨hlit, hbound⟩, hz⟩
  · rintro ⟨p, ⟨hlit, hbound⟩, hz⟩
    exact ⟨p, State.mem_bindersOf.mpr ⟨hbound, hz⟩, hlit⟩

theorem State.underCorridor_eq_false {s : State} {r : Rect} : s.underCorridor r = false ↔
    ∀ q, (s.crane q).hook.isSome = true → ∀ c ∈ (s.crane q).corridor, c.intersects r = false := by
  rw [State.underCorridor, List.any_eq_false]
  refine ⟨fun h q hq c hc => ?_, fun h q _ => ?_⟩
  · have hc : (s.crane q).corridor = some c := hc
    have := h q (mem_allPorts q)
    rw [hq, hc] at this
    simpa using this
  · cases hhook : (s.crane q).hook.isSome with
    | false => simp
    | true =>
      cases hcor : (s.crane q).corridor with
      | none => simp
      | some c => simpa using h q hhook c hcor

theorem Rect.intersects_empty (c : Rect) : c.intersects ZoneDesc.empty.rect = false := by
  simp [Rect.intersects, ZoneDesc.rect, ZoneDesc.empty, extentMm]

theorem State.desc_of_le {s : State} {z : Nat} (h : 48 ≤ z) : s.desc z = .empty := by
  simp [State.desc, State.zone, Nat.not_lt.mpr h, Zone.empty]

theorem State.clearLaw_iff {s : State} : s.ClearLaw ↔
    ∀ p, s.LitBed p → s.underCorridor (s.desc (s.binding p).zone).rect = false := by
  constructor
  · intro h p hp
    by_cases hz : (s.binding p).zone < 48
    · exact h ⟨_, hz⟩ (State.isHot_iff.mpr ⟨p, hp, rfl⟩)
    · rw [State.desc_of_le (Nat.le_of_not_lt hz), State.underCorridor_eq_false]
      exact fun _ _ c _ => c.intersects_empty
  · intro h z hz
    obtain ⟨p, hp, hzone⟩ := State.isHot_iff.mp hz
    rw [← hzone]
    exact h p hp

theorem State.not_intersects_of_overHotBed {s : State} {c : Rect} (h : s.overHotBed c = false) {p : Port} (hp : s.LitBed p) :
    c.intersects (s.desc (s.binding p).zone).rect = false := by
  by_cases hz : (s.binding p).zone < 48
  · by_contra hc
    have := State.overHotBed_iff.mpr ⟨⟨_, hz⟩, State.isHot_iff.mpr ⟨p, hp, rfl⟩, by simpa using hc⟩
    rw [h] at this
    cases this
  · rw [State.desc_of_le (Nat.le_of_not_lt hz)]
    exact c.intersects_empty

section

variable {s t : State} (hs : s.ClearLaw)
include hs

/-- No torch is lit, no lit bed moves, and no corridor is added. -/
theorem State.ClearLaw.mono
    (hlit : ∀ p, t.LitBed p → s.LitBed p ∧ (t.desc (t.binding p).zone).rect = (s.desc (s.binding p).zone).rect)
    (hcrane : ∀ q, ((t.crane q).hook = (s.crane q).hook ∧ (t.crane q).corridor = (s.crane q).corridor)
      ∨ (t.crane q).hook = none) : t.ClearLaw := by
  refine State.clearLaw_iff.mpr fun p hp => State.underCorridor_eq_false.mpr fun q hq c hc => ?_
  obtain ⟨hold, hrect⟩ := hlit p hp
  rw [hrect]
  obtain ⟨hhook, hcor⟩ | h := hcrane q
  · rw [hhook] at hq
    rw [hcor] at hc
    exact State.underCorridor_eq_false.mp (State.clearLaw_iff.mp hs p hold) q hq c hc
  · simp [h] at hq

theorem State.ClearLaw.reads (h : SameOn [.zones, .bindings, .torches, .cranes] s t) : t.ClearLaw := by
  have hbinding (p : Port) : t.binding p = s.binding p := State.binding_congr (h .bindings (by simp)) p
  refine hs.mono (fun p hp => ?_) fun q => .inl (by simp [State.crane_congr (h .cranes (by simp)) q])
  rw [State.LitBed, State.torch_congr (h .torches (by simp)), hbinding] at hp
  exact ⟨hp, by rw [hbinding, State.desc_congr (h .zones (by simp))]⟩

/-- The zones and the bindings stay as they are where a lit bed is concerned. -/
theorem State.ClearLaw.rezoned (htorch : t.torches = s.torches) (hcrane : t.cranes = s.cranes)
    (hbind : ∀ p, (t.binding p).zone = (s.binding p).zone ∧ ((t.binding p).state = .none ↔ (s.binding p).state = .none))
    (hrect : ∀ p, s.LitBed p → (t.desc (s.binding p).zone).rect = (s.desc (s.binding p).zone).rect) : t.ClearLaw := by
  refine hs.mono (fun p hp => ?_) fun q => .inl (by simp [State.crane_congr hcrane q])
  rw [State.LitBed, State.torch_congr htorch, Ne, (hbind p).2] at hp
  exact ⟨hp, by rw [(hbind p).1]; exact hrect p hp⟩

/-- R92, R30: a corridor is laid down that meets no hot bed. -/
theorem State.ClearLaw.cover {q : Port} {k : Crane} {c : Rect} (hdesc : ∀ z, t.desc z = s.desc z)
    (hbind : t.bindings = s.bindings) (htorch : t.torches = s.torches)
    (hcrane : ∀ x, t.crane x = if q = x then k else s.crane x) (hc : k.corridor = some c) (hclear : s.overHotBed c = false) :
    t.ClearLaw := by
  refine State.clearLaw_iff.mpr fun p hp => State.underCorridor_eq_false.mpr fun x hx c' hc' => ?_
  rw [State.LitBed, State.torch_congr htorch, State.binding_congr hbind] at hp
  rw [hdesc, State.binding_congr hbind]
  rw [hcrane] at hx hc'
  split_ifs at hx hc' with hq
  · obtain rfl : c = c' := Option.some_inj.mp (hc.symm.trans hc')
    exact State.not_intersects_of_overHotBed hclear hp
  · exact State.underCorridor_eq_false.mp (State.clearLaw_iff.mp hs p hp) x hx c' hc'

theorem State.ClearLaw.zoneSet (ha : s.ArcLaw) (w : ZoneWrite) : (ownZoneSet w s).1.ClearLaw := by
  refine byCases_keeps hs fun hc => ?_
  have hhot := (firstCase_eq_none _).mp hc (decide ((s.desc w.zone).kind = .bed ∧ s.isHot w.zone = true), .hot)
    (by simp [zoneSetCases])
  simp only [decide_eq_false_iff_not, not_and] at hhot
  dsimp only
  refine hs.rezoned (by simp) (by simp) (fun p => ?_) fun p hp => ?_
  · obtain ⟨hzone, hstate⟩ := State.binding_staleBindings (((s.setZone w.zone ⟨writtenDesc w (s.desc w.zone),
      if (s.desc w.zone).kind = .none then false else (s.zone w.zone).used⟩).remakeBed w.zone (s.desc w.zone).kind
      (writtenDesc w (s.desc w.zone)).kind)) w.zone p
    exact ⟨hzone.trans (by rw [State.binding_congr (s := s) (by simp)]),
      hstate.trans (by rw [State.binding_congr (s := s) (by simp)])⟩
  · have hkind := (ha.ok p).kind hp.2
    have hne : w.zone ≠ (s.binding p).zone := fun he =>
      hhot (he ▸ hkind) (State.isHot_iff.mpr ⟨p, hp, he.symm⟩)
    rw [State.desc_congr (s := s.setZone w.zone ⟨writtenDesc w (s.desc w.zone),
      if (s.desc w.zone).kind = .none then false else (s.zone w.zone).used⟩) (by simp), State.desc_setZone,
      if_neg fun h => hne h.1]

theorem State.ClearLaw.zoneClear (z : Nat) : (ownZoneClear z s).1.ClearLaw := by
  refine byCases_keeps hs fun hc => ?_
  have hbound := (firstCase_eq_none _).mp hc (!(s.bindersOf z).isEmpty, .occupied) (by simp [zoneClearCases])
  simp only [Bool.not_eq_false', List.isEmpty_iff] at hbound
  dsimp only
  refine hs.rezoned (by simp) (by simp) (fun p => ?_) fun p hp => ?_
  · rw [State.binding_congr (s := s) (by simp)]
    exact ⟨rfl, Iff.rfl⟩
  · have hne : z ≠ (s.binding p).zone := fun he =>
      absurd (hbound ▸ State.mem_bindersOf.mpr ⟨hp.2, he.symm⟩) List.not_mem_nil
    rw [State.desc_congr (s := s.setZone z .empty) (by simp), State.desc_setZone, if_neg fun h => hne h.1]

theorem State.ClearLaw.zoneService (z : Nat) (f : Bool) : (ownZoneService z f s).1.ClearLaw := by
  refine byCases_keeps hs fun _ => ?_
  have hserved : (s.setZone z { s.zone z with desc := { s.desc z with inService := f } }).ClearLaw := by
    refine hs.rezoned (by simp) (by simp) (fun p => ⟨rfl, Iff.rfl⟩) fun p _ => ?_
    rw [State.desc_setZone]
    split_ifs with h
    · rw [← h.1]
      rfl
    · rfl
  dsimp only
  split_ifs
  · exact hserved.rezoned (by simp) (by simp) (State.binding_staleBindings _ z) fun p _ => by
      rw [State.desc_congr (s := s.setZone z { s.zone z with desc := { s.desc z with inService := f } }) (by simp)]
  · exact hserved

theorem State.ClearLaw.setUsed (z : Nat) (f : Bool) : (s.setUsed z f).ClearLaw :=
  hs.rezoned (by simp) (by simp) (fun p => ⟨rfl, Iff.rfl⟩) fun p _ => by rw [State.desc_setUsed]

/-- R43: a port whose torch is lit is bound to the bed of its job, and binds no other. -/
theorem State.ClearLaw.bedBind (ha : s.ArcLaw) (p : Port) (z : Nat) : (ownBedBind p z s).1.ClearLaw := by
  refine byCases_keeps hs fun hc => ?_
  have hbusy := (firstCase_eq_none _).mp hc (decide ((s.heldJob p).isSome ∧ (s.binding p).zone ≠ z), .busy)
    (by simp [bedBindCases])
  simp only [decide_eq_false_iff_not, not_and, not_not] at hbusy
  have hset : (s.setBinding p ⟨.bound, z, some (s.desc z)⟩).ClearLaw := by
    refine hs.mono (fun q hq => ?_) fun q => .inl ⟨rfl, rfl⟩
    rw [State.LitBed, State.binding_setBinding] at hq
    rw [State.binding_setBinding]
    split_ifs at hq ⊢ with hpq
    · subst hpq
      have hlit : (s.torch p).state.lit = true := hq.1
      obtain ⟨st, hst⟩ : ∃ st, (s.torch p).state.serves = some st := by
        cases h : (s.torch p).state <;> simp [h, TorchState.lit, TorchState.serves] at hlit ⊢
      obtain ⟨b, j, hj, -⟩ := (ha.ok p).serves hst
      have hz := hbusy (by rw [(ha.ok p).heldJob hj]; rfl)
      exact ⟨⟨hlit, ((ha.ok p).bed hj).1⟩, by rw [hz]; rfl⟩
    · exact ⟨hq, rfl⟩
  exact hset.setUsed z true

theorem State.ClearLaw.bedUnbind (p : Port) : (ownBedUnbind p s).1.ClearLaw := by
  refine byCases_keeps hs fun _ => hs.mono (fun q hq => ?_) fun q => .inl ⟨rfl, rfl⟩
  rw [State.LitBed, State.binding_setBinding] at hq
  rw [State.binding_setBinding]
  split_ifs at hq ⊢
  · exact absurd rfl hq.2
  · exact ⟨hq, rfl⟩

end

/-! ## The torches -/

theorem ArcMove.floor {s t : State} (h : ArcMove s t) : SameOn [.zones, .bindings, .cranes] s t := by
  cases h with
  | same h => exact fun x hx => h x (List.Subset.trans (l₂ := [.zones, .bindings, .cranes]) (List.Subset.refl _) (by decide) hx)
  | _ => simp [SameOn, Piece.same, State.unqueue]

/-- A torch that a move lights was lit, or waited for a bed that no corridor crosses. -/
theorem ArcMove.lit {s t : State} (h : ArcMove s t) (hs : s.QueueLaw) {q : Port} (hq : (t.torch q).state.lit = true) :
    (s.torch q).state.lit = true
      ∨ (s.torch q).state = .waiting ∧ s.underCorridor (s.torchBed (s.torch q)) = false := by
  have hdark {t' : Torch} (ht : t'.Gone) : ¬ t'.state.lit = true := by simp [ht.not_lit]
  have hleft {u : State} {p : Port} {t' : Torch} (ht : t'.Gone) (hu : ((u.leaveTorch p t').torch q).state.lit = true) :
      (u.torch q).state.lit = true := by
    rw [State.torch_leaveTorch] at hu
    split_ifs at hu <;> simp_all
  cases h with
  | same h => exact .inl (by rwa [State.torch_congr (h .torches (by simp [arcPieces]))] at hq)
  | start own p hp hclear =>
    rw [State.torch_admit] at hq
    split_ifs at hq with hpq
    · exact .inr (hpq ▸ ⟨hs.mem_iff.mp hp, hclear⟩)
    · exact .inl hq
  | burn p hp =>
    rw [State.torch_establish] at hq
    split_ifs at hq with hpq
    · exact .inl (hpq ▸ lit_of_starting hp)
    · exact .inl hq
  | out p t' _ ht => exact .inl (hleft ht hq)
  | quit p t' _ ht => exact .inl (hleft (u := s.unqueue p) ht hq)
  | clear p => exact .inl (hleft gone_idle hq)
  | @withdrawStart r b n j o => 
    have := hleft gone_idle hq
    exact .inl (by rwa [State.torch_congr (s := s) (by simp)] at this)
  | _ => exact .inl (by rwa [State.torch_congr (s := s) (by simp)] at hq)

theorem ArcMove.clearLaw {s t : State} (h : ArcMove s t) (ha : s.ArcsLaw) (hs : s.ClearLaw) : t.ClearLaw := by
  obtain ⟨hq, -, harc⟩ := ha
  have hfloor := h.floor
  refine State.clearLaw_iff.mpr fun p hp => ?_
  have hunder (r : Rect) : t.underCorridor r = s.underCorridor r := by
    simp only [State.underCorridor, State.crane_congr (hfloor .cranes (by simp))]
  have hbinding : t.binding p = s.binding p := State.binding_congr (hfloor .bindings (by simp)) p
  rw [State.LitBed, hbinding] at hp
  rw [hunder, hbinding, State.desc_congr (hfloor .zones (by simp))]
  obtain hlit | ⟨hwait, hclear⟩ := h.lit hq hp.1
  · exact State.clearLaw_iff.mp hs p ⟨hlit, hp.2⟩
  · obtain ⟨b, j, hj, -, hjob⟩ := (harc.ok p).serves (st := .taken) (by rw [hwait]; rfl)
    rw [((harc.ok p).bed hj).2]
    simpa [State.torchBed, hjob] using hclear

theorem ArcMoves.clearLaw {s t : State} (h : ArcMoves s t) (ha : s.ArcsLaw) (hs : s.ClearLaw) : t.ClearLaw :=
  (h.keeps (P := fun s => s.ArcsLaw ∧ s.ClearLaw) (fun hm h => ⟨hm.arcsLaw h.1, hm.clearLaw h.1 h.2⟩) ⟨ha, hs⟩).2

/-! ## Every step -/

theorem State.ClearLaw.unloads {s s' : State} {p : Port} (hs : s.ClearLaw) (h : s.Unloads p s') : s'.ClearLaw := by
  refine hs.mono (fun q hq => ?_) fun q => ?_
  · have hbind : s'.bindings = s.bindings := h.sameBut.2 .bindings (by simp)
    have htorch : s'.torches = s.torches := h.sameBut.2 .torches (by simp)
    rw [State.LitBed, State.torch_congr htorch, State.binding_congr hbind] at hq
    exact ⟨hq, by rw [State.binding_congr hbind, h.desc]⟩
  · rw [h.crane]
    split_ifs
    · exact .inr rfl
    · exact .inl ⟨rfl, rfl⟩

theorem State.ClearLaw.started {s : State} (hs : s.ClearLaw) {p : Port} {b : Nat} {j : Job} : (s.started p b j).ClearLaw := by
  refine hs.mono (fun q hq => ?_) fun q => .inl ⟨rfl, rfl⟩
  rw [State.LitBed, State.torch_started] at hq
  split_ifs at hq
  · exact absurd hq.1 Bool.false_ne_true
  · exact ⟨hq, rfl⟩

/-- The corridors that the requests on the register lay down meet no hot bed. -/
theorem RegisterMove.clearLaw {s t : State} (h : RegisterMove s t) (hsame : SameOn [.bindings, .torches] s t) (hs : s.ClearLaw) :
    t.ClearLaw := by
  have hbind : t.bindings = s.bindings := hsame .bindings (by simp)
  have htorch : t.torches = s.torches := hsame .torches (by simp)
  have hstill (hcrane : t.cranes = s.cranes) (hdesc : ∀ z, t.desc z = s.desc z) : t.ClearLaw :=
    hs.rezoned htorch hcrane (fun p => by simp [State.binding_congr hbind]) fun p _ => by rw [hdesc]
  cases h with
  | quiet _ _ hcrane hdesc => exact hstill hcrane hdesc
  | enter _ _ hcrane hdesc => exact hstill hcrane hdesc
  | hook _ _ _ _ _ _ hclear _ hcrane hdesc => exact hs.cover hdesc hbind htorch hcrane rfl hclear
  | declare _ _ hcrane hdesc => exact hstill hcrane hdesc
  | @lift p r z hl ht =>
    exact hs.cover (fun y => by rw [ht, State.desc_grantLift]) hbind htorch (fun x => by rw [ht, State.crane_grantLift]) rfl
      hl.clear
  | drop _ _ _ hcrane hdesc => exact hstill hcrane hdesc
  | unload hu _ hcrane hdesc =>
    have hdown := hs.unloads hu
    refine hdown.rezoned ?_ hcrane (fun p => ?_) fun p _ => by rw [hdesc]
    · exact htorch.trans (hu.sameBut.2 .torches (by simp)).symm
    · rw [State.binding_congr (hbind.trans (hu.sameBut.2 .bindings (by simp)).symm)]
      exact ⟨rfl, Iff.rfl⟩

theorem State.ClearLaw.setCrane {s : State} (hs : s.ClearLaw) {p : Port} {c : Crane} (hhook : c.hook = (s.crane p).hook)
    (hcor : c.corridor = (s.crane p).corridor) : (s.setCrane p c).ClearLaw := by
  refine hs.mono (fun q hq => ⟨hq, rfl⟩) fun q => .inl ?_
  rw [State.crane_setCrane]
  split_ifs with h
  · exact ⟨hhook.trans (by rw [h]), hcor.trans (by rw [h])⟩
  · exact ⟨rfl, rfl⟩

theorem State.ClearLaw.spanSet {s : State} (hs : s.ClearLaw) (p : Port) (lo hi : Nat) : (ownSpanSet p lo hi s).1.ClearLaw := by
  unfold ownSpanSet
  split
  · exact hs
  · exact hs.setCrane rfl rfl

theorem State.ClearLaw.retarget {s : State} (hs : s.ClearLaw) {p : Port} {z : Nat}
    (hc : firstCase (retargetCases p z s) = none) : (s.retarget p z).ClearLaw := by
  obtain ⟨-, -, hclear⟩ := retargetCases_accepted hc
  obtain ⟨-, h⟩ | ⟨-, h⟩ := s.retarget_cases p z
  · rwa [h]
  · rw [h]
    exact hs.cover (fun _ => rfl) rfl rfl (fun q => s.crane_setCrane p q _) rfl hclear

theorem State.ClearLaw.request {i : Instr} {p : Port} {tag : Byte} {s : State} (hi : requestOf i = some (p, tag))
    (ht : touches [.zones, .bindings, .torches, .cranes] i = true) (ha : s.ArcsLaw) (hs : s.ClearLaw) :
    (ownAct i s).1.ClearLaw := by
  by_cases htorch : touches [.torches, .startQueue] i = true
  · obtain ⟨hq, hl, harc⟩ := ha
    obtain h | ⟨n, b, j, -, hj, htaken, hidle, -, h⟩ | ⟨q, s', hdown, h⟩ := ownAct_arc_cases hi htorch hq
    · exact h.clearLaw ⟨hq, hl, harc⟩ hs
    · have hl' : (s.started p b j).TableLaw := hl.reads (by simp [SameOn, Piece.same, State.started])
      rw [h]
      exact ((hq.started hidle b j).walk _).clearLaw ⟨hq.started hidle b j, hl', harc.started hj htaken⟩ hs.started
    · have hq' : s'.QueueLaw := hq.reads (hdown.sameBut.sameOn (by decide))
      have hl' : s'.TableLaw := hl.reads (hdown.sameBut.sameOn (by decide))
      rw [h]
      exact (hq'.walk none).clearLaw ⟨hq', hl', harc.unloads hdown⟩ (hs.unloads hdown)
  · have harc := ha.2.2
    cases i with
    | zoneSet p t w => exact hs.zoneSet harc w
    | zoneClear p t z => exact hs.zoneClear z
    | zoneService p t z f => exact hs.zoneService z f
    | zoneUsedClear p t z => exact byCases_keeps hs fun _ => hs.setUsed z false
    | bedBind p t z => exact hs.bedBind harc p z
    | bedUnbind p t => exact hs.bedUnbind p
    | plateRegister p t h z ox oy =>
      exact (registerMove_plateRegister s h z ox oy).clearLaw
        ((ownAct_sameBut (.plateRegister p t h z ox oy) s).sameOn (by simp [mayChange])) hs
    | plateRegisterOnHook p t w n =>
      exact (registerMove_onHook s w n).clearLaw
        ((ownAct_sameBut (.plateRegisterOnHook p t w n) s).sameOn (by simp [mayChange])) hs
    | lift p t id z =>
      exact (registerMove_lift s p id z).clearLaw ((ownAct_sameBut (.lift p t id z) s).sameOn (by simp [mayChange])) hs
    | spanSet p t lo hi' => exact hs.spanSet p lo hi'
    | spanClear p t => exact byCases_keeps hs fun _ => hs.setCrane rfl rfl
    | retarget p t z => exact byCases_keeps hs fun hc => (hs.retarget hc).reads (by simp [SameOn, Piece.same])
    | _ => first | exact absurd ht Bool.false_ne_true | exact absurd rfl htorch

theorem State.clearLaw_of_idle {s : State} (h : s.torches = Vector.replicate 6 .idle) : s.ClearLaw :=
  State.clearLaw_iff.mpr fun p hp => absurd hp.1 (by simp [State.torch, h, Torch.idle, TorchState.lit])

theorem clearLaw_upkeep : Upkeep (fun s => (s.QueueLaw ∧ s.TableLaw) ∧ s.ArcLaw) [.zones, .bindings, .torches, .cranes]
    State.ClearLaw where
  apart := by decide
  reads h hs := hs.reads h
  aged {s} _ hs := by
    refine hs.mono (fun p hp => ⟨?_, rfl⟩) fun q => .inl ⟨rfl, rfl⟩
    obtain ⟨hlit, hbound⟩ := hp
    exact ⟨by simpa using hlit, hbound⟩
  frameError p hs := hs.reads (by simp [SameOn, Piece.same])
  request hi ht _ hq hs := hs.request hi ht ⟨hq.1.1, hq.1.2, hq.2⟩
  lapse _ hq hs := (hq.1.1.lapse _).clearLaw ⟨hq.1.1, hq.1.2, hq.2⟩ hs
  feeder b _ hq hs := (hq.1.1.feederByte b).clearLaw ⟨hq.1.1, hq.1.2, hq.2⟩ hs
  timed {i s} hi ht hq hs := by
    cases i with
    | establishTimerExpiry p => exact (hq.1.1.establishExpiry p).clearLaw ⟨hq.1.1, hq.1.2, hq.2⟩ hs
    | waitTimerExpiry p => exact (hq.1.1.waitExpiry p).clearLaw ⟨hq.1.1, hq.1.2, hq.2⟩ hs
    | _ => first | exact absurd hi Bool.false_ne_true | exact absurd ht Bool.false_ne_true
  powerUp {s} _ _ := powerUp_keeps (fun c n h => h.reads (by simp [SameOn, Piece.same]))
    (fun h => h.reads (by simp [SameOn, Piece.same])) (State.clearLaw_of_idle rfl)
  warmUp {s} _ _ := by
    have hframe := resetJobs_sameBut (blocksReset s)
    have htorch : (blocksReset s).resetJobs.torches = _ := hframe.2 .torches (by simp)
    exact warmUp_keeps (fun c n h => h.reads (by simp [SameOn, Piece.same]))
      (fun h => h.reads (by simp [SameOn, Piece.same])) (State.clearLaw_of_idle (by simp [htorch]))

/-- Settles O25: the hooks under the register, and the corridors under the queue, the tables and the arcs. -/
theorem stepKeepsHookLaw : Obligations.StepKeepsHookLaw := fun _ _ hr hs ht =>
  ⟨(hookLaw_kept.step ⟨hr, hs⟩ ht).2, fun hl hq ha hc =>
    ((((queueLaw_kept.and tableLaw_kept.under).and arcLaw_upkeep).and clearLaw_upkeep).step ⟨⟨⟨hq, hl⟩, ha⟩, hc⟩ ht).2⟩

end Sys2Proof.Machine
end

section
/-! The arithmetic of the floor: rectangles, footprints and columns (R1 to R4). -/

namespace Sys2Proof.Machine

open Sys2Proof

theorem Rect.intersects_iff {a b : Rect} : a.intersects b = true ↔
    a.x < b.x + b.w ∧ b.x < a.x + a.w ∧ a.y < b.y + b.h ∧ b.y < a.y + a.h := by
  simp [Rect.intersects, and_assoc]

theorem Rect.within_iff {a b : Rect} : a.within b = true ↔
    b.x ≤ a.x ∧ b.y ≤ a.y ∧ a.x + a.w ≤ b.x + b.w ∧ a.y + a.h ≤ b.y + b.h := by
  simp [Rect.within, and_assoc]

theorem Rect.intersects_comm (a b : Rect) : a.intersects b = b.intersects a := by
  rw [Bool.eq_iff_iff, Rect.intersects_iff, Rect.intersects_iff]
  exact ⟨fun ⟨h1, h2, h3, h4⟩ => ⟨h2, h1, h4, h3⟩, fun ⟨h1, h2, h3, h4⟩ => ⟨h2, h1, h4, h3⟩⟩

theorem Rect.not_intersects_of_touching {a b : Rect} (h : a.x + a.w ≤ b.x ∨ a.y + a.h ≤ b.y) : a.intersects b = false := by
  rw [Bool.eq_false_iff, Ne, Rect.intersects_iff]
  omega

theorem Rect.within_trans {a b c : Rect} (hab : a.within b = true) (hbc : b.within c = true) : a.within c = true := by
  rw [Rect.within_iff] at *
  omega

/-- What lies within a rectangle meets nothing that the rectangle does not meet. -/
theorem Rect.not_intersects_of_within {a b c : Rect} (hab : a.within b = true) (h : b.intersects c = false) :
    a.intersects c = false := by
  rw [Bool.eq_false_iff, Ne, Rect.intersects_iff] at *
  rw [Rect.within_iff] at hab
  omega

@[simp] theorem Rect.intersects_moved (a b : Rect) (x y : Nat) : (a.moved x y).intersects (b.moved x y) = a.intersects b := by
  rw [Bool.eq_iff_iff, Rect.intersects_iff, Rect.intersects_iff]
  simp only [Rect.moved]
  omega

@[simp] theorem Rect.within_moved (a b : Rect) (x y : Nat) : (a.moved x y).within (b.moved x y) = a.within b := by
  rw [Bool.eq_iff_iff, Rect.within_iff, Rect.within_iff]
  simp only [Rect.moved]
  omega

/-! ## The enclosing rectangle (R2) -/

theorem Rect.within_enclose_left (a b : Rect) : a.within (a.enclose b) = true := by
  rw [Rect.within_iff]
  simp only [Rect.enclose]
  omega

theorem Rect.within_enclose_right (a b : Rect) : b.within (a.enclose b) = true := by
  rw [Rect.within_iff]
  simp only [Rect.enclose]
  omega

theorem Rect.enclose_within {a b c : Rect} (ha : a.within c = true) (hb : b.within c = true) :
    (a.enclose b).within c = true := by
  rw [Rect.within_iff] at *
  simp only [Rect.enclose]
  omega

theorem Rect.enclose_assoc (a b c : Rect) : (a.enclose b).enclose c = a.enclose (b.enclose c) := by
  simp only [Rect.enclose, Rect.mk.injEq]
  omega

/-! ## Columns (R4) -/

theorem Rect.columns_eq (a : Rect) : a.columns = (a.x / 2000, (a.x + a.w - 1) / 2000) := rfl

theorem Rect.columns_share {a b : Rect} (h : a.intersects b = true) : columnsShare a.columns b.columns = true := by
  obtain ⟨hab, hba, -, -⟩ := Rect.intersects_iff.mp h
  refine Bool.and_eq_true_iff.mpr ⟨decide_eq_true ?_, decide_eq_true ?_⟩ <;> simp only [Rect.columns_eq] <;> omega

theorem Rect.columns_of_within_hall {a : Rect} (hw : 0 < a.w) (h : a.within hallRect = true) :
    a.columns.1 ≤ a.columns.2 ∧ a.columns.2 ≤ 124 := by
  have hx : a.x + a.w ≤ 250000 := by simpa [hallRect, Config.hallX] using (Rect.within_iff.mp h).2.2.1
  simp only [Rect.columns_eq]
  omega

/-! ## Footprints (R3) -/

theorem placeRect_within_footprint {len wd u0 v0 u1 v1 : Nat} (ox oy : Nat) (t : Turn) (hu : u0 < u1) (hlen : u1 ≤ len)
    (hv : v0 < v1) (hwd : v1 ≤ wd) : (placeRect wd ox oy t u0 v0 u1 v1).within (footprint len wd ox oy t) = true := by
  rw [Rect.within_iff]
  cases t <;> simp only [footprint, placeRect] <;> omega

theorem footprint_deg0 (len wd ox oy : Nat) : footprint len wd ox oy .deg0 = ⟨ox, oy, len, wd⟩ := rfl

theorem footprint_deg90 (len wd ox oy : Nat) : footprint len wd ox oy .deg90 = ⟨ox, oy, wd, len⟩ := by
  simp [footprint, placeRect]

/-- Settles O29. -/
theorem floorArithmetic : Obligations.FloorArithmetic := by
  refine ⟨fun a b c => ⟨a.intersects_comm b, fun hw hh => ?_, Rect.not_intersects_of_touching, a.within_enclose_left b,
    a.within_enclose_right b, Rect.enclose_within, a.enclose_assoc b c, Rect.columns_share, Rect.columns_of_within_hall, rfl⟩,
    fun len wd ox oy u0 v0 u1 v1 t hu hlen hv hwd => ⟨placeRect_within_footprint ox oy t hu hlen hv hwd, ?_⟩,
    fun len wd ox oy x y => ⟨rfl, ?_⟩⟩
  · rw [Rect.intersects_iff]
    omega
  · cases t <;> rfl
  · rw [footprint_deg90]
    rfl

end Sys2Proof.Machine
end

section
/-! Every step keeps the resting counts within the capacities (R6). -/

namespace Sys2Proof.Machine

open Sys2Proof

theorem State.restingCount_eq (s : State) (z : Nat) : s.restingCount z = s.records.countP fun r => r.restsIn z :=
  List.countP_eq_length_filter.symm

theorem State.restingCount_congr {s t : State} (h : t.records = s.records) (z : Nat) : t.restingCount z = s.restingCount z := by
  rw [State.restingCount_eq, State.restingCount_eq, h]

theorem Plate.restsIn_congr {a b : Plate} (h : a.location = b.location) (z : Nat) : a.restsIn z = b.restsIn z := by
  unfold Plate.restsIn
  rw [h]

theorem Plate.restsIn_of_location {r : Plate} {z ox oy : Nat} {t : Turn} (h : r.location = .resting z ox oy t) (y : Nat) :
    r.restsIn y = decide (z = y) := by
  unfold Plate.restsIn
  rw [h]

theorem Plate.zoneOf_of_restsIn {r : Plate} {z : Nat} (h : r.restsIn z = true) : r.zoneOf = z := by
  unfold Plate.restsIn at h
  unfold Plate.zoneOf
  split at h
  · exact of_decide_eq_true h
  · cases h

theorem Plate.restsIn_remnantOf (r : Plate) (id x0 y0 x1 y1 z : Nat) :
    (r.remnantOf id x0 y0 x1 y1).restsIn z = r.restsIn z := by
  unfold Plate.restsIn Plate.remnantOf
  cases r.location with
  | resting z ox oy t => cases t <;> rfl
  | onHook q => rfl

/-- R6: what changes the records without resting one anywhere raises no count. -/
theorem State.restingCount_map_le {s t : State} {f : Plate → Plate} (h : t.records = s.records.map f) {z : Nat}
    (hf : ∀ r, (f r).restsIn z = true → r.restsIn z = true) : t.restingCount z ≤ s.restingCount z := by
  rw [State.restingCount_eq, State.restingCount_eq, h, List.countP_map]
  exact List.countP_mono_left fun r _ hr => hf r hr

theorem State.restingCount_addRecord (s : State) (r : Plate) (z : Nat) :
    (s.addRecord r).restingCount z = s.restingCount z + if r.restsIn z then 1 else 0 := by
  rw [State.restingCount_eq, State.restingCount_eq, (s.addRecord_perm r).countP_eq, List.countP_cons]

theorem State.restingCount_deleteRecord_le (s : State) (id z : Nat) : (s.deleteRecord id).restingCount z ≤ s.restingCount z := by
  let u : State := { s with records := s.records.filter fun r => decide (r.id ≠ id) }
  calc (s.deleteRecord id).restingCount z
      ≤ u.restingCount z := State.restingCount_map_le rfl fun r hr => by
        rwa [Plate.restsIn_congr (Plate.location_leftBy id r)] at hr
    _ ≤ s.restingCount z := by
        rw [State.restingCount_eq, State.restingCount_eq]
        exact List.Sublist.countP_le List.filter_sublist

/-- R21: the change of the one record under an id raises a count by one at most. -/
theorem countP_changeRecord_le {p : Plate → Bool} {f : Plate → Plate} {id : Nat} {l : List Plate}
    (h : l.Pairwise fun a b => a.id < b.id) : (l.map (changeRecord id f)).countP p ≤ l.countP p + 1 := by
  induction l with
  | nil => exact Nat.zero_le _
  | cons r rest ih =>
    obtain ⟨hr, hrest⟩ := List.pairwise_cons.mp h
    rw [List.map_cons, List.countP_cons, List.countP_cons]
    by_cases hid : r.id = id
    · have hsame : rest.map (changeRecord id f) = rest :=
        (List.map_congr_left fun q hq => if_neg (hid ▸ hr q hq).ne').trans (List.map_id _)
      rw [hsame]
      split_ifs <;> omega
    · rw [changeRecord, if_neg hid]
      have := ih hrest
      omega

theorem State.RegisterLaw.restingCount_setRecord_le {s : State} (h : s.RegisterLaw) (id : Nat) (f : Plate → Plate) (z : Nat) :
    (s.setRecord id f).restingCount z ≤ s.restingCount z + 1 := by
  rw [State.restingCount_eq, State.restingCount_eq]
  exact countP_changeRecord_le h.1

theorem State.CapacityLaw.le {s t : State} (hs : s.CapacityLaw) (hcap : ∀ z, (t.desc z).capacity = (s.desc z).capacity)
    (h : ∀ z, t.restingCount z ≤ s.restingCount z) : t.CapacityLaw := fun z => by
  rw [hcap]
  exact (h z).trans (hs z)

/-- A record comes to rest in a zone that has room. -/
theorem State.CapacityLaw.rest {s t : State} (hs : s.CapacityLaw) (hcap : ∀ z, (t.desc z).capacity = (s.desc z).capacity)
    {z : Nat} (hz : s.restingCount z < (s.desc z).capacity) (hself : t.restingCount z ≤ s.restingCount z + 1)
    (h : ∀ y, y ≠ z → t.restingCount y ≤ s.restingCount y) : t.CapacityLaw := fun y => by
  rw [hcap]
  by_cases hy : y.val = z
  · rw [hy]
    omega
  · exact (h y hy).trans (hs y)

theorem RegisterMove.capacityLaw {s t : State} (h : RegisterMove s t) (hr : s.RegisterLaw) (hs : s.CapacityLaw) :
    t.CapacityLaw := by
  cases h with
  | quiet hf hrec _ hdesc =>
    exact hs.le (fun z => by rw [hdesc]) fun z => State.restingCount_map_le hrec fun r h => by
      rwa [Plate.restsIn_congr (hf.location r)] at h
  | @enter r z ox oy turn he hrec _ hdesc =>
    have hcount (y : Nat) : t.restingCount y = s.restingCount y + if z = y then 1 else 0 := by
      rw [State.restingCount_congr hrec, State.restingCount_addRecord, Plate.restsIn_of_location he.location]
      simp
    refine hs.rest (fun z => by rw [hdesc]) he.capacity (by rw [hcount]; simp) fun y hy => ?_
    rw [hcount, if_neg (Ne.symm hy)]
    rfl
  | @hook r q sp hloc _ _ _ _ _ _ hrec _ hdesc =>
    refine hs.le (fun z => by rw [hdesc]) fun z => ?_
    rw [State.restingCount_congr hrec, State.restingCount_addRecord]
    simp [Plate.restsIn, hloc]
  | @declare r id x0 y0 x1 y1 hd hrec _ hdesc =>
    have hcount (y : Nat) : t.restingCount y ≤ s.restingCount y + if r.restsIn y then 1 else 0 := by
      rw [State.restingCount_congr hrec, State.restingCount_addRecord, Plate.restsIn_remnantOf]
      exact Nat.add_le_add_right (State.restingCount_map_le rfl fun q hq => by
        rwa [Plate.restsIn_congr ((quiet_skeleton.changeRecord r.id).location q)] at hq) _
    refine hs.rest (fun z => by rw [hdesc]) hd.capacity (le_trans (hcount _) (by split_ifs <;> omega)) fun y hy => ?_
    have hnot : ¬ r.restsIn y = true := fun h => hy (Plate.zoneOf_of_restsIn h).symm
    exact (hcount y).trans (by rw [if_neg hnot]; exact le_rfl)
  | @lift p r z _ ht =>
    have hrec : t.records = s.records.map fun q =>
        (changeRecord r.id (fun q => { q with location := .onHook p, inParent := false }) q).leftBy r.id := by
      simp [ht, State.grantLift, State.clearInParent, State.setRecord]
    refine hs.le (fun y => by rw [ht, State.desc_grantLift]) fun y => State.restingCount_map_le hrec fun q hq => ?_
    rw [Plate.restsIn_congr (Plate.location_leftBy r.id _)] at hq
    unfold changeRecord at hq
    split_ifs at hq
    · exact absurd hq Bool.false_ne_true
    · exact hq
  | @drop r _ _ hrec _ hdesc =>
    refine hs.le (fun z => by rw [hdesc]) fun z => ?_
    rw [State.restingCount_congr hrec]
    exact s.restingCount_deleteRecord_le r.id z
  | @unload p s' hu hrec _ hdesc =>
    cases hu with
    | @rest r z ox oy turn a hload hplace =>
      have hdesc' (y : Nat) : (t.desc y).capacity = (s.desc y).capacity := by rw [hdesc, (State.Unloads.rest z ox oy turn a hload hplace).desc]
      have hset (y : Nat) : t.restingCount y
          = (s.setRecord r.id fun q => { q with location := .resting z ox oy turn }).restingCount y :=
        State.restingCount_congr (by simp [hrec, State.rested]) y
      have hroom : s.restingCount z < (s.desc z).capacity := by
        simp only [loadCases, hload, firstCase_append, Option.or_eq_none_iff] at hplace
        exact (placementCases_accepted hplace.1).1
      refine hs.rest hdesc' hroom (by rw [hset]; exact hr.restingCount_setRecord_le ..) fun y hy => ?_
      rw [hset]
      refine State.restingCount_map_le rfl fun q hq => ?_
      unfold changeRecord at hq
      split_ifs at hq
      · rw [Plate.restsIn_of_location rfl, decide_eq_true_eq] at hq
        exact absurd hq.symm hy
      · exact hq
    | @scrap r z hload =>
      refine hs.le (fun y => by rw [hdesc, (State.Unloads.scrap z hload).desc]) fun y => ?_
      rw [State.restingCount_congr (s := s.deleteRecord r.id) (by simp [hrec, State.scrapped])]
      exact s.restingCount_deleteRecord_le r.id y

/-! ## Every step -/

theorem State.CapacityLaw.reads {s t : State} (h : SameOn [.zones, .records] s t) (hs : s.CapacityLaw) : t.CapacityLaw :=
  hs.le (fun z => by rw [State.desc_congr (h .zones (by simp))]) fun z =>
    (State.restingCount_congr (h .records (by simp)) z).le

/-- R11, R13: an entry is rewritten with a capacity that holds what rests in the zone. -/
theorem State.CapacityLaw.rezoned {s t : State} (hs : s.CapacityLaw) {z : Nat} {e : Zone}
    (hzones : t.zones = (s.setZone z e).zones) (hrec : t.records = s.records) (h : s.restingCount z ≤ e.desc.capacity) :
    t.CapacityLaw := fun y => by
  rw [State.restingCount_congr hrec, State.desc_congr hzones, State.desc_setZone]
  split_ifs with hy
  · rwa [← hy.1]
  · exact hs y

theorem State.CapacityLaw.request {i : Instr} {p : Port} {tag : Byte} {s : State} (hi : requestOf i = some (p, tag))
    (ht : touches [.zones, .records] i = true) (hr : s.RegisterLaw) (hs : s.CapacityLaw) : (ownAct i s).1.CapacityLaw := by
  have hused (z : Nat) (f : Bool) : (s.setUsed z f).CapacityLaw :=
    hs.le (fun y => by rw [State.desc_setUsed]) fun y => le_rfl
  cases hrec : touches [.records] i with
  | true => exact (registerMove_request hi hrec).capacityLaw hr hs
  | false =>
    cases i with
    | zoneSet p t w =>
      refine byCases_keeps hs fun hc => ?_
      have hroom := (firstCase_eq_none _).mp hc (decide (w.capacity < s.restingCount w.zone), .occupied) (by simp [zoneSetCases])
      dsimp only
      refine hs.rezoned (z := w.zone) (e := ⟨writtenDesc w (s.desc w.zone), if (s.desc w.zone).kind = .none then false
        else (s.zone w.zone).used⟩) (by simp) (by simp) ?_
      exact not_lt.mp (of_decide_eq_false hroom)
    | zoneClear p t z =>
      refine byCases_keeps hs fun hc => ?_
      have hempty := (firstCase_eq_none _).mp hc (decide (s.restingCount z ≠ 0), .occupied) (by simp [zoneClearCases])
      dsimp only
      refine hs.rezoned (z := z) (e := .empty) (by simp) (by simp) ?_
      exact (not_not.mp (of_decide_eq_false hempty)).le
    | zoneService p t z f =>
      refine byCases_keeps hs fun _ => hs.le (fun y => ?_) fun y => (State.restingCount_congr ?_ y).le
      · dsimp only
        have hset : ((s.setZone z { s.zone z with desc := { s.desc z with inService := f } }).desc y).capacity
            = (s.desc y).capacity := by
          rw [State.desc_setZone]
          split_ifs with h
          · rw [← h.1]
          · rfl
        rw [← hset]
        exact congrArg ZoneDesc.capacity (State.desc_congr (by split_ifs <;> simp) y)
      · dsimp only
        split_ifs <;> simp
    | zoneUsedClear p t z => exact byCases_keeps hs fun _ => hused z false
    | bedBind p t z =>
      refine byCases_keeps hs fun _ => hs.le (fun y => ?_) fun y => le_rfl
      rw [State.desc_setUsed]
      rfl
    | _ => first | exact absurd ht Bool.false_ne_true | exact absurd hrec.symm Bool.false_ne_true

theorem capacityLaw_upkeep : Upkeep State.RegisterLaw [.zones, .records] State.CapacityLaw where
  apart := by decide
  reads h hs := hs.reads h
  aged {s} hr hs := RegisterMove.capacityLaw (t := s.aged) (.quiet quiet_aged rfl rfl fun _ => rfl) hr hs
  frameError p hs := hs.reads (by simp [SameOn, Piece.same])
  request hi ht _ hr hs := hs.request hi ht hr
  lapse _ _ hs := hs.reads (by simp [SameOn, Piece.same])
  feeder _ ht := absurd ht Bool.false_ne_true
  timed {i s} hi ht hr hs := by
    cases i with
    | holdTimerExpiry id => exact (registerMove_holdExpiry s id).capacityLaw hr hs
    | _ => first | exact absurd hi Bool.false_ne_true | exact absurd ht Bool.false_ne_true
  powerUp {s} _ _ := powerUp_keeps (fun c n h => h.reads (by simp [SameOn, Piece.same]))
    (fun h => h.reads (by simp [SameOn, Piece.same])) fun z => Nat.zero_le _
  warmUp {s} _ hs := by
    have hframe := resetJobs_sameBut (blocksReset s)
    have hzones : (blocksReset s).resetJobs.zones = (blocksReset s).zones := hframe.2 .zones (by simp)
    have hrecords : (blocksReset s).resetJobs.records = (blocksReset s).records := hframe.2 .records (by simp)
    refine warmUp_keeps (fun c n h => h.reads (by simp [SameOn, Piece.same]))
      (fun h => h.reads (by simp [SameOn, Piece.same])) ?_
    exact hs.le (fun z => by rw [State.desc_congr (s := s) (by simp [hzones])]) fun z =>
      State.restingCount_map_le (hrecords.trans (blocksReset_records s)) fun r hr => hr

end Sys2Proof.Machine
end

section
/-! Every step keeps the law of the floor (R27, R28). -/

namespace Sys2Proof.Machine

open Sys2Proof

/-! ## What the law says of one record, and of two -/

/-- R27: the record lies within its zone. -/
def State.Fits (s : State) (r : Plate) : Prop := ∀ f ∈ r.zoneFootprint, f.within (s.desc r.zoneOf).frame = true

/-- R28: the records do not overlap, unless the pair is exempt. -/
def Plate.Apart (a b : Plate) : Prop :=
  a.id ≠ b.id → exemptPair a b = false → a.zoneOf = b.zoneOf →
    ∀ f ∈ a.zoneFootprint, ∀ g ∈ b.zoneFootprint, f.intersects g = false

/-- R28: `b` is the parent that the remnant `a` lies on. -/
def Plate.ParentOf (b a : Plate) : Prop :=
  a.parent = some b.id ∧ b.form = .skeleton ∧ a.isResting = true ∧ b.isResting = true ∧ a.zoneOf = b.zoneOf
    ∧ ∀ f ∈ a.zoneFootprint, ∀ g ∈ b.zoneFootprint, f.within g = true

theorem State.floorLaw_iff {s : State} : s.FloorLaw ↔ (∀ r ∈ s.records, s.Fits r)
    ∧ (∀ a ∈ s.records, ∀ b ∈ s.records, a.Apart b)
    ∧ ∀ a ∈ s.records, a.inParent = true → a.kind = .remnant ∧ ∃ b ∈ s.records, b.ParentOf a := Iff.rfl

/-- The places of two records agree. -/
def Plate.SamePlace (a b : Plate) : Prop := a.length = b.length ∧ a.width = b.width ∧ a.location = b.location

theorem Plate.SamePlace.zoneFootprint {a b : Plate} (h : a.SamePlace b) : a.zoneFootprint = b.zoneFootprint := by
  obtain ⟨hl, hw, hloc⟩ := h
  unfold Plate.zoneFootprint
  rw [hl, hw, hloc]

theorem Plate.zoneOf_congr {a b : Plate} (h : a.location = b.location) : a.zoneOf = b.zoneOf := by
  unfold Plate.zoneOf
  rw [h]

theorem Plate.isResting_congr {a b : Plate} (h : a.location = b.location) : a.isResting = b.isResting := by
  unfold Plate.isResting
  rw [h]

theorem Plate.Apart.symm {a b : Plate} (h : a.Apart b) : b.Apart a := by
  intro hid hex hz f hf g hg
  rw [Rect.intersects_comm]
  exact h (Ne.symm hid) (by rw [exemptPair, Bool.or_comm]; exact hex) hz.symm g hg f hf

theorem Plate.zoneFootprint_of_not_resting {r : Plate} (h : r.isResting = false) : r.zoneFootprint = none := by
  unfold Plate.isResting at h
  unfold Plate.zoneFootprint
  split at h
  · cases h
  · rfl

theorem Plate.SamePlace.fits {s t : State} {a b : Plate} (h : a.SamePlace b)
    (hframe : (t.desc b.zoneOf).frame = (s.desc b.zoneOf).frame) (hb : s.Fits b) : t.Fits a := by
  intro f hf
  rw [h.zoneFootprint] at hf
  rw [Plate.zoneOf_congr h.2.2, hframe]
  exact hb f hf

theorem Plate.SamePlace.apart {a b a' b' : Plate} (ha : a'.SamePlace a) (hb : b'.SamePlace b) (hida : a'.id = a.id)
    (hidb : b'.id = b.id) (hex : exemptPair a' b' = false → exemptPair a b = false) (h : a.Apart b) : a'.Apart b' := by
  intro hid hexempt hz f hf g hg
  rw [ha.zoneFootprint] at hf
  rw [hb.zoneFootprint] at hg
  rw [Plate.zoneOf_congr ha.2.2, Plate.zoneOf_congr hb.2.2] at hz
  exact h (by rwa [hida, hidb] at hid) (hex hexempt) hz f hf g hg

theorem Plate.SamePlace.parentOf {a b a' b' : Plate} (ha : a'.SamePlace a) (hb : b'.SamePlace b) (hpar : a'.parent = a.parent)
    (hidb : b'.id = b.id) (hform : b.form = .skeleton → b'.form = .skeleton) (h : b.ParentOf a) : b'.ParentOf a' := by
  obtain ⟨hparent, hskel, hra, hrb, hz, hin⟩ := h
  refine ⟨by rw [hpar, hidb, hparent], hform hskel, by rwa [Plate.isResting_congr ha.2.2],
    by rwa [Plate.isResting_congr hb.2.2], by rwa [Plate.zoneOf_congr ha.2.2, Plate.zoneOf_congr hb.2.2], ?_⟩
  rwa [ha.zoneFootprint, hb.zoneFootprint]

/-! ## The changes of the floor -/

theorem Quiet.samePlace {f : Plate → Plate} (hf : Quiet f) (r : Plate) : (f r).SamePlace r :=
  ⟨hf.length r, hf.width r, hf.location r⟩

section

variable {s t : State} (hs : s.FloorLaw)
include hs

/-- A quiet change of the records, and zones that keep the frames of what rests there. -/
theorem State.FloorLaw.mapRecords {f : Plate → Plate} (hf : Quiet f) (hrec : t.records = s.records.map f)
    (hframe : ∀ r ∈ s.records, s.Fits r → t.Fits r) : t.FloorLaw := by
  obtain ⟨hfit, hapart, hparent⟩ := State.floorLaw_iff.mp hs
  have hlies (a b : Plate) : (f a).liesOn (f b) = a.liesOn b := by
    rw [Plate.liesOn, Plate.liesOn, hf.kind, hf.inParent, hf.parent, hf.id]
  refine State.floorLaw_iff.mpr ⟨fun r' hr' => ?_, fun a' ha' b' hb' => ?_, fun a' ha' hin => ?_⟩
  · rw [hrec] at hr'
    obtain ⟨r, hr, rfl⟩ := List.mem_map.mp hr'
    exact (hf.samePlace r).fits rfl (hframe r hr (hfit r hr))
  · rw [hrec] at ha' hb'
    obtain ⟨a, ha, rfl⟩ := List.mem_map.mp ha'
    obtain ⟨b, hb, rfl⟩ := List.mem_map.mp hb'
    exact (hf.samePlace a).apart (hf.samePlace b) (hf.id a) (hf.id b)
      (fun h => by rwa [exemptPair, hlies, hlies] at h) (hapart a ha b hb)
  · rw [hrec] at ha'
    obtain ⟨a, ha, rfl⟩ := List.mem_map.mp ha'
    rw [hf.inParent] at hin
    obtain ⟨hkind, b, hb, hbp⟩ := hparent a ha hin
    exact ⟨(hf.kind a).trans hkind, f b, hrec ▸ List.mem_map_of_mem hb,
      (hf.samePlace a).parentOf (hf.samePlace b) (hf.parent a) (hf.id b) (hf.form b) hbp⟩

/-- A record comes to the floor, or to a hook, beside the others. -/
theorem State.FloorLaw.placed {r : Plate} (hdesc : ∀ z, t.desc z = s.desc z)
    (hold : ∀ a ∈ t.records, a = r ∨ a ∈ s.records ∧ a.id ≠ r.id)
    (hkeep : ∀ a ∈ s.records, a.isResting = true → a ∈ t.records) (hfit : s.Fits r)
    (hapart : ∀ a ∈ s.records, a.id ≠ r.id → r.Apart a)
    (hparent : r.inParent = true → r.kind = .remnant ∧ ∃ b ∈ s.records, b.ParentOf r) : t.FloorLaw := by
  obtain ⟨hfits, haparts, hparents⟩ := State.floorLaw_iff.mp hs
  have hparentOf {a : Plate} (h : a.kind = .remnant ∧ ∃ b ∈ s.records, b.ParentOf a) :
      a.kind = .remnant ∧ ∃ b ∈ t.records, b.ParentOf a := by
    obtain ⟨hkind, b, hb, hbp⟩ := h
    exact ⟨hkind, b, hkeep b hb hbp.2.2.2.1, hbp⟩
  refine State.floorLaw_iff.mpr ⟨fun a ha f hf => ?_, fun a ha b hb => ?_, fun a ha hin => ?_⟩
  · rw [hdesc]
    obtain rfl | ⟨ha, -⟩ := hold a ha
    · exact hfit f hf
    · exact hfits a ha f hf
  · obtain rfl | ⟨ha, hna⟩ := hold a ha <;> obtain rfl | ⟨hb, hnb⟩ := hold b hb
    · exact fun hid => absurd rfl hid
    · exact hapart b hb hnb
    · exact (hapart a ha hna).symm
    · exact haparts a ha b hb
  · obtain rfl | ⟨ha, -⟩ := hold a ha
    · exact hparentOf (hparent hin)
    · exact hparentOf (hparents a ha hin)

/-- R28, R35: a record leaves the floor; the remnants that lay on it do so no more. -/
theorem State.FloorLaw.removed {id : Nat} (hdesc : ∀ z, t.desc z = s.desc z)
    (hold : ∀ a' ∈ t.records, (a'.isResting = false ∧ a'.inParent = false) ∨ ∃ a ∈ s.records, a.id ≠ id ∧ a' = a.leftBy id)
    (hkeep : ∀ a ∈ s.records, a.id ≠ id → a.leftBy id ∈ t.records) : t.FloorLaw := by
  obtain ⟨hfits, haparts, hparents⟩ := State.floorLaw_iff.mp hs
  have hplace (a : Plate) : (a.leftBy id).SamePlace a := by
    unfold Plate.leftBy
    split_ifs <;> exact ⟨rfl, rfl, rfl⟩
  have hnone {a : Plate} (h : a.isResting = false ∧ a.inParent = false) : a.zoneFootprint = none :=
    Plate.zoneFootprint_of_not_resting h.1
  have hlies {a b : Plate} (hb : b.id ≠ id) : (a.leftBy id).liesOn (b.leftBy id) = a.liesOn b := by
    unfold Plate.liesOn
    rw [Plate.id_leftBy]
    unfold Plate.leftBy
    split_ifs with h
    · simp [h, Ne.symm hb]
    · rfl
  refine State.floorLaw_iff.mpr ⟨fun a' ha' => ?_, fun a' ha' b' hb' => ?_, fun a' ha' hin => ?_⟩
  · obtain h | ⟨a, ha, -, rfl⟩ := hold a' ha'
    · intro f hf
      rw [hnone h] at hf
      cases hf
    · exact (hplace a).fits (by rw [hdesc]) (hfits a ha)
  · obtain h | ⟨a, ha, hna, rfl⟩ := hold a' ha'
    · intro _ _ _ f hf
      rw [hnone h] at hf
      cases hf
    · obtain h | ⟨b, hb, hnb, rfl⟩ := hold b' hb'
      · intro _ _ _ f _ g hg
        rw [hnone h] at hg
        cases hg
      · exact (hplace a).apart (hplace b) (Plate.id_leftBy id a) (Plate.id_leftBy id b)
          (fun h => by rwa [exemptPair, hlies hnb, hlies hna] at h) (haparts a ha b hb)
  · obtain h | ⟨a, ha, hna, rfl⟩ := hold a' ha'
    · simp [h.2] at hin
    · have hpar : a.parent ≠ some id := fun h => by simp [Plate.leftBy, h] at hin
      have hsame : a.leftBy id = a := if_neg hpar
      rw [hsame] at hin ⊢
      obtain ⟨hkind, b, hb, hbp⟩ := hparents a ha hin
      have hnb : b.id ≠ id := fun h => hpar (h ▸ hbp.1)
      refine ⟨hkind, b.leftBy id, hkeep b hb hnb, Plate.SamePlace.parentOf ⟨rfl, rfl, rfl⟩ (hplace b) rfl
        (Plate.id_leftBy id b) (fun h => ?_) hbp⟩
      unfold Plate.leftBy
      split_ifs <;> exact h

end

/-! ## The requests on the register -/

theorem Plate.restsIn_zoneOf {r : Plate} (h : r.isResting = true) : r.restsIn r.zoneOf = true := by
  unfold Plate.isResting at h
  unfold Plate.restsIn Plate.zoneOf
  split at h
  · simp
  · cases h

theorem Plate.isResting_of_zoneFootprint {r : Plate} {f : Rect} (h : f ∈ r.zoneFootprint) : r.isResting = true := by
  by_contra hn
  rw [Plate.zoneFootprint_of_not_resting (by simpa using hn)] at h
  cases h

theorem Plate.zoneFootprint_of_location {r : Plate} {z ox oy : Nat} {t : Turn} (h : r.location = .resting z ox oy t) :
    r.zoneFootprint = some (footprint r.length r.width ox oy t) := by
  simp [Plate.zoneFootprint, h]

theorem Plate.zoneOf_of_location {r : Plate} {z ox oy : Nat} {t : Turn} (h : r.location = .resting z ox oy t) :
    r.zoneOf = z := by
  simp [Plate.zoneOf, h]

theorem Plate.location_of_resting {r : Plate} (h : r.isResting = true) : ∃ z ox oy t, r.location = .resting z ox oy t := by
  unfold Plate.isResting at h
  split at h
  · exact ⟨_, _, _, _, ‹_›⟩
  · cases h

theorem State.fits_of_within {s : State} {r : Plate} {z ox oy : Nat} {t : Turn} (h : r.location = .resting z ox oy t)
    (hin : (footprint r.length r.width ox oy t).within (s.desc z).frame = true) : s.Fits r := by
  intro f hf
  rw [Plate.zoneFootprint_of_location h, Option.mem_some_iff] at hf
  rw [Plate.zoneOf_of_location h, ← hf]
  exact hin

/-- R27 step 4: a record that passes the overlap test at a place is apart from the others there. -/
theorem State.apart_of_overlaps {s : State} {r r' : Plate} {z ox oy : Nat} {t : Turn} (h : s.overlaps r z ox oy t = false)
    (hloc : r'.location = .resting z ox oy t) (hsize : r'.length = r.length ∧ r'.width = r.width)
    (hex : ∀ q, exemptPair r' q = exemptPair r q) {q : Plate} (hq : q ∈ s.records) : r'.Apart q := by
  intro _ hexempt hz f hf g hg
  rw [Plate.zoneOf_of_location hloc] at hz
  rw [Plate.zoneFootprint_of_location hloc, hsize.1, hsize.2, Option.mem_some_iff] at hf
  have hmem : q ∈ s.restingIn z :=
    List.mem_filter.mpr ⟨hq, hz ▸ Plate.restsIn_zoneOf (Plate.isResting_of_zoneFootprint hg)⟩
  have hnone := List.any_eq_false.mp h q hmem
  have hgq : q.zoneFootprint = some g := hg
  simp only [State.hallFootprint, hgq, ← hz, ← hex, hexempt, Option.map_some, Option.any_some, State.footprintAt,
    Rect.intersects_moved, Bool.not_false, Bool.true_and, hf] at hnone
  rw [Rect.intersects_comm]
  simpa using hnone

theorem Plate.isResting_of_restsIn {r : Plate} {z : Nat} (h : r.restsIn z = true) : r.isResting = true := by
  unfold Plate.restsIn at h
  unfold Plate.isResting
  split at h
  · rfl
  · cases h

theorem State.Enters.parentOf {s : State} {r : Plate} {z ox oy : Nat} {t : Turn} (h : s.Enters r z ox oy t)
    (hin : r.inParent = true) : r.kind = .remnant ∧ ∃ b ∈ s.records, b.ParentOf r := by
  obtain ⟨hkind, q, hq, hpar, hform, hrest, f, hf, hwithin⟩ := h.claim hin
  have hzone := Plate.zoneOf_of_restsIn hrest
  refine ⟨hkind, q, (State.mem_of_record hq).1, hpar, hform, State.isResting_of_location h.location,
    Plate.isResting_of_restsIn hrest, (Plate.zoneOf_of_location h.location).trans hzone.symm, fun f' hf' g hg => ?_⟩
  rw [Plate.zoneFootprint_of_location h.location, Option.mem_some_iff] at hf'
  have hgq : q.zoneFootprint = some g := hg
  simp only [State.hallFootprint, hgq, hzone, Option.map_some, Option.some.injEq] at hf
  simpa [State.footprintAt, ← hf, hf'] using hwithin

/-- R114: the remnant lies where it was cut. -/
theorem State.Declares.footprint {s : State} {r : Plate} {id x0 y0 x1 y1 : Nat} (h : s.Declares r id x0 y0 x1 y1) :
    ∃ f g, (r.remnantOf id x0 y0 x1 y1).zoneFootprint = some f ∧ r.zoneFootprint = some g ∧ f.within g = true := by
  obtain ⟨hx, hy, hlen, hwid⟩ := h.corners
  obtain ⟨z, ox, oy, t, hloc⟩ := Plate.location_of_resting h.resting
  refine ⟨placeRect r.width ox oy t x0 y0 x1 y1, _, ?_, Plate.zoneFootprint_of_location hloc,
    placeRect_within_footprint ox oy t hx hlen hy hwid⟩
  cases t <;> simp [Plate.remnantOf, Plate.zoneFootprint, hloc, Machine.footprint, placeRect]

theorem Plate.zoneOf_remnantOf (r : Plate) (id x0 y0 x1 y1 : Nat) : (r.remnantOf id x0 y0 x1 y1).zoneOf = r.zoneOf := by
  unfold Plate.zoneOf Plate.remnantOf
  cases r.location with
  | resting z ox oy t => cases t <;> rfl
  | onHook q => rfl

/-- R111, R114: the remnant overlaps nothing that its parent does not. -/
theorem State.Declares.apart {s : State} {r : Plate} {id x0 y0 x1 y1 : Nat} (h : s.Declares r id x0 y0 x1 y1) (hs : s.FloorLaw)
    (hr : s.RegisterLaw) {q : Plate} (hq : q ∈ s.records) (hne : q.id ≠ r.id) : (r.remnantOf id x0 y0 x1 y1).Apart q := by
  obtain ⟨-, haparts, hparents⟩ := State.floorLaw_iff.mp hs
  obtain ⟨hrm, -⟩ := State.mem_of_record h.parent
  obtain ⟨f, g, hf, hg, hin⟩ := h.footprint
  have hrq : r.liesOn q = false := by
    by_contra hl
    simp only [Plate.liesOn, Bool.not_eq_false, Bool.and_eq_true, decide_eq_true_eq] at hl
    simp [h.loose hl.1.1] at hl
  have hqr : q.liesOn r = false := by
    by_contra hl
    simp only [Plate.liesOn, Bool.not_eq_false, Bool.and_eq_true, decide_eq_true_eq] at hl
    obtain ⟨-, b, hb, hbp⟩ := hparents q hq hl.1.2
    have hid : b.id = r.id := Option.some_inj.mp (hbp.1.symm.trans hl.2)
    exact h.form (hr.eq_of_id hb hrm hid ▸ hbp.2.1)
  intro _ _ hz f' hf' k hk
  obtain rfl : f = f' := Option.some_inj.mp (hf.symm.trans hf')
  rw [Plate.zoneOf_remnantOf] at hz
  exact Rect.not_intersects_of_within hin
    (haparts r hrm q hq hne.symm (by rw [exemptPair, hrq, hqr]; rfl) hz g hg k hk)

theorem State.HookLaw.location_load {s : State} (hs : s.HookLaw) {p : Port} {r : Plate} (h : s.load p = some r) :
    r ∈ s.records ∧ s.record r.id = some r ∧ r.location = .onHook p := by
  obtain ⟨id, hhook, hrec⟩ := Option.bind_eq_some_iff.mp h
  obtain ⟨hrm, rfl⟩ := State.mem_of_record hrec
  exact ⟨hrm, hrec, (hs.located hrm p).mpr hhook⟩

theorem RegisterMove.floorLaw {s t : State} (h : RegisterMove s t) (hr : s.RegisterLaw) (hh : s.HookLaw) (hs : s.FloorLaw) :
    t.FloorLaw := by
  obtain ⟨hfits, haparts, hparents⟩ := State.floorLaw_iff.mp hs
  cases h with
  | quiet hf hrec _ hdesc => exact hs.mapRecords hf hrec fun r _ hfit f hf' => by rw [hdesc]; exact hfit f hf'
  | @enter r z ox oy turn he hrec _ hdesc =>
    have hfresh := State.record_eq_none.mp he.fresh
    refine hs.placed (r := r) hdesc (fun a ha => ?_) (fun a ha _ => ?_) (State.fits_of_within he.location he.within)
      (fun a ha _ => State.apart_of_overlaps he.apart he.location ⟨rfl, rfl⟩ (fun _ => rfl) ha) he.parentOf
    · rw [hrec] at ha
      exact (State.mem_addRecord.mp ha).imp_right fun h => ⟨h, hfresh a h⟩
    · rw [hrec]
      exact State.mem_addRecord.mpr (.inr ha)
  | @hook r q sp hloc hfresh _ hin _ _ _ hrec _ hdesc =>
    have hnot : r.zoneFootprint = none := by simp [Plate.zoneFootprint, hloc]
    refine hs.placed (r := r) hdesc (fun a ha => ?_) (fun a ha _ => ?_) (fun f hf => ?_) (fun a _ _ _ _ _ f hf => ?_)
      fun h => ?_
    · rw [hrec] at ha
      exact (State.mem_addRecord.mp ha).imp_right fun h => ⟨h, State.record_eq_none.mp hfresh a h⟩
    · rw [hrec]
      exact State.mem_addRecord.mpr (.inr ha)
    · rw [hnot] at hf
      cases hf
    · rw [hnot] at hf
      cases hf
    · simp [hin] at h
  | @declare r id x0 y0 x1 y1 hd hrec _ hdesc =>
    obtain ⟨hrm, -⟩ := State.mem_of_record hd.parent
    obtain ⟨f, g, hf, hg, hin⟩ := hd.footprint
    have hquiet := quiet_skeleton.changeRecord r.id
    have hskel : (s.setRecord r.id fun r => { r with form := .skeleton }).FloorLaw :=
      hs.mapRecords hquiet rfl fun _ _ hfit => hfit
    have hself : { r with form := .skeleton } ∈ (s.setRecord r.id fun r => { r with form := .skeleton }).records :=
      List.mem_map.mpr ⟨r, hrm, if_pos rfl⟩
    refine hskel.placed (r := r.remnantOf id x0 y0 x1 y1) hdesc (fun a ha => ?_) (fun a ha _ => ?_) (fun f' hf' => ?_)
      (fun a ha _ => ?_) fun _ => ⟨rfl, _, hself, rfl, rfl, Plate.isResting_remnantOf hd.resting .., hd.resting,
        Plate.zoneOf_remnantOf .., fun f' hf' g' hg' => ?_⟩
    · rw [hrec] at ha
      refine (State.mem_addRecord.mp ha).imp_right fun h => ⟨h, ?_⟩
      obtain ⟨q, hq, rfl⟩ := List.mem_map.mp h
      exact hquiet.id q ▸ State.record_eq_none.mp hd.fresh q hq
    · rw [hrec]
      exact State.mem_addRecord.mpr (.inr ha)
    · obtain rfl : f = f' := Option.some_inj.mp (hf.symm.trans hf')
      rw [Plate.zoneOf_remnantOf]
      exact Rect.within_trans hin (hfits r hrm g hg)
    · obtain ⟨q, hq, rfl⟩ := List.mem_map.mp ha
      by_cases hid : q.id = r.id
      · intro _ hexempt
        simp [exemptPair, Plate.liesOn, Plate.remnantOf, hquiet.id, hid] at hexempt
      · rw [changeRecord, if_neg hid]
        exact hd.apart hs hr hq hid
    · obtain rfl : f = f' := Option.some_inj.mp (hf.symm.trans hf')
      obtain rfl : g = g' := Option.some_inj.mp (hg.symm.trans hg')
      exact hin
  | @lift p r z hl ht =>
    have hrec : t.records = s.records.map fun q =>
        (changeRecord r.id (fun q => { q with location := .onHook p, inParent := false }) q).leftBy r.id := by
      simp [ht, State.grantLift, State.clearInParent, State.setRecord]
    refine hs.removed (id := r.id) (fun y => by rw [ht, State.desc_grantLift]) (fun a' ha' => ?_) fun a ha hne => ?_
    · rw [hrec] at ha'
      obtain ⟨a, ha, rfl⟩ := List.mem_map.mp ha'
      by_cases hid : a.id = r.id
      · rw [changeRecord, if_pos hid]
        refine .inl ⟨(Plate.isResting_congr (Plate.location_leftBy _ _)).trans rfl, ?_⟩
        unfold Plate.leftBy
        split_ifs <;> rfl
      · rw [changeRecord, if_neg hid]
        exact .inr ⟨a, ha, hid, rfl⟩
    · rw [hrec]
      exact List.mem_map.mpr ⟨a, ha, by rw [changeRecord, if_neg hne]⟩
  | @drop r _ _ hrec _ hdesc =>
    refine hs.removed (id := r.id) hdesc (fun a' ha' => .inr ?_) fun a ha hne => ?_
    · exact State.mem_deleteRecord.mp (hrec ▸ ha')
    · exact hrec ▸ State.mem_deleteRecord.mpr ⟨a, ha, hne, rfl⟩
  | @unload p s' hu hrec _ hdesc =>
    have hdesc' (z : Nat) : t.desc z = s.desc z := by rw [hdesc, hu.desc]
    cases hu with
    | @rest r z ox oy turn a hload hplace =>
      obtain ⟨hrm, -, hloc⟩ := hh.location_load hload
      have hrec' : t.records = s.records.map (changeRecord r.id fun q => { q with location := .resting z ox oy turn }) := by
        rw [hrec]
        simp [State.rested, State.setRecord]
      simp only [loadCases, hload, firstCase_append, Option.or_eq_none_iff] at hplace
      have hapart := (firstCase_eq_none _).mp hplace.2 _ List.mem_cons_self
      refine hs.placed (r := { r with location := .resting z ox oy turn }) hdesc' (fun a ha => ?_) (fun a ha hrest => ?_)
        (State.fits_of_within rfl (placementCases_accepted hplace.1).2)
        (fun a ha _ => State.apart_of_overlaps (r' := { r with location := .resting z ox oy turn }) hapart rfl ⟨rfl, rfl⟩
          (fun _ => rfl) ha) fun hin => ?_
      · rw [hrec'] at ha
        obtain ⟨q, hq, rfl⟩ := List.mem_map.mp ha
        by_cases hid : q.id = r.id
        · obtain rfl := hr.eq_of_id hq hrm hid
          exact .inl (if_pos rfl)
        · rw [changeRecord, if_neg hid]
          exact .inr ⟨hq, hid⟩
      · have hne : a.id ≠ r.id := fun hid => by
          obtain rfl := hr.eq_of_id ha hrm hid
          simp [Plate.isResting, hloc] at hrest
        rw [hrec']
        exact List.mem_map.mpr ⟨a, ha, if_neg hne⟩
      · obtain ⟨-, b, -, hbp⟩ := hparents r hrm hin
        have hrest := hbp.2.2.1
        simp [Plate.isResting, hloc] at hrest
    | @scrap r z hload =>
      have hrec' : t.records = (s.deleteRecord r.id).records := by
        rw [hrec]
        simp [State.scrapped]
      refine hs.removed (id := r.id) hdesc' (fun a' ha' => .inr ?_) fun a ha hne => ?_
      · exact State.mem_deleteRecord.mp (hrec' ▸ ha')
      · exact hrec' ▸ State.mem_deleteRecord.mpr ⟨a, ha, hne, rfl⟩

/-! ## Every step -/

/-- The zones change, but not under a record that rests there and would not fit. -/
theorem State.FloorLaw.rezoned {s t : State} (hs : s.FloorLaw) (hrec : t.records = s.records)
    (h : ∀ r ∈ s.records, s.Fits r → t.Fits r) : t.FloorLaw :=
  hs.mapRecords (f := id) ⟨fun _ => rfl, fun _ => rfl, fun _ => rfl, fun _ => rfl, fun _ => rfl, fun _ => rfl, fun _ => rfl,
    fun _ h => h⟩ (hrec.trans (List.map_id _).symm) h

theorem State.FloorLaw.frames {s t : State} (hs : s.FloorLaw) (hrec : t.records = s.records)
    (h : ∀ z, (t.desc z).frame = (s.desc z).frame) : t.FloorLaw :=
  hs.rezoned hrec fun r _ hfit f hf => by
    rw [h]
    exact hfit f hf

theorem State.FloorLaw.reads {s t : State} (h : SameOn [.zones, .records] s t) (hs : s.FloorLaw) : t.FloorLaw :=
  hs.frames (h .records (by simp)) fun z => by rw [State.desc_congr (h .zones (by simp))]

/-- R11, R13: an entry is rewritten, and what rests in the zone fits the new extents. -/
theorem State.FloorLaw.setZone {s t : State} (hs : s.FloorLaw) {z : Nat} {e : Zone} (hzones : t.zones = (s.setZone z e).zones)
    (hrec : t.records = s.records) (h : ∀ r ∈ s.restingIn z, ∀ f ∈ r.zoneFootprint, f.within e.desc.frame = true) : t.FloorLaw := by
  refine hs.rezoned hrec fun r hr hfit f hf => ?_
  rw [State.desc_congr hzones, State.desc_setZone]
  split_ifs with hz
  · have hrest := Plate.restsIn_zoneOf (Plate.isResting_of_zoneFootprint hf)
    exact h r (List.mem_filter.mpr ⟨hr, hz.1 ▸ hrest⟩) f hf
  · exact hfit f hf

theorem State.FloorLaw.request {i : Instr} {p : Port} {tag : Byte} {s : State} (hi : requestOf i = some (p, tag))
    (ht : touches [.zones, .records] i = true) (hr : s.RegisterLaw) (hh : s.HookLaw) (hs : s.FloorLaw) :
    (ownAct i s).1.FloorLaw := by
  cases hrec : touches [.records] i with
  | true => exact (registerMove_request hi hrec).floorLaw hr hh hs
  | false =>
    cases i with
    | zoneSet p t w =>
      refine byCases_keeps hs fun hc => ?_
      have hfit := (firstCase_eq_none _).mp hc (s.someMisfit w.zone (writtenDesc w .empty), .fit) (by simp [zoneSetCases])
      dsimp only
      refine hs.setZone (z := w.zone) (e := ⟨writtenDesc w (s.desc w.zone), if (s.desc w.zone).kind = .none then false
        else (s.zone w.zone).used⟩) (by simp) (by simp) fun r hr f hf => ?_
      have hin := List.any_eq_false.mp hfit r hr
      rw [show r.zoneFootprint = some f from hf, Option.any_some] at hin
      have hwithin : f.within (writtenDesc w .empty).frame = true := by simpa using hin
      exact hwithin
    | zoneClear p t z =>
      refine byCases_keeps hs fun hc => ?_
      have hempty := (firstCase_eq_none _).mp hc (decide (s.restingCount z ≠ 0), .occupied) (by simp [zoneClearCases])
      have hnone : s.restingIn z = [] := List.length_eq_zero_iff.mp (not_not.mp (of_decide_eq_false hempty))
      dsimp only
      exact hs.setZone (z := z) (e := .empty) (by simp) (by simp) fun r hr => absurd (hnone ▸ hr) List.not_mem_nil
    | zoneService p t z f =>
      refine byCases_keeps hs fun _ => ?_
      have hserved : (s.setZone z { s.zone z with desc := { s.desc z with inService := f } }).FloorLaw :=
        hs.frames rfl fun y => by
          rw [State.desc_setZone]
          split_ifs with h
          · rw [← h.1]
            rfl
          · rfl
      dsimp only
      split_ifs
      · exact hserved.reads (by simp [SameOn, Piece.same])
      · exact hserved
    | zoneUsedClear p t z => exact byCases_keeps hs fun _ => hs.frames rfl fun y => by rw [State.desc_setUsed]
    | bedBind p t z =>
      refine byCases_keeps hs fun _ => hs.frames rfl fun y => ?_
      rw [State.desc_setUsed]
      rfl
    | _ => first | exact absurd ht Bool.false_ne_true | exact absurd hrec.symm Bool.false_ne_true

theorem floorLaw_upkeep : Upkeep (fun s => s.RegisterLaw ∧ s.HookLaw) [.zones, .records] State.FloorLaw where
  apart := by decide
  reads h hs := hs.reads h
  aged {s} hq hs := RegisterMove.floorLaw (t := s.aged) (.quiet quiet_aged rfl rfl fun _ => rfl) hq.1 hq.2 hs
  frameError p hs := hs.reads (by simp [SameOn, Piece.same])
  request hi ht _ hq hs := hs.request hi ht hq.1 hq.2
  lapse _ _ hs := hs.reads (by simp [SameOn, Piece.same])
  feeder _ ht := absurd ht Bool.false_ne_true
  timed {i s} hi ht hq hs := by
    cases i with
    | holdTimerExpiry id => exact (registerMove_holdExpiry s id).floorLaw hq.1 hq.2 hs
    | _ => first | exact absurd hi Bool.false_ne_true | exact absurd ht Bool.false_ne_true
  powerUp {s} _ _ := powerUp_keeps (fun c n h => h.reads (by simp [SameOn, Piece.same]))
    (fun h => h.reads (by simp [SameOn, Piece.same])) ⟨nofun, nofun, nofun⟩
  warmUp {s} _ hs := by
    have hframe := resetJobs_sameBut (blocksReset s)
    have hzones : (blocksReset s).resetJobs.zones = (blocksReset s).zones := hframe.2 .zones (by simp)
    have hrecords : (blocksReset s).resetJobs.records = (blocksReset s).records := hframe.2 .records (by simp)
    refine warmUp_keeps (fun c n h => h.reads (by simp [SameOn, Piece.same]))
      (fun h => h.reads (by simp [SameOn, Piece.same])) ?_
    refine hs.mapRecords (quiet_hold none) (hrecords.trans (blocksReset_records s)) fun r _ hfit f hf => ?_
    rw [State.desc_congr (s := s) (by simp [hzones])]
    exact hfit f hf

end Sys2Proof.Machine
end

section
/-! Every step keeps the zone table valid, in force and in the image (R5, R6, R11). -/

namespace Sys2Proof.Machine

open Sys2Proof

/-- R6: the zone table of an image that is stored or being written is valid. -/
def ImageStore.zonesValid : ImageStore → Bool
  | .good image => validZones image.zones.toList
  | .bad => true
  | .writing image => validZones image.zones.toList

theorem State.zoneLaw_iff {s : State} : s.ZoneLaw ↔
    validZones (s.zones.toList.map Zone.desc) = true ∧ s.image.zonesValid = true := by
  unfold State.ZoneLaw ImageStore.zonesValid
  cases s.image <;> rfl

theorem State.ZoneLaw.stored {s : State} (hs : s.ZoneLaw) : s.image.zonesValid = true := (State.zoneLaw_iff.mp hs).2

theorem validZones_iff {l : List ZoneDesc} : validZones l = true ↔
    (∀ d ∈ l, validZone d = true) ∧ l.countP (fun d => decide (d.kind = .bed)) ≤ Config.maxBeds := by
  simp [validZones]

theorem validZones_empty : validZones (Vector.replicate 48 ZoneDesc.empty).toList = true := by decide

theorem State.ZoneLaw.congr {s t : State} (hs : s.ZoneLaw)
    (hdesc : t.zones.toList.map Zone.desc = s.zones.toList.map Zone.desc) (himage : t.image = s.image) : t.ZoneLaw := by
  rw [State.zoneLaw_iff] at *
  rwa [hdesc, himage]

theorem State.map_desc_congr {s t : State} (h : ∀ z, t.desc z = s.desc z) :
    t.zones.toList.map Zone.desc = s.zones.toList.map Zone.desc := by
  refine List.ext_getElem (by simp) fun z hz _ => ?_
  have hlt : z < 48 := by simpa using hz
  simpa [State.desc, State.zone, hlt] using h z

theorem State.ZoneLaw.descs {s t : State} (hs : s.ZoneLaw) (h : ∀ z, t.desc z = s.desc z) (himage : t.image = s.image) :
    t.ZoneLaw := hs.congr (State.map_desc_congr h) himage

theorem State.ZoneLaw.reads {s t : State} (h : SameOn [.zones, .image] s t) (hs : s.ZoneLaw) : t.ZoneLaw :=
  hs.congr (by rw [show t.zones = s.zones from h .zones (by simp)]) (h .image (by simp))

/-- R11: an entry is rewritten; a BED comes in the place of a BED, or where there is room for one. -/
theorem validZones_set {l : List ZoneDesc} (h : validZones l = true) {d : ZoneDesc} (z : Nat) (hd : validZone d = true)
    (hbed : d.kind = .bed → (∀ hz : z < l.length, l[z].kind = .bed)
      ∨ l.countP (fun d => decide (d.kind = .bed)) < Config.maxBeds) : validZones (l.set z d) = true := by
  obtain ⟨hall, hcount⟩ := validZones_iff.mp h
  refine validZones_iff.mpr ⟨fun x hx => ?_, ?_⟩
  · obtain hx | rfl := List.mem_or_eq_of_mem_set hx
    · exact hall x hx
    · exact hd
  · by_cases hz : z < l.length
    · rw [List.countP_set hz]
      have hpos : (if decide (l[z].kind = .bed) = true then 1 else 0) ≤ l.countP fun d => decide (d.kind = .bed) := by
        split_ifs with hk
        · exact List.countP_pos_iff.mpr ⟨_, List.getElem_mem hz, hk⟩
        · exact Nat.zero_le _
      by_cases hk : d.kind = .bed
      · obtain hold | hroom := hbed hk
        · simp only [hold hz, decide_true, if_true, hk] at hpos ⊢
          omega
        · simp only [hk, decide_true, if_true]
          omega
      · simp only [hk, decide_false, Bool.false_eq_true, if_false]
        omega
    · rwa [List.set_eq_of_length_le (Nat.le_of_not_lt hz)]

theorem State.map_desc_setZone (s : State) (z : Nat) (e : Zone) :
    (s.setZone z e).zones.toList.map Zone.desc = (s.zones.toList.map Zone.desc).set z e.desc := by
  simp [State.setZone, List.map_set]

theorem State.ZoneLaw.setZone {s : State} (hs : s.ZoneLaw) {z : Nat} {e : Zone} (he : validZone e.desc = true)
    (hbed : e.desc.kind = .bed → (s.desc z).kind = .bed
      ∨ (s.zones.toList.map Zone.desc).countP (fun d => decide (d.kind = .bed)) < Config.maxBeds) : (s.setZone z e).ZoneLaw := by
  refine State.zoneLaw_iff.mpr ⟨?_, hs.stored⟩
  rw [State.map_desc_setZone]
  refine validZones_set (State.zoneLaw_iff.mp hs).1 z he fun hk => (hbed hk).imp_left fun h hz => ?_
  have hlt : z < 48 := by simpa using hz
  simpa [State.desc, State.zone, hlt] using h

theorem State.ZoneLaw.valid {s : State} (hs : s.ZoneLaw) (z : Nat) : validZone (s.desc z) = true := by
  by_cases hz : z < 48
  · refine (validZones_iff.mp (State.zoneLaw_iff.mp hs).1).1 _ (List.mem_map.mpr ⟨s.zones[z], ?_, ?_⟩)
    · exact Vector.mem_toList_iff.mpr (Vector.getElem_mem hz)
    · simp [State.desc, State.zone, hz]
  · rw [State.desc_of_le (Nat.le_of_not_lt hz)]
    rfl

/-- An entry changes in nothing the law speaks of. -/
theorem State.ZoneLaw.setUsed {s : State} (hs : s.ZoneLaw) (z : Nat) (f : Bool) : (s.setUsed z f).ZoneLaw :=
  hs.setZone (e := { s.zone z with used := f }) (hs.valid z) .inl

/-- R11 cases 3 to 5. -/
theorem validZone_writtenDesc {w : ZoneWrite} (hplace : badPlace w = false) (hrights : badRights w = false) (old : ZoneDesc) :
    validZone (writtenDesc w old) = true := by
  have hrect : (writtenDesc w old).rect = (writtenDesc w .empty).rect := rfl
  simp only [badPlace, badRights, Bool.or_eq_false_iff, Bool.not_eq_false', decide_eq_false_iff_not, not_lt] at hplace hrights
  obtain ⟨-, hin⟩ := hplace
  obtain ⟨⟨hcap, hkeepout⟩, hbind⟩ := hrights
  unfold validZone
  rw [hrect, hin]
  cases hk : w.kind with
  | none => simp [writtenDesc, hk]
  | some k => cases k <;> simp_all [writtenDesc]

theorem RegisterMove.desc {s t : State} (h : RegisterMove s t) (z : Nat) : t.desc z = s.desc z := by
  cases h with
  | quiet _ _ _ hdesc => exact hdesc z
  | enter _ _ _ hdesc => exact hdesc z
  | hook _ _ _ _ _ _ _ _ _ hdesc => exact hdesc z
  | declare _ _ _ hdesc => exact hdesc z
  | lift _ ht => rw [ht, State.desc_grantLift]
  | drop _ _ _ _ hdesc => exact hdesc z
  | unload hu _ _ hdesc => rw [hdesc, hu.desc]

theorem State.ZoneLaw.request {i : Instr} {p : Port} {tag : Byte} {s : State} (hi : requestOf i = some (p, tag))
    (ht : touches [.zones, .image] i = true) (hs : s.ZoneLaw) : (ownAct i s).1.ZoneLaw := by
  have hmoves (hrec : touches [.records] i = true) (himage : .image ∉ mayChange i) : (ownAct i s).1.ZoneLaw :=
    hs.descs (registerMove_request hi hrec).desc ((ownAct_sameBut i s).2 .image himage)
  cases i with
  | zoneSet p t w =>
    refine byCases_keeps hs fun hc => ?_
    have hcase := (firstCase_eq_none _).mp hc
    have hplace := hcase (badPlace w, .range) (by simp [zoneSetCases])
    have hrights := hcase (badRights w, .range) (by simp [zoneSetCases])
    have hroom := hcase (decide ((s.desc w.zone).kind ≠ .bed ∧ w.kind = some .bed ∧ Config.maxBeds ≤ s.bedCount), .full)
      (by simp [zoneSetCases])
    have hset (used : Bool) : (s.setZone w.zone ⟨writtenDesc w (s.desc w.zone), used⟩).ZoneLaw := by
      refine hs.setZone (validZone_writtenDesc hplace hrights _) fun hk => ?_
      by_cases hold : (s.desc w.zone).kind = .bed
      · exact .inl hold
      · have hw : w.kind = some .bed := by
          cases hwk : w.kind with
          | none => simp [writtenDesc, hwk] at hk
          | some k => simpa [writtenDesc, hwk] using hk
        simp only [decide_eq_false_iff_not, not_and, not_le] at hroom
        refine .inr ?_
        rw [List.countP_map, List.countP_eq_length_filter]
        exact hroom hold hw
    dsimp only
    exact (hset (if (s.desc w.zone).kind = .none then false else (s.zone w.zone).used)).reads (by simp [SameOn, Piece.same])
  | zoneClear p t z =>
    refine byCases_keeps hs fun _ => ?_
    exact (hs.setZone (z := z) (e := .empty) rfl nofun).reads (by simp [SameOn, Piece.same])
  | zoneService p t z f =>
    refine byCases_keeps hs fun _ => ?_
    have hserved : (s.setZone z { s.zone z with desc := { s.desc z with inService := f } }).ZoneLaw :=
      hs.setZone (hs.valid z) .inl
    dsimp only
    split_ifs
    · exact hserved.reads (by simp [SameOn, Piece.same])
    · exact hserved
  | zoneUsedClear p t z => exact byCases_keeps hs fun _ => hs.setUsed z false
  | bedBind p t z =>
    refine byCases_keeps hs fun _ => ?_
    have hset : (s.setBinding p ⟨.bound, z, some (s.desc z)⟩).ZoneLaw := hs.reads (by simp [SameOn, Piece.same])
    exact hset.setUsed z true
  | plateRegister p t w z ox oy => exact hmoves rfl (by simp [mayChange])
  | lift p t id z => exact hmoves rfl (by simp [mayChange])
  | setDown p t ox oy turn => exact hmoves rfl (by simp [mayChange])
  | liftAbort p t => exact hmoves rfl (by simp [mayChange])
  | configStore p t =>
    refine byCases_keeps hs fun _ => State.zoneLaw_iff.mpr ⟨(State.zoneLaw_iff.mp hs).1, ?_⟩
    simpa [ImageStore.zonesValid, State.configCopy, onEach_eq_map, Vector.toList_map] using (State.zoneLaw_iff.mp hs).1
  | _ => first | exact absurd ht Bool.false_ne_true | cases hi

theorem State.ZoneLaw.storeCompletion {s : State} (hs : s.ZoneLaw) (e : Bool) : (storeCompletion e s).ZoneLaw := by
  have hzones := (State.zoneLaw_iff.mp hs).1
  unfold Machine.storeCompletion
  split
  · rename_i copy hcopy
    have hvalid : validZones copy.zones.toList = true := by simpa [hcopy, ImageStore.zonesValid] using hs.stored
    split_ifs
    · exact State.ZoneLaw.reads (s := { s with image := .good copy }) (by simp [SameOn, Piece.same])
        (State.zoneLaw_iff.mpr ⟨hzones, hvalid⟩)
    · exact State.ZoneLaw.reads (s := { s with image := .bad }) (by simp [SameOn, Piece.same])
        (State.zoneLaw_iff.mpr ⟨hzones, rfl⟩)
  · exact hs
  · exact hs

theorem ImageStore.zonesValid_afterReset {i : ImageStore} (h : i.zonesValid = true) : i.afterReset.zonesValid = true := by
  cases i with
  | good image => exact h
  | bad => rfl
  | writing copy => rfl

theorem ImageStore.zonesValid_loadedConfig {i : ImageStore} (h : i.zonesValid = true) :
    validZones (loadedConfig i).zones.toList = true := by
  cases i with
  | good image => exact h
  | bad => exact validZones_empty
  | writing copy => exact validZones_empty

theorem zoneLaw_kept : Kept [.zones, .image] State.ZoneLaw where
  apart := by decide
  reads h hs := hs.reads h
  aged _ hs := hs.congr rfl rfl
  frameError p hs := hs.reads (by simp [SameOn, Piece.same])
  request hi ht _ _ hs := hs.request hi ht
  lapse _ _ hs := hs.reads (by simp [SameOn, Piece.same])
  feeder _ ht := absurd ht Bool.false_ne_true
  timed {i s} hi ht _ hs := by
    cases i with
    | storeCompletion e => exact hs.storeCompletion e
    | _ => first | exact absurd hi Bool.false_ne_true | exact absurd ht Bool.false_ne_true
  powerUp {s} _ hs := by
    refine powerUp_keeps (fun c n h => h.reads (by simp [SameOn, Piece.same]))
      (fun h => h.reads (by simp [SameOn, Piece.same])) (State.zoneLaw_iff.mpr ⟨?_, ImageStore.zonesValid_afterReset hs.stored⟩)
    have hload := ImageStore.zonesValid_loadedConfig hs.stored
    simpa [poweredUp, onEach_eq_map, Vector.toList_map, Function.comp_def] using hload
  warmUp {s} _ hs := by
    have hframe := resetJobs_sameBut (blocksReset s)
    have hzones : (blocksReset s).resetJobs.zones = (blocksReset s).zones := hframe.2 .zones (by simp)
    have himage : (blocksReset s).resetJobs.image = (blocksReset s).image := hframe.2 .image (by simp)
    refine warmUp_keeps (fun c n h => h.reads (by simp [SameOn, Piece.same]))
      (fun h => h.reads (by simp [SameOn, Piece.same])) (State.zoneLaw_iff.mpr ⟨?_, ?_⟩)
    · rw [hzones, blocksReset_zones]
      exact (State.zoneLaw_iff.mp hs).1
    · rw [himage, blocksReset_image]
      exact ImageStore.zonesValid_afterReset hs.stored

/-- Settles O24. -/
theorem stepKeepsRegisterAndCapacityLaws : Obligations.StepKeepsRegisterAndCapacityLaws := fun _ _ ht =>
  ⟨fun hr => ⟨registerLaw_kept.step hr ht, fun hc => ((registerLaw_kept.and capacityLaw_upkeep).step ⟨hr, hc⟩ ht).2,
    fun hh hf => ((hookLaw_kept.and floorLaw_upkeep).step ⟨⟨hr, hh⟩, hf⟩ ht).2⟩, fun hz => zoneLaw_kept.step hz ht⟩

end Sys2Proof.Machine
end

section
/-! The machine: a command, an idle step, a held part, and the admission of a request (R145, R156, R161, R176). -/

namespace Sys2Proof.Machine

open Sys2Proof

/-- Settles O1. -/
theorem stepExecutesFrontCommand : Obligations.StepExecutesFrontCommand := fun _ _ _ => rfl

/-- Settles O18: each law is evaluated on the reset state. -/
theorem lawsHoldAtReset : Obligations.LawsHoldAtReset := by
  have harc : State.reset.ArcLaw := State.arcLaw_of_idle (fun _ _ _ hj => by
    simpa [State.reset, State.table, JobTable.fresh] using hj.1) rfl rfl
  exact ⟨by decide, by decide, by decide, by decide, by decide, by decide, ⟨List.Pairwise.nil, Nat.zero_le _⟩,
    fun _ => Nat.zero_le _, State.hookLaw_of_powerOn nofun rfl, State.runwayLaw_of_powerOn rfl, by decide, by decide, by decide,
    harc, State.clearLaw_of_idle rfl, ⟨nofun, nofun, nofun⟩, by decide⟩

/-! ## Requests -/

/-- Settles O10. -/
theorem requestIsTakenWaitsOrIsLost : Obligations.RequestIsTakenWaitsOrIsLost := by
  intro i p tag s hi hheld
  rw [exec_of_request hi, if_neg (by simp [hheld])]
  simp only [State.ready, Bool.and_eq_true, Option.isNone_iff_eq_none, List.isEmpty_iff]
  rfl

/-- A request that fails an admission test is answered with it, and nothing else happens. -/
theorem exec_of_refused {i : Instr} {p : Port} {tag : Byte} {s : State} {st : Status} (hi : requestOf i = some (p, tag))
    (hl : s.listens p) (ha : s.admission p (allowedRoles i) (heardOffline i) = some st) :
    exec i s = .next (s.answered p tag st .nothing) := by
  rw [exec_of_listens hi hl]
  obtain ⟨st', ha', h⟩ | ⟨ha', -⟩ | ⟨rfl, ha', -⟩ := serve_cases hi s
  · obtain rfl := Option.some_inj.mp (ha.symm.trans ha')
    rw [h]
    rfl
  · exact absurd (ha.symm.trans ha') nofun
  · exact absurd (ha.symm.trans ha') nofun

/-- Settles O12. -/
theorem admissionTestsComeFirst : Obligations.AdmissionTestsComeFirst := by
  intro i p tag s hi hl
  refine ⟨fun hrole => exec_of_refused hi hl ?_, fun hrole hstate hoffline => exec_of_refused hi hl ?_⟩
  · simp [State.admission, hrole]
  · simp [State.admission, hrole, hstate, hoffline]

/-! ## A held part (R156, R176) -/

theorem Causes.any_iff {c : Causes} : c.any = true ↔ c ≠ ⟨false, false, false, false⟩ := by
  obtain ⟨a, b, c, d⟩ := c
  cases a <;> cases b <;> cases c <;> cases d <;> decide

theorem State.held_iff {s : State} : s.held = true ↔ s.restart = .due ∨ s.hold.active ≠ ⟨false, false, false, false⟩ := by
  rw [State.held, Bool.or_eq_true, Causes.any_iff, decide_eq_true_eq, or_comm]

/-- A held part takes no request and has no event but the four of the resets. -/
theorem exec_of_held {i : Instr} {s : State} (hi : isReset i = false) (hs : s.held = true) : exec i s = .next s := by
  cases hr : requestOf i with
  | some pt => rw [exec_of_request hr, if_pos hs]
  | none => rw [exec_of_event hr hi, if_pos hs]

/-- Settles O3. -/
theorem heldPartDoesNothing : Obligations.HeldPartDoesNothing := by
  refine fun s => ⟨fun p => ?_, ?_, State.held_iff, fun i hheld hhold hbegin hup hrelease => exec_of_held ?_ hheld⟩
  · simp only [State.permitLine, Bool.and_eq_true, Bool.not_eq_true', decide_eq_true_eq, Option.isNone_iff_eq_none, and_assoc]
    cases s.role p <;> simp [Option.isSome_iff_ne_none, TorchState.lit_iff]
  · simp [State.alertLine]
  · cases i <;> simp_all [isReset]

/-! ## An idle step (log 3) -/

theorem expiresNow_eq (t : Option Nat) : expiresNow t = decide (t = some 0 ∨ t = some 1) := by
  cases t with
  | none => rfl
  | some n =>
    simp only [expiresNow, Option.any_some, Option.some.injEq]
    rw [decide_eq_decide]
    omega

theorem State.aged_eq (s : State) : s.aged = { s with
    ports := s.ports.map PortRecord.aged
    torches := s.torches.map Torch.aged
    tables := s.tables.map JobTable.aged
    records := s.records.map Plate.aged
    feeder := { s.feeder with staleTimer := countDown s.feeder.staleTimer } } := by
  simp only [State.aged, onEach_eq_map]

theorem State.dueNow_eq (s : State) : s.dueNow =
    (allPorts.filter fun p => (s.link p).slot = none ∧ (s.link p).buffer ≠ []).map .frameTake := by
  refine congrArg (List.map _) (List.filter_congr fun p _ => ?_)
  rw [Bool.eq_iff_iff]
  simp [State.takable]

/-- The overdue timers that expire, bed by bed. -/
theorem State.dueOverdue_eq (s : State) (f : Nat → Nat → Instr) :
    (s.allJobs.filter fun bj => expiresNow bj.2.timer).map (fun bj => f bj.1 bj.2.number) =
      (List.range 48).flatMap fun b =>
        ((s.table b).jobs.filter fun j => expiresNow j.timer).map fun j => f b j.number := by
  simp only [State.allJobs, List.filter_flatMap, List.map_flatMap, List.filter_map, List.map_map, Function.comp_def]

theorem State.dueHolds_eq (s : State) :
    (s.records.filter fun r => expiresNow r.holdTimer) = s.records.filter fun r => r.hold.any fun h => h.left ≤ 1 := by
  refine List.filter_congr fun r _ => ?_
  simp [expiresNow, Plate.holdTimer, Option.any_map]

/-- Settles O2. -/
theorem idleStepIsOneMillisecond : Obligations.IdleStepIsOneMillisecond := by
  intro s hempty down ends
  have hstep : step s = .next (tick s) := by simp [step, hempty]
  have hends (t : Option Nat) : expiresNow t = ends t := expiresNow_eq t
  refine ⟨fun hheld => ?_, fun hheld => ?_⟩
  · rw [hstep, tick, if_pos hheld]
    rfl
  · have hoverdue := s.dueOverdue_eq .overdueTimerExpiry
    have hexpiries := s.dueHolds_eq
    rw [hstep, tick, if_neg (by simp [hheld]), State.aged_eq, State.dueNow_eq, State.dueExpiries]
    rw [hoverdue, hexpiries]
    simp only [hends, List.append_assoc]
    rfl

end Sys2Proof.Machine
end

section
/-! The transmitters (R163), the holds of the resets (R176), and the values after a power-on (R178). -/

namespace Sys2Proof.Machine

open Sys2Proof

/-! ## The transmitters -/

/-- R163: what a transmitter sends next. -/
theorem Link.choose_eq (l : Link) : l.choose = { l with sending :=
    if l.sending ≠ .idle then l.sending
    else if l.slot = none ∧ l.notices = [] then .idle
    else if l.notices = [] then .reply
    else if l.slot = none then .notice
    else if l.lastSent = .notice then .reply else .notice } := by
  obtain ⟨receiver, buffer, slot, notices, lost, sending, last⟩ := l
  cases sending with
  | idle => cases slot <;> cases notices <;> cases last <;> rfl
  | reply => rfl
  | notice => rfl

theorem exec_frameSent {s : State} (h : s.held = false) (p : Port) : exec (.frameSent p) s = .next (frameSent p s).settle := by
  rw [exec_of_event rfl rfl, if_neg (by simp [h])]
  rfl

/-- Settles O13. -/
theorem transmitterAlternates : Obligations.TransmitterAlternates := by
  intro s p l
  refine ⟨?_, fun hheld => ⟨fun h => ?_, fun h => ?_, fun h => ?_⟩⟩
  · rw [State.link_settle, Link.choose_eq]
  · have hsent : frameSent p s = (s.setLink p { l with slot := none, sending := .idle, lastSent := .reply }).replySent p := by
      simp [frameSent, show (s.link p).sending = .reply from h, l]
    rw [exec_frameSent hheld, hsent, State.replySent]
    split_ifs with hr hr' hr'
    · rfl
    · exact absurd hr hr'
    · exact absurd hr' hr
    · rfl
  · rw [exec_frameSent hheld]
    simp [frameSent, show (s.link p).sending = .notice from h, l]
  · rw [exec_frameSent hheld]
    simp [frameSent, show (s.link p).sending = .idle from h]

/-! ## Holds (R176) -/

theorem exec_powerStartUp (s : State) : exec .powerStartUp s = .next (if s.hold.active.power then
    s.endHolds ((s.hold.active.put .power false).put .supply false) else s) := rfl

theorem exec_resetRelease (k : ResetKind) (s : State) : exec (.resetRelease k) s = .next (if s.hold.active.has k then
    s.endHolds (s.hold.active.put k false) else s) := rfl

theorem exec_restartResetBegin (s : State) : exec .restartResetBegin s = .next (if s.restart = .due then
    s.restartTaken.endHolds s.hold.active else s) := rfl

/-- R178: a power-on reads nothing of the holds. -/
theorem powerUp_hold (s : State) (h : Hold) : powerUp { s with hold := h } = powerUp s := rfl

/-- R179: of the holds, a release reads the kinds that occurred. -/
theorem warmUp_hold (s : State) (a : Causes) : warmUp { s with hold := ⟨a, s.hold.occurred⟩ } = warmUp s := by
  have hblocks : blocksReset { s with hold := ⟨a, s.hold.occurred⟩ } = blocksReset s := by
    unfold blocksReset State.applyPending
    split_ifs with h1 h2 h2
    · rfl
    · exact absurd h1 h2
    · exact absurd h2 h1
    · rfl
  rw [warmUp_eq, warmUp_eq, hblocks]

theorem State.active_restartTaken (s : State) : s.restartTaken.hold.active = s.hold.active := by
  unfold State.restartTaken
  split_ifs <;> rfl

/-- Settles O17. -/
theorem holdsBeginAndEnd : Obligations.HoldsBeginAndEnd := by
  intro s taken
  have htaken : s.restartTaken = taken := rfl
  have hactive : taken.hold.active = s.hold.active := s.active_restartTaken
  refine ⟨fun k hk => ?_, ?_, fun h => ?_, fun h hany => ?_, fun k hk hany => ?_, fun k hk hnone hpower => ?_, fun k hk => ?_,
    fun h => ?_, fun hpower h => ?_, fun h => ?_⟩
  · have hhold : exec (.resetHold k) s = .next (holdKind k s.restartTaken) := by
      cases k with
      | restart => exact absurd rfl hk
      | _ => rfl
    rw [hhold, htaken, holdKind, hactive]
  · have hhold : exec (.resetHold .restart) s = .next (if s.restart = .due then holdKind .restart s.restartTaken else s) := rfl
    rw [hhold]
    split_ifs with hdue
    · have hoccurred : taken.hold.occurred = { s.hold.occurred with restart := true } := by simp [taken, hdue]
      rw [htaken, holdKind, hactive, hoccurred]
      rfl
    · rfl
  · rw [exec_restartResetBegin, if_neg h]
  · rw [exec_restartResetBegin, if_pos h, State.endHolds, if_pos hany, htaken, ← hactive]
  · rw [exec_resetRelease, if_pos hk, State.endHolds, if_pos hany]
  · rw [exec_resetRelease, if_pos hk, State.endHolds, if_neg (by simp [hnone]), if_pos hpower, exec_powerStartUp]
    exact congrArg Host.Outcome.next (if_pos hpower).symm
  · rw [exec_resetRelease, if_neg (by simp [hk])]
  · rw [exec_powerStartUp, if_neg (by simp [h])]
  · have hany : ((s.hold.active.put .power false).put .supply false).any = true := by
      obtain h | h := h <;> simp [Causes.put, Causes.any, h]
    rw [exec_powerStartUp, if_pos hpower, State.endHolds, if_pos hany]
    rfl
  · have hnone : ((s.hold.active.put .power false).put .supply false).any = false := by rw [h]; rfl
    rw [exec_powerStartUp, if_pos (by rw [h]), State.endHolds, if_neg (by simp [hnone])]
    refine congrArg Host.Outcome.next ?_
    show _ = if s.hold.occurred.power then powerUp s
      else warmUp { s with hold := ⟨⟨true, false, false, false⟩, s.hold.occurred⟩ }
    rw [warmUp_hold s ⟨true, false, false, false⟩]

/-! ## Power-on (R178) -/

/-- Settles O15. -/
theorem powerOnValues : Obligations.PowerOnValues := by
  intro s hactive hoccurred
  have hexec : exec .powerStartUp s = .next (powerUp s) := by
    rw [exec_powerStartUp, hactive]
    exact congrArg Host.Outcome.next (if_pos hoccurred)
  rw [hexec]
  refine ⟨fun h => ?_, fun image h => ?_⟩
  · have hafter : s.image.afterReset = .bad := by
      obtain h | ⟨copy, h⟩ := h <;> rw [h] <;> rfl
    have hload : loadedConfig s.image = ⟨.default, Vector.replicate 48 .empty⟩ := by
      obtain h | ⟨copy, h⟩ := h <;> rw [h] <;> rfl
    have hup : poweredUp s = { State.reset with
        links := Vector.replicate 6 .afterReset, alerts := [],
        pending := s.pending } := by
      unfold poweredUp
      rw [hload, hafter]
      simp only [onEach_eq_map, Vector.map_replicate]
      rfl
    rw [powerUp_eq, if_pos hafter, hup]
    rfl
  · have hup : poweredUp s = { State.reset with
        zones := image.zones.map (fun d => ⟨d, false⟩), params := image.params, image := .good image, alerts := [],
        links := Vector.replicate 6 .afterReset, pending := s.pending } := by
      simp only [poweredUp, h, loadedConfig, ImageStore.afterReset, onEach_eq_map]
      rfl
    rw [powerUp_eq, h, if_neg (by simp [ImageStore.afterReset]), hup]
    rfl

end Sys2Proof.Machine
end

section
/-! The codec: a frame decodes to the request it carries, and to no other (R162, R169). -/

namespace Sys2Proof

/-! ## Fields -/

theorem toNat_byteOf (n : Nat) : (byteOf n).toNat = n % 256 := BitVec.toNat_ofNat n 8

theorem toNat_byteOf_of_fits {n : Nat} (h : fits8 n = true) : (byteOf n).toNat = n := by
  rw [toNat_byteOf]
  exact Nat.mod_eq_of_lt (of_decide_eq_true h)

theorem nat16_bytes {n : Nat} (h : fits16 n = true) : nat16 (byteOf (n / 256)) (byteOf n) = n := by
  have hn : n < 65536 := of_decide_eq_true h
  simp only [nat16, toNat_byteOf]
  omega

theorem nat32_bytes {n : Nat} (h : fits32 n = true) :
    nat32 (byteOf (n / 16777216)) (byteOf (n / 65536)) (byteOf (n / 256)) (byteOf n) = n := by
  have hn : n < 4294967296 := of_decide_eq_true h
  simp only [nat32, toNat_byteOf]
  omega

theorem hasBit_flag (f : Bool) : hasBit (byteOf (flagBit 1 f)) 1 = f := by
  cases f <;> decide

theorem codeOr_some {α : Type} (bad : Nat) (f : α → Nat) (a : α) : codeOr bad f (some a) = f a := rfl

theorem Role.ofCode_code (r : Option Role) : Role.ofCode (byteOf (codeOr 255 Role.code r)).toNat = r := by
  rcases r with _ | r
  · decide
  · cases r <;> decide

theorem ZoneKind.ofCode_code (k : Option ZoneKind) : ZoneKind.ofCode (byteOf (codeOr 255 ZoneKind.code k)).toNat = k := by
  rcases k with _ | k
  · decide
  · cases k <;> decide

theorem Turn.ofCode_code (t : Option Turn) : Turn.ofCode (byteOf (codeOr 255 Turn.code t)).toNat = t := by
  rcases t with _ | t
  · decide
  · cases t <;> decide

theorem ArcOutcome.ofCode_code (o : Option ArcOutcome) :
    ArcOutcome.ofCode (byteOf (codeOr 255 ArcOutcome.code o)).toNat = o := by
  rcases o with _ | o
  · decide
  · cases o <;> decide

theorem AlertCode.ofCode_code (c : Option AlertCode) : AlertCode.ofCode (byteOf (codeOr 0 AlertCode.code c)).toNat = c := by
  rcases c with _ | c
  · decide
  · cases c <;> decide

/-- The flag byte of a part entry. -/
theorem part_flags (m : Bool) (st : Option PartStatus) :
    hasBit (byteOf (flagBit 128 m + codeOr 3 PartStatus.code st)) 128 = m
    ∧ PartStatus.ofCode ((byteOf (flagBit 128 m + codeOr 3 PartStatus.code st)).toNat % 4) = st := by
  rcases st with _ | st
  · cases m <;> decide
  · cases m <;> cases st <;> decide

/-- The two flag bytes of a ZONE-SET. -/
theorem zone_flags (coarse bind : Bool) :
    hasBit (byteOf (flagBit 128 coarse + flagBit 16 bind)) 128 = coarse
    ∧ hasBit (byteOf (flagBit 128 coarse + flagBit 16 bind)) 16 = bind := by
  cases coarse <;> cases bind <;> decide

theorem zone_rights (lift place pass : Bool) :
    hasBit (byteOf (flagBit 4 lift + flagBit 2 place + flagBit 1 pass)) 4 = lift
    ∧ hasBit (byteOf (flagBit 4 lift + flagBit 2 place + flagBit 1 pass)) 2 = place
    ∧ hasBit (byteOf (flagBit 4 lift + flagBit 2 place + flagBit 1 pass)) 1 = pass := by
  cases lift <;> cases place <;> cases pass <;> decide

/-- The flag byte of a plate record: a kind, a form, the hook, a turn and a claim. -/
def plateFlags (k : RecordKind) (form : Option Form) (onHook : Bool) (t : Turn) (claim : Bool) : Byte :=
  byteOf (128 * k.code + 32 * codeOr 3 Form.code form + flagBit 16 onHook + 8 * t.code + flagBit 4 claim)

theorem plateFlags_kind (k : RecordKind) (form : Option Form) (onHook : Bool) (t : Turn) (claim : Bool) :
    (if hasBit (plateFlags k form onHook t claim) 128 then RecordKind.remnant else .plate) = k := by
  rcases form with _ | form
  · cases k <;> cases onHook <;> cases t <;> cases claim <;> decide
  · cases k <;> cases form <;> cases onHook <;> cases t <;> cases claim <;> decide

theorem plateFlags_form (k : RecordKind) (form : Option Form) (onHook : Bool) (t : Turn) (claim : Bool) :
    Form.ofCode ((plateFlags k form onHook t claim).toNat / 32 % 4) = form := by
  rcases form with _ | form
  · cases k <;> cases onHook <;> cases t <;> cases claim <;> decide
  · cases k <;> cases form <;> cases onHook <;> cases t <;> cases claim <;> decide

theorem plateFlags_rest (k : RecordKind) (form : Option Form) (onHook : Bool) (t : Turn) (claim : Bool) :
    hasBit (plateFlags k form onHook t claim) 16 = onHook
    ∧ (if hasBit (plateFlags k form onHook t claim) 8 then Turn.deg90 else .deg0) = t
    ∧ hasBit (plateFlags k form onHook t claim) 4 = claim := by
  rcases form with _ | form
  · cases k <;> cases onHook <;> cases t <;> cases claim <;> decide
  · cases k <;> cases form <;> cases onHook <;> cases t <;> cases claim <;> decide

/-! ## Lists of entries -/

theorem readParts_bytes {l : List PartWrite} (h : l.all PartWrite.wellFormed = true) :
    readParts l.length (l.flatMap PartWrite.bytes) = some l := by
  induction l with
  | nil => rfl
  | cons e rest ih =>
    rw [List.all_cons, Bool.and_eq_true] at h
    obtain ⟨he, hrest⟩ := h
    obtain ⟨number, x0, y0, x1, y1, mark, status⟩ := e
    simp only [PartWrite.wellFormed, Bool.and_eq_true] at he
    obtain ⟨⟨⟨⟨hn, hx0⟩, hy0⟩, hx1⟩, hy1⟩ := he
    obtain ⟨hm, hs⟩ := part_flags mark status
    simp [PartWrite.bytes, bytes16, readParts, ih hrest, nat16_bytes hn, nat16_bytes hx0, nat16_bytes hy0, nat16_bytes hx1,
      nat16_bytes hy1, hm, hs]

theorem readNat16s_bytes {l : List Nat} (h : l.all fits16 = true) : readNat16s l.length (l.flatMap bytes16) = some l := by
  induction l with
  | nil => rfl
  | cons n rest ih =>
    rw [List.all_cons, Bool.and_eq_true] at h
    simp [bytes16, readNat16s, ih h.2, nat16_bytes h.1]

theorem readParams_bytes {l : List ParamEntry} (h : l.all ParamEntry.wellFormed = true) :
    readParams l.length (l.flatMap ParamEntry.bytes) = some l := by
  induction l with
  | nil => rfl
  | cons e rest ih =>
    rw [List.all_cons, Bool.and_eq_true] at h
    obtain ⟨he, hrest⟩ := h
    simp only [ParamEntry.wellFormed, Bool.and_eq_true] at he
    obtain ⟨⟨hc, hi⟩, hv⟩ := he
    simp [ParamEntry.bytes, bytes32, readParams, ih hrest, toNat_byteOf_of_fits hc, toNat_byteOf_of_fits hi, nat32_bytes hv]

end Sys2Proof

namespace Sys2Proof.Machine

open Sys2Proof

/-! ## Whole bodies -/

theorem body1_byte (f : Nat → Instr) {n : Nat} (h : fits8 n = true) : body1 f [byteOf n] = some (f n) := by
  simp [body1, toNat_byteOf_of_fits h]

theorem body11_bytes (f : Nat → Nat → Instr) {a b : Nat} (ha : fits8 a = true) (hb : fits8 b = true) :
    body11 f [byteOf a, byteOf b] = some (f a b) := by
  simp [body11, toNat_byteOf_of_fits ha, toNat_byteOf_of_fits hb]

theorem body2_bytes (f : Nat → Instr) {n : Nat} (h : fits16 n = true) : body2 f (bytes16 n) = some (f n) := by
  simp [body2, bytes16, nat16_bytes h]

theorem body12_bytes (f : Nat → Nat → Instr) {b n : Nat} (hb : fits8 b = true) (hn : fits16 n = true) :
    body12 f ([byteOf b] ++ bytes16 n) = some (f b n) := by
  simp [body12, bytes16, toNat_byteOf_of_fits hb, nat16_bytes hn]

theorem body4_bytes (f : Nat → Instr) {n : Nat} (h : fits32 n = true) : body4 f (bytes32 n) = some (f n) := by
  simp [body4, bytes32, nat32_bytes h]

theorem toNat_length {α : Type} {l : List α} {k : Nat} (h : decide (l.length ≤ k) = true) (hk : k < 256) :
    (byteOf l.length).toNat = l.length := by
  have hl : l.length ≤ k := of_decide_eq_true h
  exact toNat_byteOf_of_fits (decide_eq_true (by omega))

theorem readZoneSet_bytes (p : Port) (t : Byte) {w : ZoneWrite} (h : w.wellFormed = true) :
    readZoneSet p t w.bytes = some (.zoneSet p t w) := by
  simp only [ZoneWrite.wellFormed, Bool.and_eq_true] at h
  obtain ⟨⟨⟨⟨⟨hz, hx⟩, hy⟩, hex⟩, hey⟩, hcap⟩ := h
  obtain ⟨hcoarse, hbind⟩ := zone_flags w.coarse w.bind
  obtain ⟨hlift, hplace, hpass⟩ := zone_rights w.lift w.place w.pass
  simp [ZoneWrite.bytes, bytes32, bytes16, readZoneSet, toNat_byteOf_of_fits hz, toNat_byteOf_of_fits hcap, nat32_bytes hx,
    nat16_bytes hy, nat16_bytes hex, nat16_bytes hey, ZoneKind.ofCode_code, hcoarse, hbind, hlift, hplace, hpass]

/-- R169: a plate record, at rest or on a hook. -/
theorem readPlate_bytes (p : Port) (t : Byte) {w : PlateWrite} (h : w.wellFormed = true) (onHook : Bool) {place ox oy : Nat}
    (hp : fits8 place = true) (hx : fits32 ox = true) (hy : fits16 oy = true) :
    readPlate p t (w.bytes onHook place ox oy) =
      some (if onHook then .plateRegisterOnHook p t w place else .plateRegister p t w place ox oy) := by
  simp only [PlateWrite.wellFormed, Bool.and_eq_true] at h
  obtain ⟨⟨⟨⟨⟨⟨⟨⟨⟨hid, hk⟩, hg⟩, hth⟩, hl⟩, hw⟩, ht⟩, hpar⟩, hlen⟩, hparts⟩ := h
  obtain ⟨id, kind, grade, thickness, length, width, form, turn, parent, claim, parts⟩ := w
  obtain ⟨k, rfl⟩ := Option.isSome_iff_exists.mp hk
  obtain ⟨tn, rfl⟩ := Option.isSome_iff_exists.mp ht
  obtain ⟨hhook, hturn, hclaim⟩ := plateFlags_rest k form onHook tn claim
  have hkind := plateFlags_kind k form onHook tn claim
  have hform := plateFlags_form k form onHook tn claim
  have hflags : byteOf (128 * k.code + 32 * codeOr 3 Form.code form + flagBit 16 onHook + 8 * tn.code + flagBit 4 claim)
      = plateFlags k form onHook tn claim := rfl
  simp [PlateWrite.bytes, bytes32, bytes16, readPlate, codeOr_some, hflags, readParts_bytes hparts, toNat_length hlen,
    toNat_byteOf_of_fits hg, toNat_byteOf_of_fits hth, toNat_byteOf_of_fits hp, nat32_bytes hid, nat32_bytes hx,
    nat32_bytes hpar, nat16_bytes hl, nat16_bytes hw, nat16_bytes hy, hhook, hturn, hclaim, hkind, hform]

theorem readPlateParts_bytes (p : Port) (t : Byte) (a : Bool) {id : Nat} {l : List PartWrite} (hid : fits32 id = true)
    (hl : partsWellFormed l = true) : readPlateParts p t (platePartsBytes a id l) =
      some (if a then .platePartsAppend p t id l else .platePartsReplace p t id l) := by
  obtain ⟨hlen, hall⟩ := Bool.and_eq_true_iff.mp hl
  simp [platePartsBytes, bytes32, readPlateParts, readParts_bytes hall, toNat_length hlen, nat32_bytes hid, hasBit_flag]

theorem readJob_bytes (p : Port) (t : Byte) {w : JobWrite} (h : w.wellFormed = true) :
    readJob p t w.bytes = some (.jobAdd p t w) := by
  simp only [JobWrite.wellFormed, Bool.and_eq_true] at h
  obtain ⟨⟨⟨⟨⟨⟨⟨⟨hb, hn⟩, hk⟩, hpl⟩, hlen⟩, hparts⟩, hc⟩, hpr⟩, hlim⟩ := h
  obtain ⟨bed, number, kind, plate, parts, current, priority, limit⟩ := w
  obtain ⟨k, rfl⟩ := Option.isSome_iff_exists.mp hk
  have hkind : (if hasBit (byteOf (128 * k.code)) 128 then JobKind.cut else .mark) = k := by cases k <;> decide
  simp [JobWrite.bytes, bytes32, bytes16, readJob, codeOr_some, readNat16s_bytes hparts, toNat_length hlen,
    toNat_byteOf_of_fits hb, toNat_byteOf_of_fits hpr, nat32_bytes hpl, nat16_bytes hn, nat16_bytes hc, nat16_bytes hlim, hkind]

theorem readParamSet_bytes (p : Port) (t : Byte) {l : List ParamEntry} (hlen : decide (l.length ≤ 33) = true)
    (hall : l.all ParamEntry.wellFormed = true) :
    readParamSet p t ([byteOf l.length] ++ l.flatMap ParamEntry.bytes) = some (.paramSet p t l) := by
  simp [readParamSet, readParams_bytes hall, toNat_length hlen]

theorem decodeFrame_of_layout {p : Port} {f : Frame} {layout : List Byte → Option Instr} {i : Instr}
    (hl : layoutOf p f.tag f.kind.toNat = some layout) (hb : layout f.body = some i) : decodeFrame p f = .request i := by
  rw [decodeFrame, hl]
  simp only [hb]
  rfl

/-- A request whose layout reads its body back. -/
theorem decodeFrame_frameOf {i : Instr} {p q : Port} {tag t : Byte} {layout : List Byte → Option Instr}
    (hi : some (q, t) = some (p, tag)) (hl : layoutOf q (frameOf i).tag (frameOf i).kind.toNat = some layout)
    (hb : layout (frameOf i).body = some i) : decodeFrame p (frameOf i) = .request i := by
  obtain ⟨rfl, -⟩ := Prod.mk.inj (Option.some_inj.mp hi)
  exact decodeFrame_of_layout hl hb

/-- Settles O5. -/
theorem frameOfRequestDecodesToIt : Obligations.FrameOfRequestDecodesToIt := by
  intro i p tag hi hw
  cases i with
  | hello q t r => exact decodeFrame_frameOf hi rfl (by simp [frameOf, body1, Role.ofCode_code])
  | keepalive q t => exact decodeFrame_frameOf hi rfl rfl
  | statusRead q t n => exact decodeFrame_frameOf hi rfl (body1_byte _ hw)
  | portRestore q t n => exact decodeFrame_frameOf hi rfl (body1_byte _ hw)
  | hallRestore q t => exact decodeFrame_frameOf hi rfl rfl
  | zoneRead q t n => exact decodeFrame_frameOf hi rfl (body1_byte _ hw)
  | zoneSet q t w => exact decodeFrame_frameOf hi rfl (readZoneSet_bytes q t hw)
  | zoneClear q t n => exact decodeFrame_frameOf hi rfl (body1_byte _ hw)
  | zoneService q t z f =>
    have hz : fits8 z = true := hw
    exact decodeFrame_frameOf hi rfl (by simp [frameOf, readZoneService, toNat_byteOf_of_fits hz, hasBit_flag])
  | zoneUsedClear q t n => exact decodeFrame_frameOf hi rfl (body1_byte _ hw)
  | bedBind q t n => exact decodeFrame_frameOf hi rfl (body1_byte _ hw)
  | bedUnbind q t => exact decodeFrame_frameOf hi rfl rfl
  | plateRegister q t w z ox oy =>
    simp only [Instr.wellFormed, Bool.and_eq_true] at hw
    obtain ⟨⟨⟨hw, hz⟩, hx⟩, hy⟩ := hw
    exact decodeFrame_frameOf hi rfl (readPlate_bytes q t hw false hz hx hy)
  | plateRegisterOnHook q t w c =>
    obtain ⟨hw, hc⟩ := Bool.and_eq_true_iff.mp hw
    exact decodeFrame_frameOf hi rfl (readPlate_bytes q t hw true hc rfl rfl)
  | platePartsReplace q t id l =>
    obtain ⟨hid, hl⟩ := Bool.and_eq_true_iff.mp hw
    exact decodeFrame_frameOf hi rfl (readPlateParts_bytes q t false hid hl)
  | platePartsAppend q t id l =>
    obtain ⟨hid, hl⟩ := Bool.and_eq_true_iff.mp hw
    exact decodeFrame_frameOf hi rfl (readPlateParts_bytes q t true hid hl)
  | plateFinish q t id => exact decodeFrame_frameOf hi rfl (body4_bytes _ hw)
  | plateDrop q t id => exact decodeFrame_frameOf hi rfl (body4_bytes _ hw)
  | plateRead q t id first next =>
    obtain ⟨hid, hfirst⟩ := Bool.and_eq_true_iff.mp hw
    exact decodeFrame_frameOf hi rfl (by simp [frameOf, bytes32, readPlateRead, nat32_bytes hid, toNat_byteOf_of_fits hfirst, hasBit_flag])
  | jobAdd q t w => exact decodeFrame_frameOf hi rfl (readJob_bytes q t hw)
  | jobTake q t => exact decodeFrame_frameOf hi rfl rfl
  | jobReturn q t n => exact decodeFrame_frameOf hi rfl (body2_bytes _ hw)
  | jobCancel q t b n =>
    obtain ⟨hb, hn⟩ := Bool.and_eq_true_iff.mp hw
    exact decodeFrame_frameOf hi rfl (body12_bytes _ hb hn)
  | jobResume q t b n =>
    obtain ⟨hb, hn⟩ := Bool.and_eq_true_iff.mp hw
    exact decodeFrame_frameOf hi rfl (body12_bytes _ hb hn)
  | jobList q t a b =>
    obtain ⟨ha, hb⟩ := Bool.and_eq_true_iff.mp hw
    exact decodeFrame_frameOf hi rfl (body11_bytes _ ha hb)
  | arcStart q t n => exact decodeFrame_frameOf hi rfl (body2_bytes _ hw)
  | arcEstablished q t => exact decodeFrame_frameOf hi rfl rfl
  | arcOff q t o => exact decodeFrame_frameOf hi rfl (by simp [frameOf, body1, ArcOutcome.ofCode_code])
  | budgetRead q t => exact decodeFrame_frameOf hi rfl rfl
  | spanSet q t a b =>
    obtain ⟨ha, hb⟩ := Bool.and_eq_true_iff.mp hw
    exact decodeFrame_frameOf hi rfl (body11_bytes _ ha hb)
  | spanClear q t => exact decodeFrame_frameOf hi rfl rfl
  | lift q t id z =>
    obtain ⟨hid, hz⟩ := Bool.and_eq_true_iff.mp hw
    exact decodeFrame_frameOf hi rfl (by simp [frameOf, bytes32, readLift, nat32_bytes hid, toNat_byteOf_of_fits hz])
  | retarget q t n => exact decodeFrame_frameOf hi rfl (body1_byte _ hw)
  | setDown q t ox oy turn =>
    obtain ⟨hx, hy⟩ := Bool.and_eq_true_iff.mp hw
    exact decodeFrame_frameOf hi rfl (by simp [frameOf, bytes32, bytes16, readSetDown, nat32_bytes hx, nat16_bytes hy, Turn.ofCode_code])
  | liftAbort q t => exact decodeFrame_frameOf hi rfl rfl
  | craneRead q t n => exact decodeFrame_frameOf hi rfl (body1_byte _ hw)
  | remnantDeclare q t pl id x0 y0 x1 y1 =>
    simp only [Instr.wellFormed, Bool.and_eq_true] at hw
    obtain ⟨⟨⟨⟨⟨hpl, hid⟩, hx0⟩, hy0⟩, hx1⟩, hy1⟩ := hw
    exact decodeFrame_frameOf hi rfl (by simp [frameOf, bytes32, bytes16, readDeclare, nat32_bytes hpl, nat32_bytes hid, nat16_bytes hx0,
      nat16_bytes hy0, nat16_bytes hx1, nat16_bytes hy1])
  | remnantFit q t g th l w h =>
    simp only [Instr.wellFormed, Bool.and_eq_true] at hw
    obtain ⟨⟨⟨⟨hg, hth⟩, hl⟩, hwd⟩, hh⟩ := hw
    exact decodeFrame_frameOf hi rfl (by simp [frameOf, bytes16, readFit, toNat_byteOf_of_fits hg, toNat_byteOf_of_fits hth, nat16_bytes hl,
      nat16_bytes hwd, nat16_bytes hh])
  | remnantRelease q t id => exact decodeFrame_frameOf hi rfl (body4_bytes _ hw)
  | remnantList q t g th first =>
    simp only [Instr.wellFormed, Bool.and_eq_true] at hw
    obtain ⟨⟨hg, hth⟩, hfirst⟩ := hw
    exact decodeFrame_frameOf hi rfl (by simp [frameOf, readRemnantList, toNat_byteOf_of_fits hg, toNat_byteOf_of_fits hth,
      toNat_byteOf_of_fits hfirst])
  | logTake q t a b =>
    obtain ⟨ha, hb⟩ := Bool.and_eq_true_iff.mp hw
    exact decodeFrame_frameOf hi rfl (body11_bytes _ ha hb)
  | logRead q t a b =>
    obtain ⟨ha, hb⟩ := Bool.and_eq_true_iff.mp hw
    exact decodeFrame_frameOf hi rfl (body11_bytes _ ha hb)
  | logClearLost q t n => exact decodeFrame_frameOf hi rfl (body1_byte _ hw)
  | alertClear q t c subj =>
    have hs : fits8 subj = true := hw
    exact decodeFrame_frameOf hi rfl (by simp [frameOf, body11, AlertCode.ofCode_code, toNat_byteOf_of_fits hs])
  | alertAckOldest q t => exact decodeFrame_frameOf hi rfl rfl
  | alertClearAll q t => exact decodeFrame_frameOf hi rfl rfl
  | alertRead q t => exact decodeFrame_frameOf hi rfl rfl
  | paramSet q t l =>
    obtain ⟨hlen, hall⟩ := Bool.and_eq_true_iff.mp hw
    exact decodeFrame_frameOf hi rfl (readParamSet_bytes q t hlen hall)
  | paramRead q t a b =>
    obtain ⟨ha, hb⟩ := Bool.and_eq_true_iff.mp hw
    exact decodeFrame_frameOf hi rfl (body11_bytes _ ha hb)
  | configStore q t => exact decodeFrame_frameOf hi rfl rfl
  | restart q t => exact decodeFrame_frameOf hi rfl rfl
  | causeRead q t => exact decodeFrame_frameOf hi rfl rfl
  | _ => cases hi

end Sys2Proof.Machine
end

section
/-! The codec: a frame decodes to a request of its kind, tag and length alone (R162), and what is taken from the receive buffer. -/

namespace Sys2Proof.Machine

open Sys2Proof

/-! ## Lists of entries -/

theorem length_of_readParts {n : Nat} {l : List Byte} {parts : List PartWrite} (h : readParts n l = some parts) :
    l.length = 11 * parts.length := by
  fun_induction readParts n l generalizing parts with
  | case1 =>
    obtain rfl := Option.some_inj.mp h
    rfl
  | case2 n a b c d e f g i j k m rest ih =>
    obtain ⟨more, hmore, rfl⟩ := Option.map_eq_some_iff.mp h
    simp only [List.length_cons, ih hmore]
    omega
  | case3 => cases h

theorem length_of_readNat16s {n : Nat} {l : List Byte} {ns : List Nat} (h : readNat16s n l = some ns) :
    l.length = 2 * ns.length := by
  fun_induction readNat16s n l generalizing ns with
  | case1 =>
    obtain rfl := Option.some_inj.mp h
    rfl
  | case2 n a b rest ih =>
    obtain ⟨more, hmore, rfl⟩ := Option.map_eq_some_iff.mp h
    simp only [List.length_cons, ih hmore]
    omega
  | case3 => cases h

theorem length_of_readParams {n : Nat} {l : List Byte} {es : List ParamEntry} (h : readParams n l = some es) :
    l.length = 6 * es.length := by
  fun_induction readParams n l generalizing es with
  | case1 =>
    obtain rfl := Option.some_inj.mp h
    rfl
  | case2 n a b c d e f rest ih =>
    obtain ⟨more, hmore, rfl⟩ := Option.map_eq_some_iff.mp h
    simp only [List.length_cons, ih hmore]
    omega
  | case3 => cases h

/-! ## The layouts by their kinds -/

/-- The layout of kind `k` reads only requests of port `p` and tag `t`, whose frames have that kind and the length read. -/
def Reads (p : Port) (t : Byte) (k : Nat) (layout : List Byte → Option Instr) : Prop :=
  ∀ body i, layout body = some i →
    requestOf i = some (p, t) ∧ (frameOf i).kind.toNat = k ∧ (frameOf i).body.length = body.length

section

variable {p : Port} {t : Byte} {k : Nat}

theorem reads_body0 {i : Instr} (h : requestOf i = some (p, t) ∧ (frameOf i).kind.toNat = k ∧ (frameOf i).body.length = 0) :
    Reads p t k (body0 i) := by
  intro body j hj
  unfold body0 at hj
  split at hj
  · obtain rfl := Option.some_inj.mp hj
    exact h
  · cases hj

theorem reads_body1 {f : Nat → Instr}
    (h : ∀ n, requestOf (f n) = some (p, t) ∧ (frameOf (f n)).kind.toNat = k ∧ (frameOf (f n)).body.length = 1) :
    Reads p t k (body1 f) := by
  intro body j hj
  unfold body1 at hj
  split at hj
  · obtain rfl := Option.some_inj.mp hj
    exact h _
  · cases hj

theorem reads_body11 {f : Nat → Nat → Instr}
    (h : ∀ a b, requestOf (f a b) = some (p, t) ∧ (frameOf (f a b)).kind.toNat = k ∧ (frameOf (f a b)).body.length = 2) :
    Reads p t k (body11 f) := by
  intro body j hj
  unfold body11 at hj
  split at hj
  · obtain rfl := Option.some_inj.mp hj
    exact h _ _
  · cases hj

theorem reads_body2 {f : Nat → Instr}
    (h : ∀ n, requestOf (f n) = some (p, t) ∧ (frameOf (f n)).kind.toNat = k ∧ (frameOf (f n)).body.length = 2) :
    Reads p t k (body2 f) := by
  intro body j hj
  unfold body2 at hj
  split at hj
  · obtain rfl := Option.some_inj.mp hj
    exact h _
  · cases hj

theorem reads_body12 {f : Nat → Nat → Instr}
    (h : ∀ a b, requestOf (f a b) = some (p, t) ∧ (frameOf (f a b)).kind.toNat = k ∧ (frameOf (f a b)).body.length = 3) :
    Reads p t k (body12 f) := by
  intro body j hj
  unfold body12 at hj
  split at hj
  · obtain rfl := Option.some_inj.mp hj
    exact h _ _
  · cases hj

theorem reads_body4 {f : Nat → Instr}
    (h : ∀ n, requestOf (f n) = some (p, t) ∧ (frameOf (f n)).kind.toNat = k ∧ (frameOf (f n)).body.length = 4) :
    Reads p t k (body4 f) := by
  intro body j hj
  unfold body4 at hj
  split at hj
  · obtain rfl := Option.some_inj.mp hj
    exact h _
  · cases hj

end

theorem reads_zoneSet (p : Port) (t : Byte) : Reads p t 0x11 (readZoneSet p t) := by
  intro body i h
  unfold readZoneSet at h
  split at h
  · obtain rfl := Option.some_inj.mp h
    exact ⟨rfl, rfl, rfl⟩
  · cases h

theorem reads_zoneService (p : Port) (t : Byte) : Reads p t 0x13 (readZoneService p t) := by
  intro body i h
  unfold readZoneService at h
  split at h
  · obtain rfl := Option.some_inj.mp h
    exact ⟨rfl, rfl, rfl⟩
  · cases h

/-- R162: both forms of PLATE-REGISTER have one kind and one layout. -/
theorem plateRequest_frame (p : Port) (t : Byte) (onHook : Bool) (w : PlateWrite) (z ox oy : Nat) :
    requestOf (if onHook = true then .plateRegisterOnHook p t w z else .plateRegister p t w z ox oy) = some (p, t)
    ∧ (frameOf (if onHook = true then .plateRegisterOnHook p t w z else .plateRegister p t w z ox oy)).kind.toNat = 0x20
    ∧ (frameOf (if onHook = true then .plateRegisterOnHook p t w z else .plateRegister p t w z ox oy)).body.length =
      23 + 11 * w.parts.length := by
  cases onHook with
  | true => exact ⟨rfl, rfl, Laws.length_plateBytes _ _ _ _ _⟩
  | false => exact ⟨rfl, rfl, Laws.length_plateBytes _ _ _ _ _⟩

theorem reads_plate (p : Port) (t : Byte) : Reads p t 0x20 (readPlate p t) := by
  intro body i h
  unfold readPlate at h
  split at h
  · obtain ⟨parts, hparts, rfl⟩ := Option.map_eq_some_iff.mp h
    have hlen := length_of_readParts hparts
    obtain ⟨hreq, hkind, hbody⟩ := plateRequest_frame p t (hasBit _ 16) _ _ _ _
    refine ⟨hreq, hkind, hbody.trans ?_⟩
    simp only [List.length_cons, hlen]
    omega
  · cases h

theorem reads_plateParts (p : Port) (t : Byte) : Reads p t 0x21 (readPlateParts p t) := by
  intro body i h
  unfold readPlateParts at h
  split at h
  · obtain ⟨parts, hparts, rfl⟩ := Option.map_eq_some_iff.mp h
    have hlen := length_of_readParts hparts
    split_ifs
    · refine ⟨rfl, rfl, (Laws.length_platePartsBytes _ _ _).trans ?_⟩
      simp only [List.length_cons, hlen]
      omega
    · refine ⟨rfl, rfl, (Laws.length_platePartsBytes _ _ _).trans ?_⟩
      simp only [List.length_cons, hlen]
      omega
  · cases h

theorem reads_plateRead (p : Port) (t : Byte) : Reads p t 0x24 (readPlateRead p t) := by
  intro body i h
  unfold readPlateRead at h
  split at h
  · obtain rfl := Option.some_inj.mp h
    exact ⟨rfl, rfl, rfl⟩
  · cases h

theorem reads_job (p : Port) (t : Byte) : Reads p t 0x30 (readJob p t) := by
  intro body i h
  unfold readJob at h
  split at h
  · obtain ⟨parts, hparts, rfl⟩ := Option.map_eq_some_iff.mp h
    have hlen := length_of_readNat16s hparts
    refine ⟨rfl, rfl, (Laws.length_jobBytes _).trans ?_⟩
    simp only [List.length_cons, hlen]
    omega
  · cases h

theorem reads_lift (p : Port) (t : Byte) : Reads p t 0x52 (readLift p t) := by
  intro body i h
  unfold readLift at h
  split at h
  · obtain rfl := Option.some_inj.mp h
    exact ⟨rfl, rfl, rfl⟩
  · cases h

theorem reads_setDown (p : Port) (t : Byte) : Reads p t 0x54 (readSetDown p t) := by
  intro body i h
  unfold readSetDown at h
  split at h
  · obtain rfl := Option.some_inj.mp h
    exact ⟨rfl, rfl, rfl⟩
  · cases h

theorem reads_declare (p : Port) (t : Byte) : Reads p t 0x60 (readDeclare p t) := by
  intro body i h
  unfold readDeclare at h
  split at h
  · obtain rfl := Option.some_inj.mp h
    exact ⟨rfl, rfl, rfl⟩
  · cases h

theorem reads_fit (p : Port) (t : Byte) : Reads p t 0x61 (readFit p t) := by
  intro body i h
  unfold readFit at h
  split at h
  · obtain rfl := Option.some_inj.mp h
    exact ⟨rfl, rfl, rfl⟩
  · cases h

theorem reads_remnantList (p : Port) (t : Byte) : Reads p t 0x63 (readRemnantList p t) := by
  intro body i h
  unfold readRemnantList at h
  split at h
  · obtain rfl := Option.some_inj.mp h
    exact ⟨rfl, rfl, rfl⟩
  · cases h

theorem reads_paramSet (p : Port) (t : Byte) : Reads p t 0x78 (readParamSet p t) := by
  intro body i h
  unfold readParamSet at h
  split at h
  · obtain ⟨es, hes, rfl⟩ := Option.map_eq_some_iff.mp h
    have hlen := length_of_readParams hes
    refine ⟨rfl, rfl, ?_⟩
    simp [frameOf, Laws.length_flatMap_of_size _ 6 Laws.length_paramBytes, hlen]
  · cases h

theorem reads_layoutOf {p : Port} {t : Byte} {k : Nat} {layout : List Byte → Option Instr}
    (h : layoutOf p t k = some layout) : Reads p t k layout := by
  unfold layoutOf at h
  split at h
  all_goals cases h
  any_goals exact reads_body0 ⟨rfl, rfl, rfl⟩
  any_goals exact reads_body1 fun _ => ⟨rfl, rfl, rfl⟩
  any_goals exact reads_body11 fun _ _ => ⟨rfl, rfl, rfl⟩
  any_goals exact reads_body2 fun _ => ⟨rfl, rfl, rfl⟩
  any_goals exact reads_body12 fun _ _ => ⟨rfl, rfl, rfl⟩
  any_goals exact reads_body4 fun _ => ⟨rfl, rfl, rfl⟩
  · exact reads_zoneSet p t
  · exact reads_zoneService p t
  · exact reads_plate p t
  · exact reads_plateParts p t
  · exact reads_plateRead p t
  · exact reads_job p t
  · exact reads_lift p t
  · exact reads_setDown p t
  · exact reads_declare p t
  · exact reads_fit p t
  · exact reads_remnantList p t
  · exact reads_paramSet p t

theorem layoutOf_isSome (p : Port) (t : Byte) (k : Nat) : (layoutOf p t k).isSome = true ↔ k ∈ requestCodes := by
  constructor
  · intro h
    unfold layoutOf at h
    split at h
    all_goals first | decide | cases h
  · intro h
    fin_cases h <;> rfl

theorem decodeFrame_eq_request {p : Port} {f : Frame} {i : Instr} : decodeFrame p f = .request i ↔
    ∃ layout, layoutOf p f.tag f.kind.toNat = some layout ∧ layout f.body = some i := by
  unfold decodeFrame
  cases layoutOf p f.tag f.kind.toNat with
  | none => simp
  | some layout =>
    cases hb : layout f.body with
    | none => simp [Decoded.ofOption, hb]
    | some j => simp [Decoded.ofOption, hb]

theorem decodeFrame_eq_code {p : Port} {f : Frame} : decodeFrame p f = .code ↔ f.kind.toNat ∉ requestCodes := by
  rw [← layoutOf_isSome p f.tag]
  unfold decodeFrame
  cases layoutOf p f.tag f.kind.toNat with
  | none => simp
  | some layout =>
    cases hb : layout f.body with
    | none => simp [Decoded.ofOption, hb]
    | some j => simp [Decoded.ofOption, hb]

/-- Settles O6. -/
theorem decodedFramesHaveTheirKindTagAndLength : Obligations.DecodedFramesHaveTheirKindTagAndLength := by
  refine fun p f => ⟨fun i h => ?_, decodeFrame_eq_code⟩
  obtain ⟨layout, hl, hb⟩ := decodeFrame_eq_request.mp h
  obtain ⟨hreq, hkind, hlen⟩ := reads_layoutOf hl f.body i hb
  exact ⟨hreq, BitVec.eq_of_toNat_eq hkind, hlen⟩

/-! ## Sample frames -/

set_option maxRecDepth 4000 in
/-- R160: the check value over the digits 1 to 9. -/
theorem crc16_digits : crc16 [0x31, 0x32, 0x33, 0x34, 0x35, 0x36, 0x37, 0x38, 0x39] = 0x29B1 := by decide

theorem length_locationBytes (l : Location) : l.bytes.length = 7 := by cases l <;> rfl

theorem length_recordBytes (r : Plate) (reserved : Bool) (entries : List Part) :
    (plateBytes r reserved entries).length = 23 + 11 * entries.length := by
  have hpart (q : Part) : q.bytes.length = 11 := rfl
  simp only [plateBytes, List.length_append, Laws.length_bytes32, Laws.length_bytes16, length_locationBytes,
    Laws.length_flatMap_of_size _ 11 hpart, List.length_cons, List.length_nil]

theorem length_jobRecordBytes (j : Job) : j.bytes.length = 19 + 2 * j.parts.length := by
  simp only [Job.bytes, List.length_append, Laws.length_bytes32, Laws.length_bytes16,
    Laws.length_flatMap_of_size _ 2 Laws.length_bytes16, List.length_cons, List.length_nil]

theorem length_flatMap_of_mem {α : Type} {f : α → List Byte} {k : Nat} {l : List α} (h : ∀ a ∈ l, (f a).length = k) :
    (l.flatMap f).length = k * l.length := by
  rw [List.length_flatMap, List.map_congr_left h]
  simp [Nat.mul_comm]

theorem length_replyBody (r : Reply) : r.frame.body.length = 2 + r.data.bytes.length := by
  simp only [Reply.frame, Reply.body, Reply.head, List.length_append, List.length_cons, List.length_nil]

/-- Settles O7. -/
theorem sampleFramesDecode : Obligations.SampleFramesDecode := by
  refine ⟨rfl, rfl, rfl, rfl, rfl, rfl, rfl, rfl, crc16_digits, fun r hr tag st lost => ?_, fun r hr hparts tag st lost => ?_⟩
  · rw [length_replyBody]
    simp only [ReplyData.bytes, PlateReport.bytes, Rect.footBytes, List.length_append, Laws.length_bytes32, Laws.length_bytes16,
      length_recordBytes, hr, List.length_cons, List.length_nil]
  · have hjob (j : Job) (hj : j ∈ r.jobs) : j.bytes.length = 35 := by rw [length_jobRecordBytes, hparts j hj]
    have hbound : (boundBytes r.bound).length = 2 := by cases r.bound <;> rfl
    rw [length_replyBody]
    simp only [ReplyData.bytes, JobListReport.bytes, List.length_append, Laws.length_bytes32, hbound,
      length_flatMap_of_mem hjob, hr, List.length_cons, List.length_nil]

/-! ## The receive buffer -/

theorem exec_frameTake {s : State} {p : Port} {f : Frame} {rest : List Frame} (hheld : s.held = false)
    (hslot : (s.link p).slot = none) (hbuffer : (s.link p).buffer = f :: rest) :
    exec (.frameTake p) s = .next (serveFrame p f (s.setLink p { s.link p with buffer := rest })).settle := by
  rw [exec_of_event rfl rfl, if_neg (by simp [hheld])]
  show Host.Outcome.next (takeFrame p s).settle = _
  simp [takeFrame, hslot, hbuffer]

/-- Settles O9. -/
theorem frameTakeServesOldestFrame : Obligations.FrameTakeServesOldestFrame := by
  intro s p f rest hheld hslot hbuffer taken
  have htake := exec_frameTake hheld hslot hbuffer
  have hserve (i : Instr) (h : decodeFrame p f = .request i) : exec (.frameTake p) s = .next (serve i taken).settle := by
    rw [htake, serveFrame, h]
  refine ⟨hserve, fun i tag hi hw hf => hserve i (hf ▸ frameOfRequestDecodesToIt i p tag hi hw), fun h => ?_, fun h => ?_⟩
  · rw [htake, serveFrame, decodeFrame_eq_code.mpr h]
    rfl
  · rw [htake, serveFrame, h]
    rfl

end Sys2Proof.Machine
end

section
/-! A taken request gets one reply (R161, R162, R164). -/

namespace Sys2Proof.Machine

open Sys2Proof

/-! ## Notices leave the reply slots and the receive buffers alone -/

/-- The links differ by notices offered, of which some may be lost (R164). -/
def State.Noticed (s t : State) : Prop :=
  ∀ p, (t.link p).slot = (s.link p).slot ∧ (t.link p).buffer = (s.link p).buffer
    ∧ ((s.link p).lost = true → (t.link p).lost = true)

theorem State.Noticed.refl (s : State) : s.Noticed s := fun _ => ⟨rfl, rfl, id⟩

theorem Link.offer_lost {l : Link} (n : Notice) (h : l.lost = true) : (l.offer n).lost = true := by
  unfold Link.offer
  split_ifs
  · exact h
  · rfl

theorem noticed_noticesKeep (s : State) : NoticesKeep s.Noticed where
  reads {t u} h ht := by
    have hl : u.links = t.links := h .links (by simp)
    simpa only [State.Noticed, State.link, hl] using ht
  notify {t} p n ht q := by
    obtain ⟨hslot, hbuffer, hlost⟩ := ht q
    rw [State.notify, State.link_setLink]
    split_ifs with hpq
    · subst hpq
      refine ⟨?_, ?_, fun h => Link.offer_lost n (hlost h)⟩
      · obtain ⟨-, h⟩ | ⟨-, h⟩ := (t.link p).offer_cases n <;> rw [h] <;> exact hslot
      · obtain ⟨-, h⟩ | ⟨-, h⟩ := (t.link p).offer_cases n <;> rw [h] <;> exact hbuffer
    · exact ⟨hslot, hbuffer, hlost⟩

/-! ## A refusal changes nothing -/

theorem byCases_refusal {cases : Cases} {act : State → State × Answer} {s : State}
    (h : firstCase cases = none → (act s).2.status.isRefusal = true → (act s).1 = s) :
    (byCases cases act s).2.status.isRefusal = true → (byCases cases act s).1 = s := by
  unfold byCases
  cases hc : firstCase cases with
  | some st => exact fun _ => rfl
  | none => exact h hc

/-- A status outside the refusal class is no refusal. -/
theorem eq_of_refusal {α : Type} {a b : α} {st : Status} (hst : st.isRefusal = false) (h : st.isRefusal = true) : a = b :=
  absurd (hst.symm.trans h) Bool.false_ne_true

theorem ownHello_refusal (p : Port) (r : Option Role) (s : State)
    (h : (ownHello p r s).2.status.isRefusal = true) : (ownHello p r s).1 = s := by
  unfold ownHello at h ⊢
  cases r with
  | none => rfl
  | some r =>
      dsimp only at h ⊢
      split at h
      · next hr => rw [if_pos hr]
      · next hr =>
        rw [if_neg hr]
        cases hst : (s.port p).state with
        | silent => rw [hst] at h; exact eq_of_refusal rfl h
        | online => rfl
        | lapsed =>
            rw [hst] at h
            dsimp only at h ⊢
            split at h
            · exact eq_of_refusal rfl h
            · next hm => rw [if_neg hm]

theorem ownArcStart_refusal (p : Port) (n : Nat) (s : State) :
    (ownArcStart p n s).2.status.isRefusal = true → (ownArcStart p n s).1 = s := by
  refine byCases_refusal fun _ h => ?_
  split at h
  · rfl
  · refine eq_of_refusal ?_ h
    simp only [State.startAnswer]
    split_ifs <;> rfl

theorem ownArcOff_refusal (p : Port) (o : Option ArcOutcome) (s : State)
    (h : (ownArcOff p o s).2.status.isRefusal = true) : (ownArcOff p o s).1 = s := by
  unfold ownArcOff at h ⊢
  cases o with
  | none => rfl
  | some o =>
      cases hst : (s.torch p).state with
      | idle => rfl
      | waiting | starting | burning | dropped => simp only [hst] at h; exact eq_of_refusal rfl h

theorem ownLogTake_refusal (b n : Nat) (s : State) :
    (ownLogTake b n s).2.status.isRefusal = true → (ownLogTake b n s).1 = s := by
  refine byCases_refusal fun _ h => ?_
  dsimp only at h ⊢
  split at h
  · next he => rw [if_pos he]
  · refine eq_of_refusal ?_ h
    dsimp only
    split_ifs <;> rfl

theorem Plate.exists_of_isResting {r : Plate} (h : r.isResting = true) : ∃ z ox oy t, r.location = .resting z ox oy t := by
  unfold Plate.isResting at h
  split at h
  · next z ox oy t hloc => exact ⟨z, ox, oy, t, hloc⟩
  · exact absurd h Bool.false_ne_true

theorem ownRemnantDeclare_refusal (pl id x0 y0 x1 y1 : Nat) (s : State) :
    (ownRemnantDeclare pl id x0 y0 x1 y1 s).2.status.isRefusal = true → (ownRemnantDeclare pl id x0 y0 x1 y1 s).1 = s := by
  refine byCases_refusal fun hc h => ?_
  split at h
  · rfl
  · next r hr =>
    refine eq_of_refusal ?_ h
    have hstate := (firstCase_eq_none _).mp hc
      (r.isResting.not || decide (r.form = .skeleton) || (decide (r.kind = .remnant) && r.inParent), .state)
      (by simp [declareCases, hr])
    simp only [Bool.or_eq_false_iff, Bool.not_eq_false'] at hstate
    obtain ⟨z, ox, oy, t, hloc⟩ := Plate.exists_of_isResting hstate.1.1
    cases t <;> simp only [State.declareAnswer, Plate.remnantOf, hloc] <;> rfl

/-- An owner that answers with a status of the refusal class has changed nothing. -/
theorem ownAct_refusal (i : Instr) (s : State) (h : (ownAct i s).2.status.isRefusal = true) : (ownAct i s).1 = s := by
  cases i with
  | zoneSet | zoneClear | zoneService | zoneUsedClear | bedBind | bedUnbind | plateRegister | platePartsReplace
  | platePartsAppend | plateFinish | plateDrop | jobResume | spanClear | retarget | remnantRelease
  | logClearLost | configStore | restart => exact byCases_refusal (fun _ => eq_of_refusal rfl) h
  | zoneRead | jobList | remnantList | logRead => exact byCases_refusal (fun _ _ => rfl) h
  | hello p _ r => exact ownHello_refusal p r s h
  | arcStart p _ n => exact ownArcStart_refusal p n s h
  | arcOff p _ o => exact ownArcOff_refusal p o s h
  | logTake _ _ b n => exact ownLogTake_refusal b n s h
  | keepalive | alertClearAll | causeRead => exact eq_of_refusal rfl h
  | jobAdd =>
      refine byCases_refusal (fun _ h => eq_of_refusal ?_ h) h
      dsimp only
      split_ifs <;> rfl
  | paramSet =>
      refine byCases_refusal (fun _ h => eq_of_refusal ?_ h) h
      dsimp only
      split_ifs <;> rfl
  | plateRegisterOnHook | jobReturn | lift =>
      refine byCases_refusal (fun _ h => ?_) h
      split at h
      · rfl
      · exact eq_of_refusal rfl h
  | jobTake | liftAbort =>
      refine byCases_refusal (fun _ h => ?_) h
      dsimp only at h ⊢
      split at h
      · rfl
      · exact eq_of_refusal rfl h
  | setDown =>
      refine byCases_refusal (fun _ h => ?_) h
      dsimp only at h ⊢
      split at h
      · rfl
      · split_ifs at h
        · exact eq_of_refusal rfl h
        · exact eq_of_refusal rfl h
  | remnantDeclare _ _ pl id x0 y0 x1 y1 => exact ownRemnantDeclare_refusal pl id x0 y0 x1 y1 s h
  | remnantFit =>
      refine byCases_refusal (fun _ h => ?_) h
      dsimp only at h ⊢
      split at h
      · rfl
      · refine eq_of_refusal ?_ h
        dsimp only
        split_ifs <;> rfl
  | jobCancel =>
      refine byCases_refusal (fun _ h => ?_) h
      split at h
      · rfl
      · split at h <;> exact eq_of_refusal rfl h
  | alertClear _ _ c =>
      cases c with
      | none => rfl
      | some c => exact byCases_refusal (fun _ => eq_of_refusal rfl) h
  | portRestore _ _ n =>
      change (ownPortRestore n s).2.status.isRefusal = true at h
      change (ownPortRestore n s).1 = s
      unfold ownPortRestore at h ⊢
      split at h
      · rfl
      · split_ifs at h ⊢
        · exact eq_of_refusal rfl h
        · rfl
  | hallRestore =>
      change (ownHallRestore s).2.status.isRefusal = true at h
      change (ownHallRestore s).1 = s
      unfold ownHallRestore at h ⊢
      split_ifs at h ⊢
      · rfl
      · exact eq_of_refusal rfl h
  | arcEstablished p =>
      change (ownArcEstablished p s).2.status.isRefusal = true at h
      change (ownArcEstablished p s).1 = s
      unfold ownArcEstablished at h ⊢
      split at h
      · exact eq_of_refusal rfl h
      all_goals rfl
  | spanSet p _ lo hi =>
      change (ownSpanSet p lo hi s).2.status.isRefusal = true at h
      change (ownSpanSet p lo hi s).1 = s
      unfold ownSpanSet at h ⊢
      split at h
      · rfl
      · exact eq_of_refusal rfl h
  | alertAckOldest =>
      change (ownAlertAckOldest s).2.status.isRefusal = true at h
      change (ownAlertAckOldest s).1 = s
      unfold ownAlertAckOldest at h ⊢
      split at h
      · rfl
      · exact eq_of_refusal rfl h
  | _ => rfl

/-! ## The reply in the slot -/

/-- A port's link once its request has been answered: the reply in the slot, the flag reported and cleared, the buffer as it was. -/
theorem State.link_answered (s : State) (p : Port) (tag : Byte) (st : Status) (d : ReplyData) :
    ((s.answered p tag st d).link p).slot = some ⟨tag, st, (s.link p).lost, d⟩
      ∧ ((s.answered p tag st d).link p).lost = false ∧ ((s.answered p tag st d).link p).buffer = (s.link p).buffer := by
  simp [State.answered, State.reply, State.link_setLink, Link.choose_eq, Link.answer]

/-- A heard request leaves one reply with its tag, whatever its end. -/
theorem reply_of_listens {i : Instr} {p : Port} {tag : Byte} {s : State} (hi : requestOf i = some (p, tag))
    (hl : s.listens p) : ∃ t r, exec i s = .next t ∧ (t.link p).slot = some r ∧ r.tag = tag
      ∧ (r.status ≠ .early → (t.link p).lost = false) ∧ (t.link p).buffer = []
      ∧ ((s.link p).lost = true → r.noticesLost = true)
      ∧ (r.status.isRefusal = true → t = s.answered p tag r.status r.data) := by
  obtain ⟨hheld, hslot, hbuffer⟩ := id hl
  rw [exec_of_listens hi hl]
  obtain ⟨st, -, h⟩ | ⟨-, h⟩ | ⟨-, -, -, h⟩ := serve_cases hi s
  · obtain ⟨hs, hlost, hb⟩ := s.link_answered p tag st .nothing
    rw [h]
    exact ⟨_, _, rfl, hs, rfl, fun _ => hlost, hb.trans hbuffer, id, fun _ => rfl⟩
  · obtain ⟨hs, hlost, hb⟩ := (ownAct i s).1.link_answered p tag (ownAct i s).2.status (ownAct i s).2.data
    obtain ⟨-, hbuf, hflag⟩ := (noticed_noticesKeep s).own i (State.Noticed.refl s) p
    rw [h]
    refine ⟨_, _, rfl, hs, rfl, fun _ => hlost, (hb.trans hbuf).trans hbuffer, hflag, fun href => ?_⟩
    rw [ownAct_refusal i s href]
    rfl
  · obtain ⟨hs, hbuf, -⟩ := (noticed_noticesKeep (s.reply p tag ⟨.early, .nothing⟩)).changes.lapse p (State.Noticed.refl _) p
    rw [h]
    refine ⟨_, ⟨tag, .early, (s.link p).lost, .nothing⟩, rfl, ?_, rfl, fun hne => absurd rfl hne, ?_, id, nofun⟩
    · rw [State.link_settle, Link.choose_eq]
      exact hs.trans (by simp [State.reply, State.link_setLink, Link.answer])
    · rw [State.link_settle, Link.choose_eq]
      exact hbuf.trans (by simp [State.reply, State.link_setLink, Link.answer, hbuffer])

theorem Status.isRefusal_iff (st : Status) : st.isRefusal = true ↔ 0x10 ≤ (byteOf st.value).toNat := by
  cases st <;> decide

/-- Settles O11: the three ends of a request each leave one reply, and an owner that refuses has changed nothing. -/
theorem takenRequestGetsOneReply : Obligations.TakenRequestGetsOneReply := by
  unfold Obligations.TakenRequestGetsOneReply
  intro i p tag s hi hl
  obtain ⟨t, r, hexec, hslot, htag, hlost, hbuffer, hflag, hrefusal⟩ := reply_of_listens hi hl
  refine ⟨t, r, hexec, hslot, htag, hlost, hbuffer, hflag, hrefusal, rfl, htag,
    ⟨byteOf r.status.value, ?_, r.status.isRefusal_iff, ?_⟩, fun reason place q c hd => ⟨byteOf reason.code, ?_, ?_⟩⟩
  · cases r.status <;> decide
  · simp only [Reply.frame, Reply.body, Reply.head, flagBit, List.cons_append, List.nil_append]
    split_ifs <;> rfl
  · cases reason <;> decide
  · simp only [Reply.frame, Reply.body, Reply.head, hd, ReplyData.bytes, List.cons_append, List.nil_append]
    rfl

end Sys2Proof.Machine
end

section
/-! The zone table's requests (R11 to R13) and the placement test (R27). -/

namespace Sys2Proof.Machine

open Sys2Proof

/-! ## ZONE-SET, its tests spelled by the operands -/

theorem ZoneWrite.kind_eq_some {w : ZoneWrite} {k : ZoneKind} (hk : k ≠ .none) :
    w.kind = some k ↔ w.kind.getD .none = k := by
  cases w.kind with
  | none => simp [hk.symm]
  | some k' => simp

theorem badPlace_iff (w : ZoneWrite) (d : ZoneDesc) :
    badPlace w = true ↔ 250000 ≤ w.originX ∨ 48000 ≤ w.originY ∨ w.extX = 0 ∨ w.extY = 0 ∨ 65535 < w.extX
      ∨ 65535 < w.extY ∨ (writtenDesc w d).rect.within hallRect = false := by
  simp only [badPlace, Bool.or_eq_true, decide_eq_true_eq, Bool.not_eq_true', or_assoc]
  rfl

theorem badRights_iff (w : ZoneWrite) :
    badRights w = true ↔ 16 < w.capacity
      ∨ (w.kind.getD .none = .keepout ∧ (w.capacity ≠ 0 ∨ w.bind = true ∨ w.lift = true ∨ w.place = true ∨ w.pass = true))
      ∨ (w.kind.getD .none ≠ .bed ∧ w.bind = true) := by
  simp only [badRights, Bool.or_eq_true, Bool.and_eq_true, decide_eq_true_eq, or_assoc, ne_eq,
    ZoneWrite.kind_eq_some (k := .keepout) nofun, ZoneWrite.kind_eq_some (k := .bed) nofun]
  rfl

theorem State.restingCount_ne_zero (s : State) (z : Nat) : s.restingCount z ≠ 0 ↔ s.restingIn z ≠ [] := by
  rw [State.restingCount, ne_eq, List.length_eq_zero_iff]

theorem State.zoneInUse_iff (s : State) (z : Nat) :
    s.zoneInUse z = true ↔ s.restingIn z ≠ [] ∨ (s.table z).jobs ≠ [] ∨ s.targeted z = true ∨ s.bindersOf z ≠ []
      ∨ (s.log z).records ≠ [] := by
  simp only [State.zoneInUse, Bool.or_eq_true, decide_eq_true_eq, Bool.not_eq_true', List.isEmpty_eq_false_iff, State.restingCount_ne_zero,
    or_assoc]

theorem State.bedCount_eq (s : State) : s.bedCount = s.zones.toList.countP fun e => e.desc.kind = .bed :=
  List.countP_eq_length_filter.symm

/-! ## The requests -/

/-- R39, R127: where the entry starts or stops being BED its table and its log are made anew. -/
theorem State.remakeBed_eq (s : State) (z : Nat) (old new : ZoneKind) :
    s.remakeBed z old new = { s with
      tables := if (decide (old = .bed) != decide (new = .bed)) = true then s.tables.setIfInBounds z .fresh else s.tables
      logs := if (decide (old = .bed) != decide (new = .bed)) = true then s.logs.setIfInBounds z .fresh else s.logs } := by
  unfold State.remakeBed
  by_cases h : decide (old = .bed) = decide (new = .bed)
  · simp [h]
  · simp only [if_neg h, bne_iff_ne.mpr h, if_pos]
    rfl

/-- R11, R12: a heard ZONE-SET. -/
theorem exec_zoneSet {s : State} {p : Port} (tag : Byte) (w : ZoneWrite) (h : s.hears p [.planning]) :
    exec (.zoneSet p tag w) s = .next ((firstCase (zoneSetCases w s)).elim
      (State.answered p tag .ok (.rect (writtenDesc w (s.desc w.zone)).rect)
        (((s.setZone w.zone ⟨writtenDesc w (s.desc w.zone),
            if (s.desc w.zone).kind = .none then false else (s.zone w.zone).used⟩).remakeBed w.zone
          (s.desc w.zone).kind (w.kind.getD .none)).staleBindings w.zone))
      fun st => s.answered p tag st .nothing) :=
  exec_of_cases rfl rfl rfl rfl h.1 (State.admission_of_hears h)

/-- R13: a heard ZONE-CLEAR. -/
theorem exec_zoneClear {s : State} {p : Port} (tag : Byte) (z : Nat) (h : s.hears p [.planning]) :
    exec (.zoneClear p tag z) s = .next ((firstCase (zoneClearCases z s)).elim
      (State.answered p tag .ok .nothing ((s.setZone z .empty).remakeBed z (s.desc z).kind .none))
      fun st => s.answered p tag st .nothing) :=
  exec_of_cases rfl rfl rfl rfl h.1 (State.admission_of_hears h)

/-- Settles O30: the ten cases read in order, then the entry, its flags and a new bed's table and log. -/
theorem zoneSetWritesEntry : Obligations.ZoneSetWritesEntry := by
  intro s p tag w h z old kind new makes
  have hnew : writtenDesc w old = new := by
    simp only [writtenDesc, new, kind, ZoneDesc.mk.injEq, true_and]
    split_ifs with hk <;> simp [hk]
  have hused : (if old.kind = .none then false else (s.zone z).used) = (decide (old.kind ≠ .none) && (s.zone z).used) := by
    split_ifs with hk <;> simp [hk]
  rw [exec_zoneSet tag w h, zoneSetCases, elim_firstCase_append, elim_firstCase_zoneCases]
  simp only [elim_firstCase_cons, elim_firstCase_nil, decide_eq_true_eq, badPlace_iff w old, badRights_iff,
    State.zoneInUse_iff, State.bedCount_eq, ZoneWrite.kind_eq_some (k := .bed) nofun, State.remakeBed_eq]
  rw [hused, hnew]
  rfl

/-- Settles O32: the five OCCUPIED cases are one, and a bed's table and log go with its entry. -/
theorem zoneClearEmptiesEntry : Obligations.ZoneClearEmptiesEntry := by
  intro s p tag z h
  rw [exec_zoneClear tag z h, zoneClearCases, elim_firstCase_append, elim_firstCase_zoneCases]
  simp only [elim_firstCase_cons, elim_firstCase_nil, decide_eq_true_eq, Bool.not_eq_true', List.isEmpty_eq_false_iff, State.restingCount_ne_zero,
    State.remakeBed_eq, ite_or, reduceCtorEq, decide_false, Bool.bne_false]
  rfl

/-! ## The placement test -/

/-- R27 step 4: a record rests in the zone, is not exempt, and meets the footprint. -/
theorem State.overlaps_iff {s : State} {r : Plate} {z ox oy : Nat} {t : Turn} :
    s.overlaps r z ox oy t = true ↔ ∃ q ∈ s.records, q.restsIn z = true ∧ exemptPair r q = false
      ∧ ∃ g, s.hallFootprint q = some g ∧ g.intersects (s.footprintAt r z ox oy t) = true := by
  simp only [State.overlaps, State.restingIn, List.any_eq_true, List.mem_filter, Bool.and_eq_true, Bool.not_eq_true',
    Option.any_eq_true, and_assoc]

/-- Settles O36: the table is the rule's, and its last case a search of the register. -/
theorem placementTestOrder : Obligations.PlacementTestOrder := by
  intro s r z ox oy t
  simp only [placementCases, List.cons_append, List.nil_append, firstCase_cons, firstCase_nil, decide_eq_true_eq,
    Bool.not_eq_true', State.overlaps_iff]
  rfl

end Sys2Proof.Machine
end

section
/-! PLATE-REGISTER, of a resting record and on a hook (R29, R30). -/

namespace Sys2Proof.Machine

open Sys2Proof

/-! ## The tests both forms share -/

/-- R29 step 4: the fields outside their values. -/
theorem badFields_iff (w : PlateWrite) :
    badFields w = true ↔ w.kind = none ∨ w.form = none ∨ w.turn = none ∨ 63 < w.grade ∨ w.thickness < 3
      ∨ 150 < w.thickness ∨ w.length < 100 ∨ 24000 < w.length ∨ w.width < 100 ∨ 4500 < w.width
      ∨ (w.kind = some .remnant ∧ (w.parent = 0 ∨ 2147483647 < w.parent ∨ w.parent = w.id))
      ∨ (w.kind = some .plate ∧ (w.parent ≠ 0 ∨ w.claim = true)) := by
  simp only [badFields, Bool.or_eq_true, decide_eq_true_eq, Option.isNone_iff_eq_none]
  cases hk : w.kind with
  | none => simp
  | some k =>
    cases k with
    | plate =>
      simp only [Bool.or_eq_true, decide_eq_true_eq, reduceCtorEq, false_or, true_and]
      tauto
    | remnant =>
      simp only [Bool.or_eq_true, decide_eq_true_eq, reduceCtorEq, false_or, true_and]
      simp only [Config.maxId]
      tauto

/-- R29 step 5: more than 12 entries, an entry outside its values, or a number twice. -/
theorem not_listTest_iff (form : Form) (length width : Nat) (l : List PartWrite) :
    (!listTest form length width [] l) = true ↔
      12 < l.length ∨ (∃ e ∈ l, entryValid form length width e = false) ∨ ¬(l.map (·.number)).Nodup := by
  rw [Bool.not_eq_true', Bool.eq_false_iff, ne_eq, listTest_iff]
  simp only [List.nil_append, not_and_or, not_le, not_forall, exists_prop, Bool.not_eq_true]

theorem elim_firstCase_registerCases {α : Type} (done : α) (refused : Status → α) (w : PlateWrite) (s : State) :
    (firstCase (registerCases w s)).elim done refused =
      if w.id = 0 ∨ 2147483647 < w.id then refused .range
      else if s.record w.id ≠ none then refused .duplicate
      else if 128 ≤ s.records.length then refused .full
      else if badFields w = true then refused .range
      else if 32 < w.parts.length then refused .full
      else if 12 < w.parts.length ∨ (∃ e ∈ w.parts, entryValid (w.form.getD .whole) w.length w.width e = false)
          ∨ ¬(w.parts.map (·.number)).Nodup then refused .range
      else done := by
  simp only [registerCases, elim_firstCase_cons, elim_firstCase_nil, decide_eq_true_eq, not_listTest_iff,
    Option.isSome_iff_ne_none]
  rfl

/-! ## PLATE-REGISTER of a resting record -/

/-- R29: a heard PLATE-REGISTER. -/
theorem exec_plateRegister {s : State} {p : Port} (tag : Byte) (w : PlateWrite) (z ox oy : Nat) (h : s.hears p [.planning]) :
    exec (.plateRegister p tag w z ox oy) s = .next ((firstCase (plateRegisterCases w z ox oy s)).elim
      (State.answered p tag .ok
        (.rect (s.footprintAt (writtenPlate w (.resting z ox oy (w.turn.getD .deg0))) z ox oy (w.turn.getD .deg0)))
        ((s.addRecord (writtenPlate w (.resting z ox oy (w.turn.getD .deg0)))).setUsed z true))
      fun st => s.answered p tag st .nothing) :=
  exec_of_cases rfl rfl rfl rfl h.1 (State.admission_of_hears h)

theorem Option.not_any {α : Type} (o : Option α) (f : α → Bool) : (!o.any f) = o.all fun a => !f a := by
  cases o <;> rfl

/-- Settles O35: the twelve cases read in order, and the record in its place by id. -/
theorem plateRegisterRestsRecord : Obligations.PlateRegisterRestsRecord := by
  refine ⟨fun s r hr => hr.split r, ?_⟩
  intro s p tag w z ox oy h t f r
  rw [exec_plateRegister tag w z ox oy h, plateRegisterCases, elim_firstCase_append, elim_firstCase_append,
    elim_firstCase_append, elim_firstCase_append, elim_firstCase_registerCases, elim_firstCase_zoneCases]
  simp only [placementCases, claimCases, elim_firstCase_cons, elim_firstCase_nil, badFields_iff, Bool.and_eq_true,
    decide_eq_true_eq, Bool.not_eq_true', State.overlaps_iff, Option.isNone_iff_eq_none, Option.not_any, Bool.decide_or,
    Bool.decide_eq_false, Option.any_eq_true, Bool.or_eq_true]
  rfl

/-! ## PLATE-REGISTER on a hook -/

theorem State.cranePort_of_lt {s : State} {n : Nat} (h : 5 < n) : s.cranePort n = none := by
  simp [State.cranePort, portOf, show ¬n < 6 by omega]

/-- R143: P1 to P5 are the ports a crane may have. -/
theorem State.cranePort_val (s : State) (q : Port) :
    s.cranePort q.val = if q = 0 ∨ s.role q ≠ .crane then none else some q := by
  rw [State.cranePort, portOf, dif_pos q.isLt, Option.filter_some]
  by_cases h0 : q = 0
  · simp [h0]
  · by_cases hr : s.role q = .crane <;> simp [h0, hr]

/-- R30: a heard PLATE-REGISTER whose operand names no crane port. -/
theorem exec_plateRegisterOnHook_of_none {s : State} {p : Port} (tag : Byte) (w : PlateWrite) {n : Nat}
    (h : s.hears p [.planning]) (hn : s.cranePort n = none) :
    exec (.plateRegisterOnHook p tag w n) s = .next ((firstCase (plateRegisterOnHookCases w n s)).elim
      (s.answered p tag .range .nothing) fun st => s.answered p tag st .nothing) :=
  exec_of_cases rfl rfl rfl (by simp only [hn]; rfl) h.1 (State.admission_of_hears h)

/-- R30: a heard PLATE-REGISTER onto the hook of a crane port. -/
theorem exec_plateRegisterOnHook {s : State} {p q : Port} (tag : Byte) (w : PlateWrite) {n : Nat}
    (h : s.hears p [.planning]) (hn : s.cranePort n = some q) :
    exec (.plateRegisterOnHook p tag w n) s = .next ((firstCase (plateRegisterOnHookCases w n s)).elim
      (State.answered p tag .ok (.rect (spanRect ((s.crane q).span.getD (0, 0))))
        ((s.addRecord (writtenPlate w (.onHook q))).setCrane q { s.crane q with
          hook := some w.id, corridor := some (spanRect ((s.crane q).span.getD (0, 0))), target := 0, targets := [],
          origin := .nowhere }))
      fun st => s.answered p tag st .nothing) :=
  exec_of_cases rfl rfl rfl (by simp only [hn]; rfl) h.1 (State.admission_of_hears h)

/-- R30 step 4: in the hook form a claim is outside its values as well. -/
theorem badFields_or_claim_iff (w : PlateWrite) :
    (badFields w || w.claim) = true ↔ w.kind = none ∨ w.form = none ∨ w.turn = none ∨ w.claim = true ∨ 63 < w.grade
      ∨ w.thickness < 3 ∨ 150 < w.thickness ∨ w.length < 100 ∨ 24000 < w.length ∨ w.width < 100 ∨ 4500 < w.width
      ∨ (w.kind = some .remnant ∧ (w.parent = 0 ∨ 2147483647 < w.parent ∨ w.parent = w.id))
      ∨ (w.kind = some .plate ∧ w.parent ≠ 0) := by
  rw [Bool.or_eq_true, badFields_iff]
  by_cases hc : w.claim = true
  · simp only [hc, or_true, true_or]
  · simp only [hc, Bool.false_eq_true, or_false, false_or]

/-- R30 steps 1 to 6, with what follows them; a record that passes them claims no place in its parent. -/
theorem elim_firstCase_plateRegisterOnHookCases {α : Type} (done : α) (refused : Status → α) (w : PlateWrite) (n : Nat)
    (s : State) {rest : α} (hrest : w.claim = false →
      (firstCase [(((s.cranePort n).map s.crane).isNone, .range),
        (((s.cranePort n).map s.crane).any (·.hook.isSome), .busy),
        (((s.cranePort n).map s.crane).any (·.span.isNone), .span),
        (((s.cranePort n).map s.crane).any (fun c => c.span.any fun sp => s.overHotBed (spanRect sp)), .hot)]).elim
        done refused = rest) :
    (firstCase (plateRegisterOnHookCases w n s)).elim done refused =
      if w.id = 0 ∨ 2147483647 < w.id then refused .range
      else if s.record w.id ≠ none then refused .duplicate
      else if 128 ≤ s.records.length then refused .full
      else if (badFields w || w.claim) = true then refused .range
      else if 32 < w.parts.length then refused .full
      else if 12 < w.parts.length ∨ (∃ e ∈ w.parts, entryValid (w.form.getD .whole) w.length w.width e = false)
          ∨ ¬(w.parts.map (·.number)).Nodup then refused .range
      else rest := by
  by_cases hc : w.claim = true
  · simp only [plateRegisterOnHookCases, elim_firstCase_cons, elim_firstCase_nil, decide_eq_true_eq, hc, Bool.or_true,
      if_pos, Option.isSome_iff_ne_none]
    rfl
  · rw [← hrest (Bool.not_eq_true _ ▸ hc)]
    simp only [plateRegisterOnHookCases, elim_firstCase_cons, elim_firstCase_nil, decide_eq_true_eq, not_listTest_iff,
      Option.isSome_iff_ne_none]
    rfl

/-- Settles O37: six cases on the record, then the crane's, by its port, its hook and its span. -/
theorem plateRegisterOnHookLoadsCrane : Obligations.PlateRegisterOnHookLoadsCrane := by
  intro s p tag w h tested
  have htested (t : State) (n : Nat) (done : State) (ht : w.claim = false → _) :
      (firstCase (plateRegisterOnHookCases w n s)).elim done (fun st => s.answered p tag st .nothing) = tested t :=
    (elim_firstCase_plateRegisterOnHookCases done _ w n s ht).trans (by simp only [badFields_or_claim_iff]; rfl)
  refine ⟨fun n hn => ?_, fun q => ?_⟩
  · have hnone := State.cranePort_of_lt (s := s) hn
    rw [exec_plateRegisterOnHook_of_none tag w h hnone]
    exact congrArg _ (htested _ _ _ fun _ => by simp [hnone, elim_firstCase_cons])
  · have hport := s.cranePort_val q
    by_cases hbad : q = 0 ∨ s.role q ≠ .crane
    · rw [if_pos hbad] at hport ⊢
      rw [exec_plateRegisterOnHook_of_none tag w h hport]
      exact congrArg _ (htested _ _ _ fun _ => by simp [hport, elim_firstCase_cons])
    · rw [if_neg hbad] at hport ⊢
      rw [exec_plateRegisterOnHook tag w h hport]
      refine congrArg _ (htested _ _ _ fun hc => ?_)
      simp only [hport, Option.map_some, Option.any_some, Option.isNone_some, elim_firstCase_cons, elim_firstCase_nil,
        Bool.false_eq_true, if_false, Option.isSome_iff_ne_none]
      cases hsp : (s.crane q).span with
      | none => rfl
      | some sp =>
        simp only [Option.isNone_some, Bool.false_eq_true, if_false, Option.any_some, State.overHotBed_iff,
          Option.getD_some, writtenPlate, hc]
        rfl

end Sys2Proof.Machine
end

section
/-! Remnants in the index (R115, R116, R119, R120, R123), the alert list (R138, R139), and the store, RESTART and CAUSE-READ
(R174 to R177). -/

namespace Sys2Proof.Machine

open Sys2Proof

/-! ## The remnant index -/

theorem indexLe_iff (a b : Plate) : indexLe a b = true ↔ a.grade < b.grade ∨ (a.grade = b.grade
    ∧ (a.thickness < b.thickness ∨ (a.thickness = b.thickness ∧ (a.length * a.width < b.length * b.width
      ∨ (a.length * a.width = b.length * b.width ∧ a.id ≤ b.id))))) := by
  unfold indexLe
  split_ifs with hg ht ha
  · rw [decide_eq_true_eq]
    exact ⟨.inl, fun h => h.resolve_right fun h => hg h.1⟩
  · rw [not_not] at hg
    rw [decide_eq_true_eq]
    omega
  · rw [decide_eq_true_eq, Plate.area, Plate.area] at *
    omega
  · rw [decide_eq_true_eq]
    simp only [Plate.area, not_not] at ha
    omega

theorem indexLe_pairwise (l : List Plate) : (l.insertionSort fun a b => indexLe a b = true).Pairwise
    fun a b => indexLe a b = true := by
  have htotal : Std.Total fun a b : Plate => indexLe a b = true := ⟨fun a b => by simp only [indexLe_iff]; omega⟩
  have htrans : IsTrans Plate fun a b => indexLe a b = true := ⟨fun a b c => by simp only [indexLe_iff]; omega⟩
  exact List.pairwise_insertionSort _ l

theorem State.mem_remnantIndex {s : State} {r : Plate} :
    r ∈ s.remnantIndex ↔ r ∈ s.records ∧ r.kind = .remnant ∧ r.form = .whole ∧ r.parts = []
      ∧ ∃ z ox oy t, r.location = .resting z ox oy t := by
  have hrest : r.isResting = true ↔ ∃ z ox oy t, r.location = .resting z ox oy t := by
    refine ⟨Plate.exists_of_isResting, fun ⟨z, ox, oy, t, hloc⟩ => ?_⟩
    rw [Plate.isResting, hloc]
  rw [State.remnantIndex, List.mem_insertionSort, List.mem_filter, Plate.isMember]
  simp only [Bool.and_eq_true, decide_eq_true_eq, List.isEmpty_iff, hrest, and_assoc]

/-! ## REMNANT-FIT and REMNANT-RELEASE -/

theorem countP_held (l : List Plate) : (l.filter (·.hold.isSome)).length = l.countP fun r => r.hold ≠ none := by
  rw [← List.countP_eq_length_filter]
  exact List.countP_congr fun r _ => by rw [decide_eq_true_eq, Option.isSome_iff_ne_none]

theorem Plate.orientation_isSome {r : Plate} {needL needW : Nat} :
    (r.orientation needL needW).isSome = true ↔ (needL ≤ r.length ∧ needW ≤ r.width) ∨ (needL ≤ r.width ∧ needW ≤ r.length) := by
  unfold Plate.orientation
  split_ifs with h1 h2
  · exact iff_of_true rfl (.inl h1)
  · exact iff_of_true rfl (.inr h2)
  · exact iff_of_false Bool.false_ne_true fun h => h.elim h1 h2

/-- R119: orientation 0 first. -/
theorem Plate.orientation_getD {r : Plate} {needL needW : Nat} (h : (r.orientation needL needW).isSome = true) :
    (r.orientation needL needW).getD .deg0 = if needL ≤ r.length ∧ needW ≤ r.width then .deg0 else .deg90 := by
  unfold Plate.orientation at h ⊢
  split_ifs at h ⊢
  · rfl
  · rfl
  · exact absurd h Bool.false_ne_true

/-- R119: the first member of a stock that is free and holds the need. -/
def State.fitting (s : State) (grade th needL needW : Nat) : Option Plate :=
  (s.stock grade th).find? fun r => r.hold.isNone && (r.orientation needL needW).isSome

/-- R119: a heard REMNANT-FIT that no member answers. -/
theorem exec_remnantFit_of_none {s : State} {p : Port} (tag : Byte) {grade th needL needW : Nat} (hold : Nat)
    (h : s.hears p [.planning]) (hfind : s.fitting grade th needL needW = none) :
    exec (.remnantFit p tag grade th needL needW hold) s = .next ((firstCase (fitCases grade th needL needW)).elim
      (s.answered p tag .none (.noFit (s.stock grade th).length ((s.stock grade th).filter (·.hold.isSome)).length))
      fun st => s.answered p tag st .nothing) := by
  rw [State.fitting] at hfind
  exact exec_of_cases rfl rfl rfl (by simp only [hfind]) h.1 (State.admission_of_hears h)

/-- R119, R120: a heard REMNANT-FIT that reserves a member. -/
theorem exec_remnantFit {s : State} {p : Port} (tag : Byte) {grade th needL needW : Nat} (hold : Nat) {r : Plate}
    (h : s.hears p [.planning]) (hfind : s.fitting grade th needL needW = some r) :
    exec (.remnantFit p tag grade th needL needW hold) s = .next ((firstCase (fitCases grade th needL needW)).elim
      (State.answered p tag (if hold ≠ 0 ∧ holdTaken hold ≠ hold then .clamped else .ok)
        (.fit (s.fitReport r ((r.orientation needL needW).getD .deg0) (holdTaken hold)))
        (s.setRecord r.id fun r => { r with hold := some (.start (holdTaken hold)) }))
      fun st => s.answered p tag st .nothing) := by
  rw [State.fitting] at hfind
  exact exec_of_cases rfl rfl rfl (by simp only [hfind]) h.1 (State.admission_of_hears h)

theorem elim_firstCase_fitCases {α : Type} (done : α) (refused : Status → α) (grade th needL needW : Nat) :
    (firstCase (fitCases grade th needL needW)).elim done refused =
      if 63 < grade ∨ th < 3 ∨ 150 < th ∨ needL = 0 ∨ 24000 < needL ∨ needW = 0 ∨ 24000 < needW then refused .range
      else done := by
  simp only [fitCases, elim_firstCase_cons, elim_firstCase_nil, decide_eq_true_eq, ite_or]

/-- R123: a heard REMNANT-RELEASE. -/
theorem exec_remnantRelease {s : State} {p : Port} (tag : Byte) (id : Nat) (h : s.hears p [.planning]) :
    exec (.remnantRelease p tag id) s = .next ((firstCase (remnantReleaseCases id s)).elim
      (State.answered p tag .ok .nothing (s.setRecord id fun r => { r with hold := none }))
      fun st => s.answered p tag st .nothing) :=
  exec_of_cases rfl rfl rfl rfl h.1 (State.admission_of_hears h)

/-- Settles O55: the index is sorted by `indexLe`, and the search of a stock is the rule's. -/
theorem fitsReserveAndReleaseFrees : Obligations.FitsReserveAndReleaseFrees := by
  intro s p tag
  refine ⟨fun r => State.mem_remnantIndex, ?_, fun h grade th needL needW hold => ?_, fun h id => ?_⟩
  · exact (indexLe_pairwise _).imp fun h => (indexLe_iff _ _).mp h
  · intro stock taken
    have hstock : s.stock grade th = stock := by simp only [State.stock, stock, Bool.decide_and]
    have hfind : s.fitting grade th needL needW = stock.find? fun r => r.hold = none
        ∧ ((needL ≤ r.length ∧ needW ≤ r.width) ∨ (needL ≤ r.width ∧ needW ≤ r.length)) := by
      rw [State.fitting, hstock]
      refine congrArg (stock.find? ·) (funext fun r => Bool.eq_iff_iff.mpr ?_)
      rw [Bool.and_eq_true, Plate.orientation_isSome, Option.isNone_iff_eq_none, decide_eq_true_eq]
    rw [← hfind]
    cases hf : s.fitting grade th needL needW with
    | none =>
      rw [exec_remnantFit_of_none tag hold h hf, elim_firstCase_fitCases, hstock, countP_held]
    | some r =>
      have hr := List.find?_some hf
      rw [Bool.and_eq_true] at hr
      rw [exec_remnantFit tag hold h hf, elim_firstCase_fitCases, Plate.orientation_getD hr.2]
      rfl
  · rw [exec_remnantRelease tag id h, remnantReleaseCases]
    simp only [elim_firstCase_cons, elim_firstCase_nil]
    cases s.record id with
    | none => rfl
    | some r => simp only [Option.isNone_some, Bool.false_eq_true, if_false, Option.any_some, Option.isNone_iff_eq_none]

/-! ## The alert list -/

/-- R136, section 7.6: the subjects a code may have. -/
theorem subjectValid_iff (c : AlertCode) (n : Nat) :
    subjectValid c n = true ↔ n ∈ (if c = .arcShed ∨ c = .startFail ∨ c = .portLapsed then List.range 6
      else if c = .jobOverdue ∨ c = .logHigh ∨ c = .logLost then List.range' 1 47 else [0]) := by
  cases c with
  | arcShed | startFail | portLapsed => simp [subjectValid, Nat.lt_succ_iff]
  | jobOverdue | logHigh | logLost =>
    simp only [subjectValid, Bool.and_eq_true, decide_eq_true_eq, reduceCtorEq, or_self, or_true, true_or, if_true,
      if_false, List.mem_range'_1]
    exact and_congr_right fun _ => Nat.lt_succ_iff.symm
  | feederSag | feederStale | hallStopped | configDefaulted | storeFailed => simp [subjectValid]

/-- R138: a heard ALERT-CLEAR of a known code. -/
theorem exec_alertClear {s : State} {p : Port} (tag : Byte) (c : AlertCode) (n : Nat) (h : s.hears p [.planning]) :
    exec (.alertClear p tag (some c) n) s = .next ((firstCase
        [(!subjectValid c n, .range), (!s.alerts.contains ⟨c, n⟩, .unknownId)]).elim
      (State.answered p tag .ok (.alertsLeft (s.alerts.erase ⟨c, n⟩).length) { s with alerts := s.alerts.erase ⟨c, n⟩ })
      fun st => s.answered p tag st .nothing) :=
  exec_of_cases (owner := ownAlertClear (some c) n) (act := fun s =>
    ({ s with alerts := s.alerts.erase ⟨c, n⟩ }, okWith (.alertsLeft (s.alerts.erase ⟨c, n⟩).length)))
    rfl rfl rfl rfl h.1 (State.admission_of_hears h)

/-- Settles O57. -/
theorem alertsAreCleared : Obligations.AlertsAreCleared := by
  intro s p tag h
  have hadmitted := State.admission_of_hears h
  refine ⟨fun n => exec_of_admitted (owner := ownAlertClear none n) rfl rfl h.1 hadmitted, fun c n => ?_, ?_,
    exec_of_admitted (owner := ownAlertClearAll) rfl rfl h.1 hadmitted⟩
  · intro subjects
    rw [exec_alertClear tag c n h]
    simp only [elim_firstCase_cons, elim_firstCase_nil, Bool.not_eq_true', Bool.eq_false_iff, ne_eq, subjectValid_iff,
      List.contains_iff_mem]
    by_cases hmem : (⟨c, n⟩ : Alert) ∈ s.alerts
    · rw [List.length_erase_of_mem hmem]
    · simp only [hmem, not_false_eq_true, if_true]
      rfl
  · rw [exec_of_admitted (owner := ownAlertAckOldest) rfl rfl h.1 hadmitted, ownAlertAckOldest]
    cases s.alerts <;> rfl

/-! ## The store, RESTART and the causes -/

/-- R174: a heard CONFIG-STORE. -/
theorem exec_configStore {s : State} {p : Port} (tag : Byte) (h : s.hears p [.planning]) :
    exec (.configStore p tag) s = .next ((firstCase [(decide (s.image.state = .writing), .busy)]).elim
      (State.answered p tag .pending .nothing { s with image := .writing s.configCopy })
      fun st => s.answered p tag st .nothing) :=
  exec_of_cases rfl rfl rfl rfl h.1 (State.admission_of_hears h)

/-- R176: a heard RESTART. -/
theorem exec_restart {s : State} {p : Port} (tag : Byte) (h : s.hears p [.planning]) :
    exec (.restart p tag) s = .next ((firstCase [(decide (s.image.state = .writing), .busy)]).elim
      (State.answered p tag .ok .nothing { s with restart := .replying })
      fun st => s.answered p tag st .nothing) :=
  exec_of_cases rfl rfl rfl rfl h.1 (State.admission_of_hears h)

theorem ImageStore.state_of_not_writing {image : ImageStore} (h : ∀ copy, image ≠ .writing copy) :
    image.state ≠ .writing := by
  cases image with
  | good | bad => nofun
  | writing copy => exact absurd rfl (h copy)

/-- R175: a store completion. -/
theorem exec_storeCompletion {s : State} (equal : Bool) (h : s.held = false) :
    exec (.storeCompletion equal) s = .next (storeCompletion equal s).settle := by
  rw [exec_of_event rfl rfl, h]
  rfl

/-- Settles O59: a store in flight makes both requests BUSY, and the copy is the configuration with its pending values in force. -/
theorem storeRestartAndCauses : Obligations.StoreRestartAndCauses := by
  intro s
  refine ⟨fun p tag h => ⟨?_, fun hidle => ?_, exec_of_admitted (owner := ownCauseRead) rfl rfl h.1
    (State.admission_of_hears h)⟩, fun hheld => ⟨fun copy hw => ?_, fun equal hidle => ?_⟩⟩
  · rintro ⟨copy, hw⟩
    rw [exec_configStore tag h, exec_restart tag h, hw]
    exact ⟨rfl, rfl⟩
  · have hstate := ImageStore.state_of_not_writing hidle
    rw [exec_configStore tag h, exec_restart tag h]
    simp only [elim_firstCase_cons, elim_firstCase_nil, decide_eq_true_eq, if_neg hstate]
    refine ⟨⟨s.configCopy, rfl, fun z => ?_, fun q => ?_, rfl⟩, trivial⟩
    · simp [State.configCopy, State.desc, State.zone]
    · simp [State.configCopy, Params.rolesApplied, Params.rateApplied, PortParams.applied, PortParams.nextRole,
        PortParams.nextSide, State.portParams, State.role]
  · rw [exec_storeCompletion true hheld, exec_storeCompletion false hheld, storeCompletion, storeCompletion, hw]
    exact ⟨rfl, rfl⟩
  · rw [exec_storeCompletion equal hheld, storeCompletion]
    split
    · next copy hw => exact absurd hw (hidle copy)
    · rfl
    · rfl

end Sys2Proof.Machine
end

section
/-! The ten reads (R10, R37, R58, R83, R109, R117, R133, R140, R158, R173). -/

namespace Sys2Proof.Machine

open Sys2Proof

/-! ## A read is answered by its owner -/

theorem mem_anyRole (r : Role) : r ∈ anyRole := by cases r <;> decide

/-- R145: every role passes the first test of a request open to any role. -/
theorem State.admission_anyRole {s : State} {p : Port} {offline : Bool}
    (h : offline = true ∨ (s.port p).state = .online) : s.admission p anyRole offline = none := by
  have hrole := mem_anyRole (s.role p)
  obtain rfl | h := h
  · simp [State.admission, hrole]
  · simp [State.admission, hrole, h]

/-- A request open to any role, whose owner leaves the state as it is, is answered with its report. -/
theorem exec_of_read {i : Instr} {p : Port} {tag : Byte} {offline : Bool} {owner : State → State × Answer} {s : State}
    {st : Status} {d : ReplyData} (hi : requestOf i = some (p, tag))
    (hserve : serve i s = s.take p tag anyRole offline owner) (hl : s.listens p)
    (honline : offline = true ∨ (s.port p).state = .online) (howner : owner s = (s, ⟨st, d⟩)) :
    exec i s = .next (s.answered p tag st d) := by
  rw [exec_of_admitted hi hserve hl (State.admission_anyRole honline), howner]

/-- The same, of an owner that refuses by a table. -/
theorem exec_of_read_cases {i : Instr} {p : Port} {tag : Byte} {owner : State → State × Answer} {cases : Cases}
    {act : State → State × Answer} {s : State} {d : ReplyData} (hi : requestOf i = some (p, tag))
    (hserve : serve i s = s.take p tag anyRole false owner) (howner : owner s = byCases cases act s)
    (hact : act s = (s, okWith d)) (hl : s.listens p) (honline : (s.port p).state = .online) :
    exec i s = .next ((firstCase cases).elim (s.answered p tag .ok d) fun st => s.answered p tag st .nothing) :=
  exec_of_cases hi hserve howner hact hl (State.admission_anyRole (.inr honline))

/-! ## LOG-READ: as many records as the body holds -/

theorem fitting_split {used n : Nat} {l : List LogRecord} (hlen : l.length ≤ n) (hused : used ≤ 200) :
    ∃ left, l = fitting used n l ++ left ∧ logBytes used (fitting used n l) ≤ 200
      ∧ ∀ r rest, left = r :: rest → 200 < logBytes used (fitting used n l) + r.size := by
  induction l generalizing used n with
  | nil =>
    refine ⟨[], ?_⟩
    cases n <;> exact ⟨rfl, hused, nofun⟩
  | cons x xs ih =>
    cases n with
    | zero => exact absurd hlen (Nat.not_succ_le_zero _)
    | succ n =>
      by_cases hx : used + x.size ≤ Config.maxBody
      · obtain ⟨left, hsplit, hfits, hmax⟩ := ih (Nat.le_of_succ_le_succ hlen) hx
        rw [fitting, if_pos hx]
        refine ⟨left, ?_, ?_, fun r rest h => ?_⟩
        · rw [List.cons_append, ← hsplit]
        · rwa [logBytes_cons]
        · rw [logBytes_cons]
          exact hmax r rest h
      · rw [fitting, if_neg hx]
        refine ⟨x :: xs, rfl, hused, fun r rest h => ?_⟩
        obtain ⟨rfl, -⟩ := List.cons.inj h
        exact not_le.mp hx

/-! ## PLATE-READ: the record of the next id -/

/-- The record of the least id of a list, the earliest of such. -/
theorem foldl_least {l : List Plate} {b : Plate} :
    ∃ m, l.foldl (fun best r => match best with
      | none => some r
      | some b => if r.id < b.id then some r else some b) (some b) = some m
      ∧ (m = b ∨ m ∈ l) ∧ m.id ≤ b.id ∧ ∀ q ∈ l, m.id ≤ q.id := by
  induction l generalizing b with
  | nil => exact ⟨b, rfl, .inl rfl, le_rfl, nofun⟩
  | cons r rest ih =>
    rw [List.foldl_cons]
    dsimp only
    split_ifs with hlt
    · obtain ⟨m, hm, hmem, hle, hall⟩ := ih (b := r)
      refine ⟨m, hm, .inr ?_, hle.trans hlt.le, List.forall_mem_cons.mpr ⟨hle, hall⟩⟩
      exact List.mem_cons.mpr hmem
    · obtain ⟨m, hm, hmem, hle, hall⟩ := ih (b := b)
      exact ⟨m, hm, hmem.imp_right (List.mem_cons_of_mem r), hle,
        List.forall_mem_cons.mpr ⟨hle.trans (not_lt.mp hlt), hall⟩⟩

theorem State.nextRecord_eq_none {s : State} {id : Nat} (h : ∀ q ∈ s.records, q.id ≤ id) : s.nextRecord id = none := by
  rw [State.nextRecord, List.filter_eq_nil_iff.mpr fun q hq => by simpa using h q hq]
  rfl

theorem State.RegisterLaw.nextRecord {s : State} (hreg : s.RegisterLaw) {id : Nat} {r : Plate} (hr : r ∈ s.records)
    (hid : id < r.id) (hleast : ∀ q ∈ s.records, id < q.id → r.id ≤ q.id) : s.nextRecord id = some r := by
  unfold State.nextRecord
  have hmem : r ∈ s.records.filter fun q => decide (id < q.id) := List.mem_filter.mpr ⟨hr, decide_eq_true hid⟩
  have hsub {q : Plate} (hq : q ∈ s.records.filter fun q => decide (id < q.id)) : q ∈ s.records ∧ id < q.id := by
    simpa using List.mem_filter.mp hq
  generalize hl : s.records.filter (fun q => decide (id < q.id)) = l at hmem hsub
  cases l with
  | nil => cases hmem
  | cons b rest =>
    obtain ⟨m, hm, hml, hle, hall⟩ := foldl_least (l := rest) (b := b)
    have hml' := hsub (List.mem_cons.mpr hml)
    have hmr : m.id ≤ r.id := (List.forall_mem_cons (p := fun q => m.id ≤ q.id)).mpr ⟨hle, hall⟩ r hmem
    rw [List.foldl_cons]
    exact hm.trans (congrArg some (hreg.eq_of_id hml'.1 hr (hmr.antisymm (hleast m hml'.1 hml'.2))))

/-! ## PARAM-READ -/

/-- R173: a known code is answered from its first index on, where that is within its range. -/
theorem exec_paramRead {s : State} {p : Port} (tag : Byte) {code lo hi : Nat} {c : ParamCode} (i : Nat)
    {value : Nat → Nat} {pending : Nat → Option Nat} (hl : s.listens p) (honline : (s.port p).state = .online)
    (hcode : paramCodeOf code = some c) (hrange : indexRange c = (lo, hi))
    (hreport : ∀ k, lo ≤ k → k ≤ hi → paramReport s.params c k = ⟨k, value k, pending k⟩) :
    if lo ≤ i ∧ i ≤ hi then exec (.paramRead p tag code i) s = .next (s.answered p tag .ok (.params
        ((List.range' i (min 12 (hi + 1 - i))).map fun k => ⟨k, value k, pending k⟩) s.image.state))
      else exec (.paramRead p tag code i) s = .next (s.answered p tag .range .nothing) := by
  split_ifs with hi'
  · refine exec_of_read (owner := ownParamRead code i) rfl rfl hl (.inr honline) ?_
    have hmap : (List.range' i (min Config.maxParamRead (hi + 1 - i))).map (paramReport s.params c)
        = (List.range' i (min 12 (hi + 1 - i))).map fun k => ⟨k, value k, pending k⟩ := by
      refine List.map_congr_left fun k hk => ?_
      rw [List.mem_range'_1] at hk
      exact hreport k (by omega) (by omega)
    simp only [ownParamRead, hcode, hrange, if_neg (show ¬(i < lo ∨ hi < i) by omega), hmap]
    rfl
  · refine exec_of_read (owner := ownParamRead code i) rfl rfl hl (.inr honline) ?_
    simp only [ownParamRead, hcode, hrange, if_pos (show i < lo ∨ hi < i by omega)]
    rfl

theorem paramCodeOf_eq_none {code : Nat} (h : code = 0 ∨ 0x0F < code) : paramCodeOf code = none := by
  unfold paramCodeOf
  split
  case h_16 => rfl
  all_goals omega

/-! ## The tables of the other reads -/

theorem elim_firstCase_bedCases_append {α : Type} (done : α) (refused : Status → α) (s : State) {b : Nat} (hb : b ≠ 0)
    (big : Bool) :
    (firstCase (bedCases s b ++ [(big, .range)])).elim done refused =
      if (47 < b ∨ (s.desc b).kind ≠ .bed) ∨ big = true then refused .range else done := by
  rw [elim_firstCase_append, elim_firstCase_bedCases, if_neg hb, elim_firstCase_cons, elim_firstCase_nil]
  simp only [ite_or]

/-- R127: zone 0 names no bed, whatever follows. -/
theorem elim_firstCase_bedCases_zero {α : Type} (done : α) (refused : Status → α) (s : State) (rest : Cases) :
    (firstCase (bedCases s 0 ++ rest)).elim done refused = refused .nullZone := by
  rw [elim_firstCase_append, elim_firstCase_bedCases, if_pos rfl]

section
variable {s : State} {p : Port} (tag : Byte) (hl : s.listens p) (honline : (s.port p).state = .online)
include hl honline

/-- R10: ZONE-READ. -/
theorem exec_zoneRead (z : Nat) : exec (.zoneRead p tag z) s = .next ((firstCase (zoneCases z)).elim
    (s.answered p tag .ok (.zone ⟨z, s.desc z, (s.zone z).used, (s.desc z).rect, s.restingCount z, s.boundTo z, s.targeted z⟩))
    fun st => s.answered p tag st .nothing) :=
  exec_of_read_cases rfl rfl rfl rfl hl honline

/-- R58: JOB-LIST. -/
theorem exec_jobList (b first : Nat) : exec (.jobList p tag b first) s = .next
    ((firstCase (bedCases s b ++ [(decide ((s.table b).jobs.length < first), .range)])).elim
      (s.answered p tag .ok (.jobs ⟨(s.table b).jobs.length, s.countJobs b .queued, s.countJobs b .taken,
        s.countJobs b .starting, s.countJobs b .burning, s.countJobs b .held, (s.table b).counter, s.boundTo b,
        ((takeOrder (s.table b).jobs).drop first).take 4⟩))
      fun st => s.answered p tag st .nothing) :=
  exec_of_read_cases rfl rfl rfl rfl hl honline

/-- R133: LOG-READ. -/
theorem exec_logRead (b first : Nat) : exec (.logRead p tag b first) s = .next
    ((firstCase (bedCases s b ++ [(decide ((s.log b).records.length < first), .range)])).elim
      (s.answered p tag .ok (.log ⟨b, fitting 6 16 ((s.log b).records.drop first), (s.log b).records.length, (s.log b).lost,
        s.watermark b⟩))
      fun st => s.answered p tag st .nothing) :=
  exec_of_read_cases rfl rfl rfl rfl hl honline

/-- R117: REMNANT-LIST. -/
theorem exec_remnantList (grade th first : Nat) : exec (.remnantList p tag grade th first) s = .next
    ((firstCase (remnantListCases grade th first s)).elim
      (s.answered p tag .ok (.remnants (s.covered grade th).length ((s.covered grade th).filter (·.hold.isSome)).length
        ((((s.covered grade th).drop first).take 8).map s.remnantEntry)))
      fun st => s.answered p tag st .nothing) :=
  exec_of_read_cases rfl rfl rfl rfl hl honline

end

theorem State.covered_eq (s : State) (grade th : Nat) :
    s.covered grade th = s.remnantIndex.filter fun r => r.grade = grade ∧ (th = 0 ∨ r.thickness = th) := by
  simp only [State.covered, Bool.decide_and, Bool.decide_or]

/-! ## The statement -/

theorem portOf_val (q : Port) : portOf q.val = some q := dif_pos q.isLt

/-- R158: STATUS-READ, whatever state its port is in. -/
theorem exec_statusRead {s : State} {p : Port} (tag : Byte) (n : Nat) (hl : s.listens p) {st : Status} {d : ReplyData}
    (ha : (ownStatusRead p n s).2 = ⟨st, d⟩) : exec (.statusRead p tag n) s = .next (s.answered p tag st d) :=
  exec_of_read (owner := ownStatusRead p n) rfl rfl hl (.inl rfl) (Prod.ext rfl ha)

/-- R109: CRANE-READ. -/
theorem exec_craneRead {s : State} {p : Port} (tag : Byte) (n : Nat) (hl : s.listens p) {st : Status} {d : ReplyData}
    (ha : (ownCraneRead n s).2 = ⟨st, d⟩) : exec (.craneRead p tag n) s = .next (s.answered p tag st d) :=
  exec_of_read (owner := ownCraneRead n) rfl rfl hl (.inl rfl) (Prod.ext rfl ha)

/-- R37: PLATE-READ. -/
theorem exec_plateRead {s : State} {p : Port} (tag : Byte) (id first : Nat) (next : Bool) (hl : s.listens p) {st : Status} {d : ReplyData}
    (ha : (ownPlateRead id first next s).2 = ⟨st, d⟩) :
    exec (.plateRead p tag id first next) s = .next (s.answered p tag st d) :=
  exec_of_read (owner := ownPlateRead id first next) rfl rfl hl (.inl rfl) (Prod.ext rfl ha)

/-- R37: the record a PLATE-READ reports. -/
theorem ownPlateRead_found {s : State} {id first : Nat} {next : Bool} {r : Plate}
    (hr : (if next then s.nextRecord id else s.record id) = some r) :
    (ownPlateRead id first next s).2 = if r.parts.length < first then refuse .range else okWith (.plate (s.plateReport r first)) := by
  rw [ownPlateRead, hr]

/-- R170: the parameters of a port by its number. -/
theorem paramReport_port {s : State} {k : Nat} (hk : k ≤ 5) :
    (if h : k < 6 then s.params.ports[k] else .default .unused) = s.portParams (Fin.ofNat 6 k) := by
  rw [dif_pos (Nat.lt_succ_of_le hk), State.portParams]
  simp only [Fin.ofNat, Nat.mod_eq_of_lt (Nat.lt_succ_of_le hk)]

/-- Settles O60: the owner of a read leaves the state as it is, and its report is the one the rule names. -/
theorem readsReportAndChangeNothing : Obligations.ReadsReportAndChangeNothing := by
  intro s p tag hl answers noBed
  refine ⟨fun hon => ⟨⟨?_, fun first => ⟨?_, ?_⟩⟩, fun z hz => ?_, ?_, ?_, ?_, ?_, ?_⟩, ?_, ?_, ?_, ?_, ?_, ?_, ?_, ?_⟩
  · exact exec_zoneRead tag hl hon 0
  · exact (exec_jobList tag hl hon 0 first).trans (congrArg _ (elim_firstCase_bedCases_zero _ _ s _))
  · exact (exec_logRead tag hl hon 0 first).trans (congrArg _ (elim_firstCase_bedCases_zero _ _ s _))
  · simp only [answers, exec_zoneRead tag hl hon z, elim_firstCase_zoneCases, if_neg hz]
    split_ifs
    · rfl
    · rw [State.restingCount, State.restingIn, ← List.countP_eq_length_filter]
  · intro b first hb jobs count
    simp only [answers, exec_jobList tag hl hon b first, elim_firstCase_bedCases_append _ _ s hb, decide_eq_true_eq]
    split_ifs
    · rfl
    · simp only [State.countJobs, ← List.countP_eq_length_filter]
      rfl
  · intro b first hb l
    simp only [answers, exec_logRead tag hl hon b first, elim_firstCase_bedCases_append _ _ s hb, decide_eq_true_eq]
    refine ⟨fun h => by rw [if_pos h], fun hbed hfirst hlen => ?_⟩
    obtain ⟨left, hsplit, hfits, hmax⟩ := fitting_split (used := 6) (n := 16) (l := l.records.drop first)
      (by rw [List.length_drop]; omega) (by omega)
    rw [if_neg (not_or.mpr ⟨hbed, not_lt.mpr hfirst⟩)]
    exact ⟨_, left, hsplit, rfl, hfits, hmax⟩
  · intro grade th first l
    simp only [answers, exec_remnantList tag hl hon grade th first, remnantListCases, elim_firstCase_cons,
      elim_firstCase_nil, decide_eq_true_eq, State.covered_eq, countP_held, ← ite_or]
    split_ifs
    · rfl
    · rfl
  · refine exec_of_read (owner := ownAlertRead) rfl rfl hl (.inr hon) ?_
    have hline : s.alertLine = decide (s.alerts ≠ []) := by
      rw [State.alertLine, hl.1]
      cases s.alerts <;> rfl
    rw [ownAlertRead, hline]
    rfl
  · intro pp reads none'
    have hport (k : Nat) (hk : k ≤ 5) := paramReport_port (s := s) hk
    refine ⟨fun code i hcode => ?_, fun i => ?_, fun i => ?_, fun i => ?_, fun i => ?_, fun i => ?_, fun i => ?_, fun i => ?_,
      fun i => ?_, fun i => ?_, fun i => ?_, fun i => ?_, fun i => ?_, fun i => ?_, fun i => ?_, fun i => ?_⟩
    · refine exec_of_read (owner := ownParamRead code i) rfl rfl hl (.inr hon) ?_
      rw [ownParamRead, paramCodeOf_eq_none hcode]
      rfl
    iterate 5
      exact exec_paramRead tag i hl hon rfl rfl fun k _ hk => by simp only [paramReport, hport k hk]; rfl
    iterate 10
      exact exec_paramRead tag i hl hon rfl rfl fun k _ _ => rfl
  · intro n hn
    have hport : portOf n = none := dif_neg (by omega)
    exact ⟨exec_statusRead tag n hl (by rw [ownStatusRead, hport]; rfl), exec_craneRead tag n hl (by
      rw [ownCraneRead, State.cranePort_of_lt hn]; rfl)⟩
  · intro q hp hq
    exact exec_statusRead tag q.val hl (by simp only [ownStatusRead, portOf_val, if_pos (And.intro hp hq)]; rfl)
  · intro q hq
    have hown : ¬(p ≠ 0 ∧ q ≠ p) := fun h => hq.elim h.1 h.2
    exact exec_statusRead tag q.val hl (by simp only [ownStatusRead, portOf_val, if_neg hown]; rfl)
  · intro q
    have hport := s.cranePort_val q
    by_cases hq : q = 0 ∨ s.role q ≠ .crane
    · rw [if_pos hq] at hport ⊢
      exact exec_craneRead tag q.val hl (by rw [ownCraneRead, hport]; rfl)
    · rw [if_neg hq] at hport ⊢
      refine exec_craneRead tag q.val hl ?_
      rw [ownCraneRead, hport]
      simp only [State.craneReport]
      cases (s.crane q).hook <;> rfl
  · intro id first next r hr hreg
    have hfound : (if next then s.nextRecord id else s.record id) = some r := by
      cases next with
      | false => exact hr
      | true =>
        obtain ⟨hmem, hid, hleast⟩ := hr
        exact hreg.nextRecord hmem hid hleast
    have hmem : r ∈ s.records := by
      cases next with
      | false => exact (State.mem_of_record hr).1
      | true => exact hr.1
    have hown := ownPlateRead_found (first := first) hfound
    split_ifs at hown ⊢ with hfirst
    · exact exec_plateRead tag id first next hl hown
    · refine (exec_plateRead tag id first next hl hown).trans ?_
      have hindex : r.isMember = decide (r ∈ s.remnantIndex) := by
        rw [State.remnantIndex, Bool.eq_iff_iff, decide_eq_true_eq, List.mem_insertionSort, List.mem_filter]
        exact (and_iff_right hmem).symm
      rw [State.plateReport, hindex]
      rfl
  · exact fun id first hr => exec_plateRead tag id first false hl (by rw [ownPlateRead, if_neg Bool.false_ne_true, hr]; rfl)
  · exact fun id first hr => exec_plateRead tag id first true hl (by
      rw [ownPlateRead, if_pos rfl, State.nextRecord_eq_none hr]; rfl)
  · exact exec_of_read (owner := ownBudgetRead) rfl rfl hl (.inl rfl) rfl

end Sys2Proof.Machine
end

section
/-! RETARGET, SET-DOWN and LIFT-ABORT (R98 to R103). -/

namespace Sys2Proof.Machine

open Sys2Proof

/-! ## RETARGET -/

/-- R98, R99: a heard RETARGET; `g` is the corridor as the retarget leaves it. -/
theorem exec_retarget {s : State} {p : Port} (tag : Byte) (z : Nat) (h : s.hears p [.crane]) {g : Rect}
    (hg : ((s.retarget p z).crane p).corridor.getD (s.desc z).rect = g) :
    exec (.retarget p tag z) s = .next ((firstCase (retargetCases p z s)).elim
      (((s.retarget p z).reportMove p .retargeted ((s.crane p).hook.getD 0) z (.corridor g)).answered p tag .ok
        (.corridor g g.columns))
      fun st => s.answered p tag st .nothing) := by
  subst hg
  exact exec_of_cases rfl rfl rfl rfl h.1 (State.admission_of_hears h)

theorem withTarget_eq (l : List Nat) (z : Nat) : withTarget l z = if z ∈ l then l else l ++ [z] := by
  simp only [withTarget, List.contains_iff_mem]

/-- R98: the cases of a loaded crane. -/
theorem elim_firstCase_retargetCases {α : Type} (done : α) (refused : Status → α) {s : State} {p : Port} {id : Nat}
    {span : Nat × Nat} (z : Nat) (hhook : (s.crane p).hook = some id) (hspan : (s.crane p).span = some span) :
    (firstCase (retargetCases p z s)).elim done refused =
      if z = 0 then refused .nullZone
      else if 47 < z then refused .range
      else if (s.desc z).inService = false then refused .absent
      else if (s.desc z).kind = .keepout ∨ (s.desc z).place = false then refused .rights
      else if z ∉ (s.crane p).targets ∧ 8 ≤ (s.crane p).targets.length then refused .full
      else if (s.grownCorridor p z).columns.1 < span.1 ∨ span.2 < (s.grownCorridor p z).columns.2 then refused .span
      else if s.overHotBed (s.grownCorridor p z) = true then refused .hot
      else if s.barredBy (s.grownCorridor p z) ((s.crane p).origin.zone :: withTarget (s.crane p).targets z) = true then
        refused .pass
      else done := by
  rw [retargetCases, elim_firstCase_append, elim_firstCase_corridorCases _ _ hspan]
  simp only [elim_firstCase_cons, elim_firstCase_nil, hhook, Option.isNone_some, Bool.false_eq_true, if_false,
    decide_eq_true_eq, Bool.not_eq_true', ← List.contains_iff_mem, Bool.not_eq_true]
  rfl

/-- Settles O52: the nine cases of a loaded crane, and the corridor grown unless the zone is the present target. -/
theorem retargetGrowsCorridor : Obligations.RetargetGrowsCorridor := by
  intro s p tag z h crane
  refine ⟨fun hhook => ?_, ?_⟩
  · rw [exec_retarget tag z h rfl, retargetCases, elim_firstCase_append, elim_firstCase_cons]
    simp only [show (s.crane p).hook = none from hhook, Option.isNone_none, if_true]
  · intro id span old hhook hspan hold c targets
    have hgrown : s.grownCorridor p z = c := by
      simp only [State.grownCorridor, show (s.crane p).corridor = some old from hold, Option.getD_some, c]
    have htargets : withTarget (s.crane p).targets z = targets := withTarget_eq _ z
    have hpass := s.barredBy_iff (c := c) (exempt := (s.crane p).origin.zone :: targets)
    simp only [List.mem_cons, not_or, and_assoc] at hpass
    have hexec {g : Rect} (hg : ((s.retarget p z).crane p).corridor.getD (s.desc z).rect = g) :=
      (exec_retarget tag z h hg).trans (congrArg _ (elim_firstCase_retargetCases _ _ z hhook hspan))
    simp only [hgrown, htargets, State.overHotBed_iff, hpass, show (s.crane p).hook = some id from hhook] at hexec
    by_cases hz : z = crane.target
    · have hleft : s.retarget p z = s := by rw [State.retarget, if_pos (show z = (s.crane p).target from hz)]
      rw [hleft] at hexec
      rw [if_pos hz]
      exact hexec (by rw [show (s.crane p).corridor = some old from hold, Option.getD_some])
    · have hleft : s.retarget p z = s.setCrane p { crane with corridor := some c, target := z, targets := targets } := by
        rw [State.retarget, hgrown, htargets, if_neg (show ¬z = (s.crane p).target from hz)]
      rw [hleft] at hexec
      rw [if_neg hz]
      exact hexec (by rw [State.crane_setCrane, if_pos rfl, Option.getD_some])

/-! ## SET-DOWN and LIFT-ABORT -/

/-- R101, R103: the state a landing leaves, the record at rest and the crane freed. -/
theorem State.land_eq (s : State) (p : Port) (r : Plate) (z ox oy : Nat) (t : Turn) (a : CraneAction) :
    s.land p r z ox oy t a = State.runWalk (State.notify 0 (.craneMove p a r.id z (.place ox oy t)) { s with
      cranes := s.cranes.set p.val ⟨(s.crane p).span, none, none, 0, [], .nowhere⟩
      zones := s.zones.setIfInBounds z ⟨s.desc z, true⟩
      records := s.records.map fun q => if q.id = r.id then { q with location := .resting z ox oy t } else q }) := rfl

/-- R102: the state a scrapping leaves, the record deleted and the crane freed. -/
theorem State.scrap_eq (s : State) (p : Port) (r : Plate) (z : Nat) :
    s.scrap p r z = State.runWalk (State.notify 0 (.craneMove p .scrapped r.id z .nothing) { s.deleteRecord r.id with
      cranes := s.cranes.set p.val ⟨(s.crane p).span, none, none, 0, [], .nowhere⟩
      zones := s.zones.setIfInBounds z ⟨s.desc z, true⟩ }) := rfl

/-- R101, R102: a heard SET-DOWN of a load. -/
theorem exec_setDown {s : State} {p : Port} (tag : Byte) (ox oy : Nat) (turn : Option Turn) {r : Plate}
    (h : s.hears p [.crane]) (hload : s.load p = some r) :
    exec (.setDown p tag ox oy turn) s = .next ((firstCase (setDownCases p ox oy turn s)).elim
      (if (s.desc (s.crane p).target).kind = .scrap then
        (s.scrap p r (s.crane p).target).answered p tag .ok .deleted
      else (s.land p r (s.crane p).target ox oy (turn.getD .deg0) .setDown).answered p tag .ok
        (.rect (s.footprintAt r (s.crane p).target ox oy (turn.getD .deg0))))
      fun st => s.answered p tag st .nothing) := by
  by_cases hscrap : (s.desc (s.crane p).target).kind = .scrap
  · rw [if_pos hscrap]
    exact exec_of_cases rfl rfl rfl (by simp only [hload, if_pos hscrap]; rfl) h.1 (State.admission_of_hears h)
  · rw [if_neg hscrap]
    exact exec_of_cases rfl rfl rfl (by simp only [hload, if_neg hscrap]; rfl) h.1 (State.admission_of_hears h)

/-- R103: a heard LIFT-ABORT of a load. -/
theorem exec_liftAbort {s : State} {p : Port} (tag : Byte) {r : Plate} (h : s.hears p [.crane]) (hload : s.load p = some r) :
    exec (.liftAbort p tag) s = .next ((firstCase (liftAbortCases p s)).elim
      ((s.land p r (s.crane p).origin.zone (s.crane p).origin.offX (s.crane p).origin.offY (s.crane p).origin.turn
        .aborted).answered p tag .ok .nothing)
      fun st => s.answered p tag st .nothing) :=
  exec_of_cases rfl rfl rfl (by simp only [hload]; rfl) h.1 (State.admission_of_hears h)

/-- R100, R103: neither request has anything to set down. -/
theorem exec_of_no_load {s : State} {p : Port} (tag : Byte) (h : s.hears p [.crane]) (hload : s.load p = none) :
    (∀ ox oy turn, exec (.setDown p tag ox oy turn) s = .next (s.answered p tag .state .nothing))
      ∧ exec (.liftAbort p tag) s = .next (s.answered p tag .state .nothing) := by
  refine ⟨fun ox oy turn => ?_, ?_⟩
  · rw [exec_of_cases (cases := setDownCases p ox oy turn s) rfl rfl rfl (by simp only [hload]; rfl) h.1
      (State.admission_of_hears h), setDownCases, hload]
    rfl
  · rw [exec_of_cases (cases := liftAbortCases p s) rfl rfl rfl (by simp only [hload]; rfl) h.1
      (State.admission_of_hears h), liftAbortCases, hload]
    rfl

/-- R100: the cases of a SET-DOWN of a load, the placement test among them. -/
theorem elim_firstCase_setDownCases {α : Type} (done : α) (refused : Status → α) {s : State} {p : Port} {r : Plate}
    (ox oy : Nat) (turn : Option Turn) (hload : s.load p = some r) :
    (firstCase (setDownCases p ox oy turn s)).elim done refused =
      if turn = none ∨ 249999 < ox ∨ 249999 < oy then refused .range
      else (firstCase (placementCases s r (s.crane p).target ox oy (turn.getD .deg0)
        ++ [(s.overlaps r (s.crane p).target ox oy (turn.getD .deg0), .overlap)])).elim
        (if (s.desc (s.crane p).target).kind = .scrap ∧ s.refs r.id ≠ 0 then refused .locked
        else if (s.desc (s.crane p).target).kind = .scrap ∧ r.hold ≠ none then refused .reserved
        else done) refused := by
  simp only [setDownCases, loadCases, hload, elim_firstCase_append, elim_firstCase_cons, elim_firstCase_nil,
    Option.isNone_some, Bool.false_eq_true, if_false, Option.any_some, decide_eq_true_eq, Option.isNone_iff_eq_none,
    Option.isSome_iff_ne_none]

/-- Settles O53: without a load both requests are STATE; with one the placement test stands between the operands' tests and
those of a scrap zone. -/
theorem loadsAreSetDownAndAborted : Obligations.LoadsAreSetDownAndAborted := by
  intro s p tag h crane
  refine ⟨fun hhook => exec_of_no_load tag h ?_, ?_⟩
  · rw [State.load, show (s.crane p).hook = none from hhook, Option.bind_none]
  · intro id r hhook hr free test placed z
    have hload : s.load p = some r := by rw [State.load, show (s.crane p).hook = some id from hhook, Option.bind_some, hr]
    obtain rfl := State.id_of_record hr
    refine ⟨fun ox oy => ?_, fun ox oy t hoff => ?_, fun ox oy t hx hy => ?_, ?_⟩
    · rw [exec_setDown tag ox oy none h hload, elim_firstCase_setDownCases _ _ ox oy none hload, if_pos (.inl rfl)]
    · rw [exec_setDown tag ox oy _ h hload, elim_firstCase_setDownCases _ _ ox oy _ hload, if_pos (.inr hoff)]
    · have hoff : ¬(some t = none ∨ 249999 < ox ∨ 249999 < oy) := by simp; omega
      rw [exec_setDown tag ox oy _ h hload, elim_firstCase_setDownCases _ _ ox oy _ hload, if_neg hoff, Option.getD_some,
        State.scrap_eq, State.land_eq]
      change Host.Outcome.next (Option.elim (test z ox oy t) _ _) = _
      cases test z ox oy t with
      | some st => rfl
      | none =>
        by_cases hscrap : (s.desc z).kind = .scrap
        · simp only [Option.elim_none, hscrap, show (s.desc (s.crane p).target).kind = .scrap from hscrap, true_and, ne_eq, not_true, if_false, if_true]
          rfl
        · simp only [Option.elim_none, hscrap, show ¬(s.desc (s.crane p).target).kind = .scrap from hscrap, false_and, ne_eq, not_false_eq_true, if_false, if_true]
          rfl
    · rw [exec_liftAbort tag h hload, liftAbortCases, elim_firstCase_append, elim_firstCase_cons, hload]
      simp only [Option.isNone_some, Bool.false_eq_true, if_false, elim_firstCase_nil, loadCases, hload, State.land_eq]
      change Host.Outcome.next
        (Option.elim (test crane.origin.zone crane.origin.offX crane.origin.offY crane.origin.turn) _ _) = _
      cases test crane.origin.zone crane.origin.offX crane.origin.offY crane.origin.turn with
      | some st => rfl
      | none =>
        simp only [Option.elim_none]
        rfl

end Sys2Proof.Machine
end

section
/-! Torches that go out, and what ends an arc: ARC-ESTABLISHED and ARC-OFF (R75, R76), the expiry of each timer (R56, R68, R77,
R78, R122). -/

namespace Sys2Proof.Machine

open Sys2Proof

/-! ## A torch that leaves its state -/

theorem Torch.Gone.load {t : Torch} (h : t.Gone) : t.load = 0 := by
  obtain ⟨hst | hst, -⟩ := h <;> rw [Torch.load, hst]

theorem Torch.load_of_not_lit {t : Torch} (h : t.state.lit = false) : t.load = 0 := by
  unfold Torch.load
  cases hst : t.state with
  | starting | burning => rw [hst] at h; exact absurd h (by decide)
  | idle | waiting | dropped => rfl

/-- R62, R63: a lit torch that leaves its state is put out. -/
theorem State.leaveTorch_of_lit {s : State} {p : Port} {t : Torch} (h : (s.torch p).state.lit = true) (ht : t.Gone) :
    s.leaveTorch p t = s.putOut p t := by
  have htorches : (s.leaveTorch p t).torches = (s.putOut p t).torches := by
    refine Vector.ext fun i hi => ?_
    have hq := State.torch_leaveTorch_of_lit h t ⟨i, hi⟩
    rw [State.torch] at hq
    simp only [State.putOut, Vector.getElem_ofFn]
    refine hq.trans ?_
    by_cases hpq : (⟨i, hi⟩ : Port) = p
    · rw [if_pos hpq.symm, if_pos hpq, Torch.closedUp, ht.2, if_neg (Nat.not_lt_zero _)]
    · rw [if_neg (Ne.symm hpq), if_neg hpq]
      rfl
  have hrest : s.leaveTorch p t = { s with torches := (s.leaveTorch p t).torches, committed := s.committed - (s.torch p).load } := by
    simp only [State.leaveTorch, h, if_true, State.closeUp, State.setTorch, ht.load, Nat.add_zero]
  rw [hrest, htorches]
  rfl

/-- R61, R63: a torch that is not lit leaves no load and no number behind. -/
theorem State.leaveTorch_of_not_lit {s : State} {p : Port} {t : Torch} (h : (s.torch p).state.lit = false) (ht : t.Gone) :
    s.leaveTorch p t = { s with torches := s.torches.set p.val t } := by
  simp only [State.leaveTorch, h, Bool.false_eq_true, if_false]
  exact State.setTorch_of_load_eq (ht.load.trans (Torch.load_of_not_lit h).symm)

theorem State.idleTorch_of_lit {s : State} {p : Port} (h : (s.torch p).state.lit = true) : s.idleTorch p = s.putOut p .idle :=
  State.leaveTorch_of_lit h gone_idle

theorem State.idleTorch_of_not_lit {s : State} {p : Port} (h : (s.torch p).state.lit = false) :
    s.idleTorch p = { s with torches := s.torches.set p.val .idle } :=
  State.leaveTorch_of_not_lit h gone_idle

theorem State.dropTorch_of_lit {s : State} {p : Port} (h : (s.torch p).state.lit = true) :
    s.dropTorch p = s.putOut p (s.torch p).dropped :=
  State.leaveTorch_of_lit h (s.torch p).gone_dropped

theorem State.dropTorch_of_not_lit {s : State} {p : Port} (h : (s.torch p).state.lit = false) :
    s.dropTorch p = { s with torches := s.torches.set p.val (s.torch p).dropped } :=
  State.leaveTorch_of_not_lit h (s.torch p).gone_dropped

/-- R72, R61: a torch that waits leaves the queue and becomes IDLE. -/
theorem State.unqueue_idleTorch {s : State} {p : Port} (h : (s.torch p).state = .waiting) :
    (s.unqueue p).idleTorch p =
      { s with torches := s.torches.set p.val .idle, startQueue := s.startQueue.filter (· ≠ p) } :=
  State.idleTorch_of_not_lit (s := s.unqueue p) (by rw [show (s.unqueue p).torch p = s.torch p from rfl, h]; rfl)

/-! ## The end of a job -/

/-- R51: the job a port holds, where its arc is lit, is removed under a pending cancel and otherwise HELD. -/
theorem State.stopHeld_eq (s : State) (p : Port) (bump : Bool) :
    s.stopHeld p bump = match s.heldJob p with
      | none => s
      | some (b, j) =>
        let drops := if bump then min 255 (j.drops + 1) else j.drops
        if j.state.lit = false then s
        else if j.cancelPending = true then s.removeJob b { j with drops := drops } .cancelled
        else s.setJob b j.number fun k => { k with state := .held, taker := none, timer := none, drops := drops } := by
  unfold State.stopHeld
  cases s.heldJob p with
  | none => rfl
  | some bj =>
    obtain ⟨b, j⟩ := bj
    dsimp only
    cases j.state.lit <;> rfl

theorem State.endJob_interrupted (s : State) (p : Port) : s.endJob p .interrupted = s.stopHeld p false := rfl

/-- R25, R24: the parts a finished job names, and the form of its plate. -/
theorem Plate.finish_eq (j : Job) (r : Plate) :
    r.finish j = { r with
      parts := r.parts.map fun q =>
        if q.number ∉ j.parts then q
        else if j.kind = .cut then { q with status := .separated }
        else if q.status = .unmarked then { q with status := .marked } else q
      form := if j.kind = .cut ∧ j.parts ≠ [] ∧ r.form = .whole then .worked else r.form } := by
  refine congrArg (fun l : List Part => ({ r with parts := l, form := _ } : Plate)) (List.map_congr_left fun q _ => ?_)
  by_cases hq : q.number ∈ j.parts
  · simp only [List.contains_iff_mem, hq, not_true, if_true, if_false]
    cases j.kind <;> rfl
  · simp only [List.contains_iff_mem, hq, not_false_eq_true, if_true, if_false]

/-- R50: a finished job marks its plate and leaves its table. -/
theorem State.endJob_complete (s : State) (p : Port) :
    s.endJob p .complete = match s.heldJob p with
      | some (b, j) => if j.state.lit = true then State.removeJob b j j.finished (s.setRecord j.plate (Plate.finish j)) else s
      | none => s := by
  unfold State.endJob
  cases s.heldJob p <;> rfl

/-! ## ARC-ESTABLISHED and ARC-OFF -/

section
variable {s : State} {p : Port} (tag : Byte) (h : s.hears p [.gantry])
include h

/-- R75: a heard ARC-ESTABLISHED. -/
theorem exec_arcEstablished : exec (.arcEstablished p tag) s = .next
    ((ownArcEstablished p s).1.answered p tag (ownArcEstablished p s).2.status (ownArcEstablished p s).2.data) :=
  exec_of_admitted rfl rfl h.1 (State.admission_of_hears h)

/-- R76: a heard ARC-OFF. -/
theorem exec_arcOff (o : Option ArcOutcome) : exec (.arcOff p tag o) s = .next
    ((ownArcOff p o s).1.answered p tag (ownArcOff p o s).2.status (ownArcOff p o s).2.data) :=
  exec_of_admitted rfl rfl h.1 (State.admission_of_hears h)

end

/-- R76: an ARC-OFF of a lit arc. -/
theorem ownArcOff_of_lit {s : State} {p : Port} (h : (s.torch p).state.lit = true) (o : ArcOutcome) :
    ownArcOff p (some o) s = (((s.putOut p .idle).endJob p o).runWalk, okWith (.torch (s.torch p).state (s.recorded p o))) := by
  rw [← State.idleTorch_of_lit h, ownArcOff]
  obtain hst | hst := TorchState.lit_iff.mp h <;> simp only [hst]

/-- Settles O45: each request by the torch's state; the job of a lit arc ends as `endJob` says. -/
theorem arcsAreEstablishedAndEnded : Obligations.ArcsAreEstablishedAndEnded := by
  intro s p tag h t burns out
  refine ⟨fun hst => ?_, fun hst => ?_, fun hst => ?_, exec_arcOff tag h none, fun o hst => ?_, fun o hst => ?_,
    fun o hst => ?_, fun hlit => ⟨?_, ?_⟩⟩
  · rw [exec_arcEstablished tag h, ownArcEstablished, hst]
  · rw [exec_arcEstablished tag h, ownArcEstablished]
    obtain hst | hst | hst := hst <;> rw [hst] <;> rfl
  · have hburns : s.setTorch p { s.torch p with state := .burning, establish := none } = burns := by
      have hst' : (s.torch p).state = .starting := hst
      simp only [State.setTorch, Torch.load, hst']
      rfl
    rw [exec_arcEstablished tag h, ownArcEstablished, hst]
    refine congrArg (fun u => Host.Outcome.next (State.answered p tag .ok .nothing (State.runWalk u))) ?_
    have hheld : burns.heldJob p = s.heldJob p := State.heldJob_congr rfl p
    cases hj : s.heldJob p with
    | none => simp only [State.establish, hburns, hheld, hj]
    | some bj => simp only [State.establish, hburns, hheld, hj]
  · rw [exec_arcOff tag h, ownArcOff, hst]
    rfl
  · rw [exec_arcOff tag h, ownArcOff, hst]
    simp only [State.idleTorch_of_not_lit (s := s) (p := p) (by rw [hst]; rfl)]
    rfl
  · rw [exec_arcOff tag h, ownArcOff, hst]
    simp only [State.unqueue_idleTorch hst]
    rfl
  · rw [exec_arcOff tag h, ownArcOff_of_lit hlit]
    rfl
  · rw [exec_arcOff tag h, ownArcOff_of_lit hlit]
    have hheld : (s.putOut p .idle).heldJob p = s.heldJob p := State.heldJob_congr rfl p
    simp only [State.endJob_complete, hheld, funext (Plate.finish_eq _), Job.finished, State.recorded]
    cases s.heldJob p with
    | none => rfl
    | some bj =>
      obtain ⟨b, j⟩ := bj
      dsimp only
      cases j.state.lit <;> rfl

/-! ## The expiries -/

theorem exec_of_unheld_event {i : Instr} (hi : requestOf i = none) (hr : isReset i = false) {s : State} (h : s.held = false) :
    exec i s = .next (eventAct i s).settle := by
  rw [exec_of_event hi hr, h]
  rfl

theorem runOut_iff (t : Option Nat) : runOut t = true ↔ t = some 0 := decide_eq_true_iff

/-- R77: the establish limit of a STARTING torch. -/
theorem establishExpiry_eq {s : State} {p : Port} {b n : Nat} (hst : (s.torch p).state = .starting)
    (htimer : (s.torch p).establish = some 0) (hjob : (s.torch p).job = some (b, n)) :
    establishExpiry p s = State.runWalk (State.raise .startFail p.val (State.notify p (.startFailed b n)
      ((s.putOut p (s.torch p).dropped).stopHeld p true))) := by
  rw [← State.dropTorch_of_lit (TorchState.lit_iff.mpr (.inl hst)), establishExpiry,
    if_pos ⟨hst, (runOut_iff _).mpr htimer⟩, State.notifyJob, hjob]

/-- R78: the wait limit of a WAITING torch. -/
theorem waitExpiry_eq {s : State} {p : Port} {b n : Nat} (hst : (s.torch p).state = .waiting)
    (htimer : (s.torch p).wait = some 0) (hjob : (s.torch p).job = some (b, n)) :
    waitExpiry p s = State.runWalk (State.notify p (.startTimeout b n) { s with
      torches := s.torches.set p.val .idle, startQueue := s.startQueue.filter (· ≠ p) }) := by
  rw [waitExpiry, if_pos ⟨hst, (runOut_iff _).mpr htimer⟩, State.notifyJob, hjob]
  exact congrArg (fun u => State.runWalk (State.notify p (.startTimeout b n) u)) (State.unqueue_idleTorch hst)

/-- Settles O47: an expiry acts where its timer has run out, and a torch whose limit ends leaves its state. -/
theorem timersExpire : Obligations.TimersExpire := by
  intro s hheld
  have hexec {i : Instr} (hi : requestOf i = none) (hr : isReset i = false) : exec i s = .next (eventAct i s).settle :=
    exec_of_unheld_event hi hr hheld
  refine ⟨?_, fun p => ⟨fun hno => ?_, fun b n hst htimer hjob => ?_⟩, fun p => ⟨fun hno => ?_, fun b n hst htimer hjob => ?_⟩,
    fun b n => ?_, fun id => ?_, s.stopHeld_eq⟩
  · rw [hexec rfl rfl]
    simp only [eventAct, stalenessExpiry, runOut_iff]
  · have hno' : ¬((s.torch p).state = .starting ∧ runOut (s.torch p).establish = true) := fun h =>
      hno.elim (absurd h.1) (absurd ((runOut_iff _).mp h.2))
    rw [hexec rfl rfl]
    exact congrArg (fun u => Host.Outcome.next (State.settle u)) (if_neg hno')
  · rw [hexec rfl rfl]
    exact congrArg (fun u => Host.Outcome.next (State.settle u)) (establishExpiry_eq hst htimer hjob)
  · have hno' : ¬((s.torch p).state = .waiting ∧ runOut (s.torch p).wait = true) := fun h =>
      hno.elim (absurd h.1) (absurd ((runOut_iff _).mp h.2))
    rw [hexec rfl rfl]
    exact congrArg (fun u => Host.Outcome.next (State.settle u)) (if_neg hno')
  · rw [hexec rfl rfl]
    exact congrArg (fun u => Host.Outcome.next (State.settle u)) (waitExpiry_eq hst htimer hjob)
  · rw [hexec rfl rfl]
    rfl
  · rw [hexec rfl rfl]
    simp only [eventAct, holdExpiry, runOut_holdTimer]

end Sys2Proof.Machine
end

section
/-! The ports: HELLO, KEEPALIVE, PORT-RESTORE, HALL-RESTORE and the keepalive expiry (R146 to R149, R153, R155). -/

namespace Sys2Proof.Machine

open Sys2Proof

/-! ## KEEPALIVE -/

/-- R148: the keepalive comes before the early mark of a timer that runs. -/
theorem State.tooEarly_iff {s : State} {p : Port} :
    s.tooEarly p = true ↔ ∃ k, (s.port p).timer = some k ∧ k.elapsed < k.early := by
  simp only [State.tooEarly, Option.any_eq_true, decide_eq_true_eq]

/-- R148: a heard KEEPALIVE before the early mark. -/
theorem exec_keepalive_of_early {s : State} {p : Port} (tag : Byte) (h : s.hears p anyMaster)
    (he : s.tooEarly p = true) :
    exec (.keepalive p tag) s = .next (State.settle ((s.reply p tag ⟨.early, .nothing⟩).lapse p)) := by
  rw [exec_of_listens rfl h.1, serve_keepalive, takeKeepalive, State.admission_of_hears h, he]
  rfl

/-- R148: a heard KEEPALIVE in time. -/
theorem exec_keepalive_of_late {s : State} {p : Port} (tag : Byte) (h : s.hears p anyMaster)
    (he : s.tooEarly p = false) :
    exec (.keepalive p tag) s = .next ((s.startKeepalive p).answered p tag .ok
      (.marks (s.portParams p).period (s.portParams p).window)) := by
  refine exec_of_admitted (owner := ownKeepalive p) rfl ?_ h.1 (State.admission_of_hears h)
  rw [serve_keepalive, takeKeepalive, he, Bool.and_false]
  rfl

/-! ## HELLO -/

/-- R146: a HELLO whose port is heard in any state. -/
theorem exec_hello {s : State} {p : Port} (tag : Byte) (role : Option Role) (h : s.hearsOffline p anyMaster) :
    exec (.hello p tag role) s = .next
      ((ownHello p role s).1.answered p tag (ownHello p role s).2.status (ownHello p role s).2.data) := by
  obtain ⟨hl, hrole⟩ := h
  exact exec_of_admitted rfl rfl hl (by simp [State.admission, hrole])

/-- R146: a torch leaves DROPPED on an AUTO return. -/
theorem State.returnTorch_eq (s : State) (p : Port) : s.returnTorch p = { s with
    torches := if s.role p = .gantry ∧ (s.torch p).state = .dropped then s.torches.set p.val .idle else s.torches } := by
  unfold State.returnTorch
  split_ifs with h
  · exact State.idleTorch_of_not_lit (by rw [h.2]; rfl)
  · rfl

/-! ## The statement -/

/-- Settles O48: HELLO by the port's state, KEEPALIVE by its timer, and the two requests that restore. -/
theorem portsComeKeepAndReturn : Obligations.PortsComeKeepAndReturn := by
  intro s p tag pp started
  have hstarted : s.comeOnline p = s.setPort p started := by
    simp [State.comeOnline, State.setPortState, State.startKeepalive, State.setPort, State.port, started, pp,
      State.portParams]
  refine ⟨fun h => ⟨fun hearly => ?_, fun hlate => ?_⟩, fun hheld => ?_, fun h role => ?_, fun h => ⟨fun q => ?_, fun n hn => ?_, ?_⟩⟩
  · exact exec_keepalive_of_early tag h (State.tooEarly_iff.mpr hearly)
  · have hin : s.tooEarly p = false := by
      rw [Bool.eq_false_iff, ne_eq, State.tooEarly_iff]
      exact fun ⟨k, hk, hlt⟩ => absurd (hlate k hk) (not_le.mpr hlt)
    have honline : s.startKeepalive p = s.setPort p started := by
      obtain ⟨-, -, honline⟩ := h
      simp only [State.startKeepalive, started, ← honline]
      rfl
    rw [exec_keepalive_of_late tag h hin, honline]
  · rw [exec_of_unheld_event rfl rfl hheld]
    rfl
  · rw [exec_hello tag role h]
    cases role with
    | none => rfl
    | some r =>
      by_cases hr : r = s.role p
      · subst hr
        simp only [ownHello, reduceCtorEq, if_false, ne_eq, not_true]
        cases hst : (s.port p).state with
        | silent =>
          simp only [reduceCtorEq, if_false, false_and, hstarted]
          rfl
        | online =>
          simp only [if_true]
          rfl
        | lapsed =>
          simp only [reduceCtorEq, if_false, true_and]
          by_cases hm : (s.portParams p).mode = .auto
          · simp only [show pp.mode = .auto from hm, hm, not_true, if_false, if_true, State.returnTorch_eq, hstarted,
              State.helloAnswer]
            rfl
          · simp only [show ¬pp.mode = .auto from hm, hm, not_false_eq_true, if_true, if_false]
            rfl
      · rw [if_neg (by simp), if_pos (by simpa using hr), ownHello, if_pos hr]
        rfl
  · rw [exec_of_admitted (owner := ownPortRestore q.val) rfl rfl h.1 (State.admission_of_hears h), ownPortRestore, portOf_val]
    dsimp only
    split_ifs <;> rfl
  · rw [exec_of_admitted (owner := ownPortRestore n) rfl rfl h.1 (State.admission_of_hears h), ownPortRestore,
      portOf, dif_neg (by omega)]
    rfl
  · rw [exec_of_admitted (owner := ownHallRestore) rfl rfl h.1 (State.admission_of_hears h), ownHallRestore]
    cases hstop : s.hallStop <;> rfl

end Sys2Proof.Machine
end

section
/-! The feeder's readings (R64, R66, R67, R69, R70, R165). -/

namespace Sys2Proof.Machine

open Sys2Proof

/-! ## Sheds -/

/-- R69: the ports whose torches are lit. -/
def State.litPorts (s : State) : Finset Port := Finset.univ.filter fun p => (s.torch p).state.lit = true

theorem State.mem_litPorts {s : State} {p : Port} : p ∈ s.litPorts ↔ (s.torch p).state.lit = true := by
  simp [State.litPorts]

/-- R69: a shed puts out the torch of its port and no other. -/
theorem State.lit_shedTorch (s : State) (p q : Port) :
    ((s.shedTorch p).torch q).state.lit = true ↔ (s.torch q).state.lit = true ∧ q ≠ p := by
  have htorch : (s.shedTorch p).torch q = (s.dropTorch p).torch q := State.torch_congr (by simp [State.shedTorch]) q
  rw [htorch, State.dropTorch_eq, State.torch_leaveTorch]
  by_cases hpq : p = q
  · subst hpq
    simp only [if_true]
    split_ifs <;> simp [Torch.dropped, TorchState.lit]
  · split_ifs <;> simp [Ne.symm hpq]

theorem State.litPorts_shedTorch {s : State} {p : Port} (h : (s.torch p).state.lit = true) :
    (s.shedTorch p).litPorts ⊂ s.litPorts := by
  refine Finset.ssubset_iff_subset_ne.mpr ⟨fun q hq => ?_, fun heq => ?_⟩
  · rw [State.mem_litPorts, State.lit_shedTorch] at hq
    exact State.mem_litPorts.mpr hq.1
  · have hp := heq ▸ State.mem_litPorts.mpr h
    rw [State.mem_litPorts, State.lit_shedTorch] at hp
    exact hp.2 rfl

/-- R69: the newest lit torch is lit, and no lit one has a higher number. -/
theorem State.newest_eq_some {s : State} {p : Port} (h : s.newest = some p) : (s.torch p).state.lit = true
    ∧ ∀ q, (s.torch q).state.lit = true → (s.torch q).seq ≤ (s.torch p).seq := by
  have hfound := List.find?_some (show List.find? _ allPorts = some p from h)
  rw [Bool.and_eq_true, List.all_eq_true] at hfound
  refine ⟨hfound.1, fun q hq => ?_⟩
  simpa [hq] using hfound.2 q (mem_allPorts q)

theorem State.newest_eq_none {s : State} (h : s.newest = none) (p : Port) : (s.torch p).state.lit = false := by
  by_contra hp
  obtain ⟨q, hq, hmax⟩ := s.litPorts.exists_max_image (fun q => (s.torch q).seq)
    ⟨p, State.mem_litPorts.mpr (by simpa using hp)⟩
  have hno := List.find?_eq_none.mp (show List.find? _ allPorts = none from h) q (mem_allPorts q)
  refine hno (Bool.and_eq_true_iff.mpr ⟨State.mem_litPorts.mp hq, List.all_eq_true.mpr fun r _ => ?_⟩)
  by_cases hr : (s.torch r).state.lit = true
  · simpa [hr] using hmax r (State.mem_litPorts.mpr hr)
  · simp [hr]

/-- R69: the state that a list of sheds leaves. -/
def State.sheds (s : State) (l : List Port) : State := l.foldl (fun u p => u.shedTorch p) s

/-- R69: each shed is of the newest lit torch, while Q is above C, until Q is within C or no torch is lit. -/
theorem exists_sheds (n : Nat) (s : State) (hn : s.litPorts.card ≤ n) :
    ∃ l, shed n s = s.sheds l
      ∧ ((s.sheds l).committed ≤ s.feeder.capacity ∨ ∀ p, ((s.sheds l).torch p).state.lit = false)
      ∧ ∀ before p after, l = before ++ p :: after → s.feeder.capacity < (s.sheds before).committed
        ∧ ((s.sheds before).torch p).state.lit = true
        ∧ ∀ q, ((s.sheds before).torch q).state.lit = true →
          ((s.sheds before).torch q).seq ≤ ((s.sheds before).torch p).seq := by
  have hnil {P : List Port → Port → Prop} (before : List Port) (p : Port) (after : List Port)
      (h : [] = before ++ p :: after) : P before p :=
    absurd h (by simp)
  induction n generalizing s with
  | zero =>
    refine ⟨[], rfl, .inr fun p => ?_, hnil⟩
    have hempty := Finset.card_eq_zero.mp (Nat.le_zero.mp hn)
    exact Bool.eq_false_iff.mpr fun hp => Finset.notMem_empty p (hempty ▸ State.mem_litPorts.mpr hp)
  | succ n ih =>
    unfold shed
    split_ifs with hq
    · exact ⟨[], rfl, .inl hq, hnil⟩
    · split
      · next hnone => exact ⟨[], rfl, .inr (State.newest_eq_none hnone), hnil⟩
      · next p hp =>
        obtain ⟨hlit, hmax⟩ := State.newest_eq_some hp
        have hcard := Finset.card_lt_card (State.litPorts_shedTorch hlit)
        obtain ⟨l, hl, hend, hstep⟩ := ih (s.shedTorch p) (by omega)
        have hcap : (s.shedTorch p).feeder = s.feeder := by simp
        rw [hcap] at hend hstep
        refine ⟨p :: l, hl, hend, fun before q after h => ?_⟩
        cases before with
        | nil =>
          obtain ⟨rfl, -⟩ := List.cons.inj h
          exact ⟨not_le.mp hq, hlit, hmax⟩
        | cons r before =>
          obtain ⟨rfl, htail⟩ := List.cons.inj h
          exact hstep before q after htail

/-! ## A good reading -/

/-- R66, R70: the feeder after a good reading. -/
def State.readFeeder (s : State) (n : Nat) : State :=
  { s with feeder := { s.feeder with
    level := min n 1500, capacity := s.params.rating * min n 1000 / 1000 - s.params.reserve, stale := false
    sag := sagAfter s.feeder.sag s.params.sagLevel (min n 1500), staleTimer := some 500 } }

/-- R70: the flag set raises FEEDER_SAG where it was clear. -/
def State.flagFeeder (s : State) (n : Nat) : State :=
  if s.feeder.sag = true then s.readFeeder n else (s.readFeeder n).raise .feederSag 0

theorem evaluateSag_recompute (s : State) (n : Nat) :
    ({ s with feeder := { s.feeder with level := min n Config.maxLevel, stale := false, staleTimer := some Config.staleMs } } :
      State).recompute.evaluateSag =
    if (s.readFeeder n).feeder.sag = true then s.flagFeeder n else s.readFeeder n := by
  have hread : ({ s with feeder := { s.feeder with
        level := min n Config.maxLevel, stale := false, staleTimer := some Config.staleMs } } : State).recompute =
      { s.readFeeder n with feeder := { (s.readFeeder n).feeder with sag := s.feeder.sag } } := by
    simp only [State.recompute, capacityOf, min_assoc]
    rfl
  rw [hread, State.evaluateSag]
  change (if ((s.readFeeder n).feeder.sag && !s.feeder.sag) = true then State.raise .feederSag 0 (s.readFeeder n)
    else s.readFeeder n) = _
  rw [State.flagFeeder]
  cases (s.readFeeder n).feeder.sag <;> cases s.feeder.sag <;> rfl

/-- R67: what follows the evaluation of the flags. -/
theorem goodReading_eq (s : State) (n : Nat) {t u : State}
    (ht : (if (s.readFeeder n).feeder.sag = true then s.flagFeeder n else s.readFeeder n) = t)
    (hu : (if t.params.sagMode = .trip ∧ t.feeder.sag then shed 6 t else t) = u) :
    goodReading n s = if (s.feeder.stale || (s.feeder.sag && !t.feeder.sag) || decide (s.feeder.capacity < t.feeder.capacity)
      || decide (u.committed < t.committed)) = true then u.runWalk else u := by
  rw [← evaluateSag_recompute] at ht
  subst ht hu
  rfl

/-- R67: a reading that leaves the flag clear walks where a flag was cleared or C rose. -/
theorem goodReading_of_clear {s : State} {n : Nat} (h : (s.readFeeder n).feeder.sag = false) :
    goodReading n s = if s.feeder.stale = true ∨ s.feeder.sag = true ∨ s.feeder.capacity < (s.readFeeder n).feeder.capacity
      then (s.readFeeder n).runWalk else s.readFeeder n := by
  rw [goodReading_eq s n (if_neg (by rw [h]; exact Bool.false_ne_true)) (if_neg fun hc => absurd (h.symm.trans hc.2)
    Bool.false_ne_true)]
  simp only [h, Bool.not_false, Bool.and_true, lt_irrefl, decide_false, Bool.or_false, Bool.or_eq_true, decide_eq_true_eq,
    or_assoc]

/-- R67: a walk of a reading that leaves the flag set admits nothing. -/
theorem goodReading_of_sag {s : State} {n : Nat} (h : (s.readFeeder n).feeder.sag = true) :
    goodReading n s = if s.params.sagMode = .trip then shed 6 (s.flagFeeder n) else s.flagFeeder n := by
  have hfeeder : (s.flagFeeder n).feeder = (s.readFeeder n).feeder := by
    unfold State.flagFeeder
    split_ifs <;> simp
  have hparams : (s.flagFeeder n).params = s.params := by
    unfold State.flagFeeder
    split_ifs <;> simp [State.readFeeder]
  have hclosed {u : State} (hu : u.feeder.sag = true) : u.runWalk = u := by
    rw [State.runWalk, State.walk, hu]
    rfl
  rw [goodReading_eq s n (if_pos h) rfl, hparams, hfeeder, h]
  simp only [and_true]
  split_ifs
  · obtain ⟨-, -, -, -, hshed, -⟩ := shed_frame 6 (s.flagFeeder n)
    exact hclosed (by rw [hshed, hfeeder, h])
  · rfl
  · exact hclosed (hfeeder ▸ h)
  · rfl

/-! ## The bytes of a reading -/

/-- The state with the receiver of the feeder's line set. -/
def State.withFmReceiver (s : State) (r : Receiver) : State := { s with feeder := { s.feeder with receiver := r } }

theorem State.withFmReceiver_self {s : State} {r : Receiver} (h : s.feeder.receiver = r) : s.withFmReceiver r = s := by
  rw [State.withFmReceiver, ← h]

theorem exec_feederReading {s : State} (bytes : List LineByte) (h : s.held = false) :
    exec (.feederReading bytes) s = .next (State.settle (bytes.foldl feederByte s)) :=
  exec_of_unheld_event rfl rfl h

/-- R165: four bytes from a start byte on, met by a hunting receiver, are a reading, good where its check is. -/
theorem foldl_feederByte {s : State} (hi lo check : Byte) (h : s.feeder.receiver = .hunting) :
    (clean [0x5A#8, hi, lo, check]).foldl feederByte s =
      if check = 0x5A#8 + hi + lo then goodReading (nat16 hi lo) s else discardReading s := by
  have hfour : (clean [0x5A#8, hi, lo, check]).foldl feederByte s =
      feederByte (s.withFmReceiver (.collecting [hi, lo])) ⟨check, true, false⟩ := by
    simp only [clean, List.map_cons, List.map_nil, List.foldl_cons, List.foldl_nil]
    congr 1
    simp only [feederByte, h]
    rfl
  rw [hfour]
  split_ifs with hc
  · subst hc
    refine (?_ : _ = goodReading (nat16 hi lo) (s.withFmReceiver .hunting)).trans (by rw [State.withFmReceiver_self h])
    simp [feederByte, fmByte, State.withFmReceiver]
  · refine (?_ : _ = discardReading (s.withFmReceiver .hunting)).trans (by rw [State.withFmReceiver_self h])
    simp [feederByte, fmByte, State.withFmReceiver, hc]

/-- R165: while collecting, a byte without its stop bit discards. -/
theorem feederByte_of_no_stop {s : State} {got : List Byte} (h : s.feeder.receiver = .collecting got) (b : Byte) (gap : Bool) :
    feederByte s ⟨b, false, gap⟩ = discardReading (s.withFmReceiver .hunting) := by
  cases gap <;> simp [feederByte, h, fmByte, fmHunt, State.withFmReceiver]

/-- R165: a gap discards, and a start byte after it begins a new reading. -/
theorem feederByte_of_gap {s : State} {got : List Byte} (h : s.feeder.receiver = .collecting got) (b : Byte) :
    feederByte s ⟨b, true, true⟩ =
      discardReading (s.withFmReceiver (if b = 0x5A#8 then .collecting [] else .hunting)) := by
  simp [feederByte, h, fmByte, fmHunt, State.withFmReceiver]

/-- Settles O46: the bytes of a reading reach `goodReading` or `discardReading`, and the sheds are those of `exists_sheds`. -/
theorem readingsDriveTheFeeder : Obligations.ReadingsDriveTheFeeder := by
  refine ⟨fun s hheld hrx => ⟨?_, ?_⟩, ?_, ?_⟩
  · intro n hn c sag read flagged reads
    have hfits : nat16 (byteOf (n / 256)) (byteOf n) = n := nat16_bytes (decide_eq_true hn)
    have hexec {t : State} (ht : goodReading n s = t) : reads t := by
      have hbytes := foldl_feederByte (byteOf (n / 256)) (byteOf n) (0x5A#8 + byteOf (n / 256) + byteOf n) hrx
      rw [if_pos rfl, hfits, ht] at hbytes
      exact (exec_feederReading _ hheld).trans (congrArg (fun u => Host.Outcome.next (State.settle u)) hbytes)
    have hread : s.readFeeder n = read := by
      have hsag : sagAfter s.feeder.sag s.params.sagLevel (min n 1500) = sag := by
        unfold sagAfter
        cases hs : s.feeder.sag <;> simp [sag, hs, Config.sagHysteresis]
      simp only [State.readFeeder, hsag, hrx]
      rfl
    have hflagged : s.flagFeeder n = flagged := by rw [State.flagFeeder, hread]
    refine ⟨fun hs => ?_, fun hs hm => ?_, fun hs hm => ?_⟩
    · exact hexec ((goodReading_of_clear (by rw [hread]; exact hs)).trans (by rw [hread]))
    · refine hexec ((goodReading_of_sag (by rw [hread]; exact hs)).trans ?_)
      rw [hm, if_neg nofun, hflagged]
    · obtain ⟨l, hl, hend, hstep⟩ := exists_sheds 6 flagged ((Finset.card_le_univ _).trans (by simp))
      have hcap : flagged.feeder.capacity = c := by
        simp only [flagged]
        split_ifs <;> simp [read]
      rw [hcap] at hend hstep
      refine ⟨l, hexec ((goodReading_of_sag (by rw [hread]; exact hs)).trans ?_), hend, hstep⟩
      rw [hm, if_pos rfl, hflagged]
      exact hl
  · intro hi lo check hc
    rw [exec_feederReading _ hheld, foldl_feederByte hi lo check hrx, if_neg hc]
    rfl
  · intro s got b hheld hrx counted
    refine ⟨fun gap => ?_, ?_⟩
    · rw [exec_feederReading _ hheld, List.foldl_cons, List.foldl_nil, feederByte_of_no_stop hrx]
      rfl
    · rw [exec_feederReading _ hheld, List.foldl_cons, List.foldl_nil, feederByte_of_gap hrx]
      rfl
  · intro s p b n hlit hjob
    rw [State.shedTorch, State.dropTorch_of_lit hlit, State.notifyJob, hjob]
    rfl

end Sys2Proof.Machine
end

section
/-! What a walk of the start queue does (R72). -/

namespace Sys2Proof.Machine

open Sys2Proof

/-! ## Which entries are admitted -/

/-- R72, R93: the bed of the torch's job lies under an active corridor. -/
def State.shaded (s : State) (p : Port) : Prop := s.underCorridor (s.torchBed (s.torch p)) = true

/-- R72: the surges of the torches of a list of ports. -/
def State.surges (s : State) (l : List Port) : Nat := (l.map fun p => (s.torch p).surge).sum

/-- R72: the admissions of a list of ports, in order. -/
def State.admits (s : State) (own : Option Port) (l : List Port) : State := l.foldl (fun u p => u.admitTorch own p) s

theorem State.admits_append (s : State) (own : Option Port) (l : List Port) (p : Port) :
    s.admits own (l ++ [p]) = (s.admits own l).admitTorch own p := by
  simp [State.admits]

/-- An admission leaves the torches of the other ports, and what they lie under, as they were. -/
theorem State.shaded_admitTorch {s : State} {own : Option Port} {p q : Port} (h : q ≠ p) :
    ((s.admitTorch own p).shaded q ↔ s.shaded q) ∧ (s.admitTorch own p).torch q = s.torch q := by
  have htorch : (s.admitTorch own p).torch q = s.torch q := by rw [State.torch_admit, if_neg (Ne.symm h)]
  have hcrane (r : Rect) : (s.admitTorch own p).underCorridor r = s.underCorridor r := by
    simp [State.underCorridor, State.crane]
  have hbed (t : Torch) : (s.admitTorch own p).torchBed t = s.torchBed t := by
    rw [State.torchBed, State.desc_congr (s := s) (by simp), State.torchBed]
  rw [State.shaded, htorch, hcrane, hbed]
  exact ⟨Iff.rfl, rfl⟩

/-- R72: the load an admission commits. -/
theorem State.committed_admitTorch {s : State} {own : Option Port} {p : Port} (h : (s.torch p).state = .waiting) :
    (s.admitTorch own p).committed = s.committed + (s.torch p).surge := by
  have hcommitted : (s.admitTorch own p).committed = ((s.unqueue p).setTorch p { s.torch p with
      state := .starting, seq := s.litCount + 1, establish := some s.params.establishLimit, wait := none }).committed := by
    simp only [State.admitTorch]
    split_ifs <;> split <;> simp
  rw [hcommitted, State.setTorch]
  simp only [Torch.load, show ((s.unqueue p).torch p).state = .waiting from h]
  rfl

/-- R72: the entries a walk admits from a list, and why it goes on or stops. -/
structure State.Admits (s : State) (l admitted : List Port) (stopped : Bool) : Prop where
  sublist : admitted.Sublist l
  clear : ∀ p ∈ admitted, ¬s.shaded p
  budget : admitted ≠ [] → s.committed + s.surges admitted ≤ s.feeder.capacity
  walked : stopped = false → ∀ p ∈ l, p ∉ admitted → s.shaded p
  stop : stopped = true → ∃ ahead p behind, l = ahead ++ p :: behind ∧ admitted.Sublist ahead ∧ ¬s.shaded p
    ∧ s.feeder.capacity < s.committed + s.surges admitted + (s.torch p).surge ∧ ∀ q ∈ ahead, q ∉ admitted → s.shaded q

theorem State.Admits.skip {s : State} {l admitted : List Port} {stopped : Bool} (h : s.Admits l admitted stopped) {p : Port}
    (hp : s.shaded p) : s.Admits (p :: l) admitted stopped where
  sublist := h.sublist.cons p
  clear := h.clear
  budget := h.budget
  walked hs := List.forall_mem_cons.mpr ⟨fun _ => hp, h.walked hs⟩
  stop hs := by
    obtain ⟨ahead, q, behind, hl, hsub, hq⟩ := h.stop hs
    exact ⟨p :: ahead, q, behind, by rw [hl]; rfl, hsub.cons p, hq.1, hq.2.1, List.forall_mem_cons.mpr ⟨fun _ => hp, hq.2.2⟩⟩

theorem State.Admits.cons {s : State} {own : Option Port} {l admitted : List Port} {stopped : Bool} {p : Port}
    (h : (s.admitTorch own p).Admits l admitted stopped) (hwait : (s.torch p).state = .waiting) (hl : p ∉ l)
    (hclear : ¬s.shaded p) (hfits : s.committed + (s.torch p).surge ≤ s.feeder.capacity) :
    s.Admits (p :: l) (p :: admitted) stopped := by
  have hother {q : Port} (hq : q ∈ l) := s.shaded_admitTorch (own := own) (p := p) (q := q) fun h => hl (h ▸ hq)
  have hfeeder : (s.admitTorch own p).feeder = s.feeder := by simp
  have hsurges : (s.admitTorch own p).surges admitted = s.surges admitted :=
    congrArg List.sum (List.map_congr_left fun q hq => by rw [(hother (h.sublist.subset hq)).2])
  have hsum : (s.admitTorch own p).committed + (s.admitTorch own p).surges admitted
      = s.committed + s.surges (p :: admitted) := by
    rw [s.committed_admitTorch hwait, hsurges, State.surges, State.surges, List.map_cons, List.sum_cons, Nat.add_assoc]
  refine ⟨h.sublist.cons_cons p, List.forall_mem_cons.mpr ⟨hclear, fun q hq => ?_⟩, fun _ => ?_, fun hs => ?_, fun hs => ?_⟩
  · exact mt (hother (h.sublist.subset hq)).1.mpr (h.clear q hq)
  · by_cases hne : admitted = []
    · subst hne
      simpa [State.surges] using hfits
    · rw [← hsum, ← hfeeder]
      exact h.budget hne
  · refine List.forall_mem_cons.mpr ⟨fun hp => absurd List.mem_cons_self hp, fun q hq hno => ?_⟩
    exact (hother hq).1.mp (h.walked hs q hq fun hmem => hno (List.mem_cons_of_mem p hmem))
  · obtain ⟨ahead, q, behind, hsplit, hsub, hq, hover, hahead⟩ := h.stop hs
    have hmem {r : Port} (hr : r ∈ ahead) : r ∈ l := hsplit ▸ List.mem_append_left _ hr
    have hql : q ∈ l := hsplit ▸ List.mem_append_right _ List.mem_cons_self
    refine ⟨p :: ahead, q, behind, by rw [hsplit]; rfl, hsub.cons_cons p, mt (hother hql).1.mpr hq, ?_, ?_⟩
    · rwa [hsum, hfeeder, (hother hql).2] at hover
    · refine List.forall_mem_cons.mpr ⟨fun hp => absurd List.mem_cons_self hp, fun r hr hno => ?_⟩
      exact (hother (hmem hr)).1.mp (hahead r hr fun hmem => hno (List.mem_cons_of_mem p hmem))

/-- R72: a walk of waiting entries is the admissions of some of them. -/
theorem walkFrom_admits (own : Option Port) (l : List Port) (s : State) (hn : l.Nodup)
    (hwait : ∀ p ∈ l, (s.torch p).state = .waiting) :
    ∃ admitted, (walkFrom own l s).1 = s.admits own admitted ∧ s.Admits l admitted (walkFrom own l s).2 := by
  induction l generalizing s with
  | nil =>
    exact ⟨[], rfl, .refl _, nofun, fun h => absurd rfl h, fun _ => nofun, nofun⟩
  | cons p rest ih =>
    obtain ⟨hp, hrest⟩ := List.nodup_cons.mp hn
    obtain ⟨hpw, hrestw⟩ := List.forall_mem_cons.mp hwait
    unfold walkFrom
    dsimp only
    split_ifs with hc hb
    · obtain ⟨admitted, heq, h⟩ := ih s hrest hrestw
      exact ⟨admitted, heq, h.skip hc⟩
    · have hwait' : ∀ q ∈ rest, ((s.admitTorch own p).torch q).state = .waiting := fun q hq => by
        have hqp : q ≠ p := fun h => hp (h ▸ hq)
        rw [(State.shaded_admitTorch hqp).2, hrestw q hq]
      obtain ⟨admitted, heq, h⟩ := ih (s.admitTorch own p) hrest hwait'
      exact ⟨p :: admitted, heq, h.cons hpw hp hc hb⟩
    · exact ⟨[], rfl, List.nil_sublist _, nofun, fun h => absurd rfl h, nofun, fun _ =>
        ⟨[], p, rest, rfl, .refl _, hc, not_le.mp hb, nofun⟩⟩

/-! ## What the admissions leave -/

/-- R72: the torch of an admitted port, with its number. -/
def State.admittedTorch (s : State) (p : Port) (seq : Nat) : Torch :=
  { s.torch p with state := .starting, seq := seq, establish := some s.params.establishLimit, wait := none }

/-- R72: the link of an admitted port, told of its GRANT unless it is the port whose ARC-START runs the walk. -/
def State.grantedLink (s : State) (own : Option Port) (p : Port) : Link :=
  if own = some p then s.link p
  else match (s.torch p).job with
    | some (b, n) => (s.link p).offer (.grant b n (s.torch p).surge)
    | none => s.link p

theorem State.link_admitTorch (s : State) (own : Option Port) (p q : Port) :
    (s.admitTorch own p).link q = if p = q then s.grantedLink own p else s.link q := by
  have hlink (u : State) (hu : u.links = s.links) : (if own = some p then u
      else u.notifyJob p (s.torch p) fun b n => .grant b n (s.torch p).surge).link q
        = if p = q then s.grantedLink own p else s.link q := by
    have hul (r : Port) : u.link r = s.link r := by rw [State.link, hu, State.link]
    unfold State.grantedLink State.notifyJob
    split_ifs with hown hpq hpq
    · rw [hul, hpq]
    · exact hul q
    · cases (s.torch p).job with
      | none => rw [← hpq]; exact hul p
      | some bn => simp only [State.notify, State.link_setLink, hul, hpq, if_true]
    · cases (s.torch p).job with
      | none => exact hul q
      | some bn => simp only [State.notify, State.link_setLink, hul, hpq, if_false]
  refine hlink _ ?_
  split <;> simp

/-- R72: what the admissions of waiting ports leave of the torches, the queue, the load and the links. -/
structure State.Admitted (s : State) (own : Option Port) (l : List Port) (u : State) : Prop where
  queue : u.startQueue = s.startQueue.filter fun p => decide (p ∉ l)
  committed : u.committed = s.committed + s.surges l
  torch_of_mem : ∀ p ∈ l, u.torch p = s.admittedTorch p (s.litCount + 1 + l.idxOf p)
  link_of_mem : ∀ p ∈ l, u.link p = s.grantedLink own p
  torch_of_not_mem : ∀ p, p ∉ l → u.torch p = s.torch p
  link_of_not_mem : ∀ p, p ∉ l → u.link p = s.link p
  litCount : u.litCount = s.litCount + l.length
  sameBut : SameBut [.tables, .torches, .startQueue, .committed, .links] s u

theorem State.admitted_admits (s : State) (own : Option Port) (l : List Port) (hn : l.Nodup)
    (hwait : ∀ p ∈ l, (s.torch p).state = .waiting) : s.Admitted own l (s.admits own l) := by
  induction l using List.reverseRecOn with
  | nil => exact ⟨by simp [State.admits], rfl, nofun, nofun, fun _ _ => rfl, fun _ _ => rfl, rfl, .refl _ _⟩
  | append_singleton l p ih =>
    obtain ⟨hl, -, hp⟩ := List.nodup_append.mp hn
    have hpl : p ∉ l := fun h => hp p h p (List.mem_singleton_self p) rfl
    have hlw : ∀ q ∈ l, (s.torch q).state = .waiting := fun q hq => hwait q (List.mem_append_left _ hq)
    have hpw : (s.torch p).state = .waiting := hwait p (List.mem_append_right _ (List.mem_singleton_self p))
    rw [State.admits_append]
    generalize s.admits own l = u at ih
    obtain ⟨hqueue, hcommitted, htorch, hlink, htorch', hlink', hcount, hsame⟩ := ih hl hlw
    have hup := htorch' p hpl
    have hother {q : Port} (hq : q ≠ p) : (u.admitTorch own p).torch q = u.torch q := by
      rw [State.torch_admit, if_neg (Ne.symm hq)]
    have hparams : u.params = s.params := hsame.2 .params (by simp)
    refine ⟨?_, ?_, fun q hq => ?_, fun q hq => ?_, fun q hq => ?_, fun q hq => ?_, ?_, ?_⟩
    · rw [State.startQueue_admit, hqueue, List.filter_filter]
      exact List.filter_congr fun q _ => by simp [and_comm]
    · rw [u.committed_admitTorch (hup ▸ hpw), hcommitted, hup, State.surges, State.surges, List.map_append, List.sum_append,
        List.map_singleton, List.sum_singleton, Nat.add_assoc]
    · by_cases hqp : q = p
      · subst hqp
        rw [State.torch_admit, if_pos rfl, hup, hparams, hcount, List.idxOf_append_of_notMem hpl, List.idxOf_cons_self,
          Nat.add_zero, Nat.add_right_comm]
        rfl
      · have hql : q ∈ l := (List.mem_append.mp hq).resolve_right fun h => hqp (List.mem_singleton.mp h)
        rw [hother hqp, htorch q hql, List.idxOf_append_of_mem hql]
    · by_cases hqp : q = p
      · subst hqp
        rw [State.link_admitTorch, if_pos rfl, State.grantedLink, hup, hlink' q hpl]
        rfl
      · have hql : q ∈ l := (List.mem_append.mp hq).resolve_right fun h => hqp (List.mem_singleton.mp h)
        rw [State.link_admitTorch, if_neg (Ne.symm hqp), hlink q hql]
    · rw [List.mem_append, not_or, List.mem_singleton] at hq
      rw [hother hq.2, htorch' q hq.1]
    · rw [List.mem_append, not_or, List.mem_singleton] at hq
      rw [State.link_admitTorch, if_neg (Ne.symm hq.2), hlink' q hq.1]
    · have hchange := State.litCount_changed (s := u) (t := u.admitTorch own p) p fun q hq => by rw [hother hq]
      rw [State.torch_admit, if_pos rfl, hup, hpw] at hchange
      simp only [TorchState.lit, Bool.false_eq_true, if_false, if_true] at hchange
      rw [List.length_append, List.length_singleton]
      omega
    · exact hsame.trans (by simp [sameBut_iff])

end Sys2Proof.Machine
end

section
/-! The jobs a walk starts (R72), and the statement of the walk. -/

namespace Sys2Proof.Machine

open Sys2Proof

/-! ## The jobs of the admitted torches -/

/-- R72: a job after the admissions of a list of ports: STARTING where one of them holds it. -/
def State.startedJob (s : State) (l : List Port) (b : Nat) (j : Job) : Job :=
  if (l.any fun p => decide (s.heldJob p = some (b, j))) = true then { j with state := .starting } else j

theorem State.startedJob_nil (s : State) (b : Nat) : s.startedJob [] b = id := rfl

theorem State.startedJob_of_held {s : State} {l : List Port} {p : Port} {b : Nat} {j : Job} (hp : p ∈ l)
    (h : s.heldJob p = some (b, j)) : s.startedJob l b j = { j with state := .starting } :=
  if_pos (List.any_eq_true.mpr ⟨p, hp, decide_eq_true h⟩)

theorem State.startedJob_of_not_held {s : State} {l : List Port} {b : Nat} {j : Job}
    (h : ∀ p ∈ l, s.heldJob p ≠ some (b, j)) : s.startedJob l b j = j := by
  refine if_neg fun hany => ?_
  obtain ⟨p, hp, he⟩ := List.any_eq_true.mp hany
  exact h p hp (of_decide_eq_true he)

@[simp] theorem State.number_startedJob (s : State) (l : List Port) (b : Nat) (j : Job) :
    (s.startedJob l b j).number = j.number := by
  unfold State.startedJob
  split_ifs <;> rfl

/-- R43: a started job is held by the port that held it. -/
theorem State.holds_startedJob (s : State) (l : List Port) (q : Port) (b : Nat) (j : Job) :
    (decide ((s.startedJob l b j).taker = some q) && (s.startedJob l b j).state.active)
      = (decide (j.taker = some q) && j.state.active) := by
  by_cases h : ∃ p ∈ l, s.heldJob p = some (b, j)
  · obtain ⟨p, hp, hj⟩ := h
    obtain ⟨-, -, hactive⟩ := State.holds_of_heldJob hj
    rw [State.startedJob_of_held hp hj, hactive]
    rfl
  · rw [State.startedJob_of_not_held fun p hp he => h ⟨p, hp, he⟩]

/-- The tables of `u` are those of `s` with the jobs of the ports of `l` STARTING. -/
def State.StartsJobs (s : State) (l : List Port) (u : State) : Prop :=
  ∀ b, u.table b = ⟨(s.table b).jobs.map (s.startedJob l b), (s.table b).counter⟩

theorem State.StartsJobs.allJobs {s u : State} {l : List Port} (h : s.StartsJobs l u) :
    u.allJobs = s.allJobs.map fun bj => (bj.1, s.startedJob l bj.1 bj.2) := by
  rw [State.allJobs, State.allJobs, List.map_flatMap]
  congr 1
  funext b
  rw [h b, List.map_map, List.map_map]
  rfl

/-- R43: the other ports hold what they held. -/
theorem State.StartsJobs.heldJob {s u : State} {l : List Port} (h : s.StartsJobs l u) {q : Port} (hq : q ∉ l) :
    u.heldJob q = s.heldJob q := by
  have hfind : u.heldJob q = (s.heldJob q).map fun bj => (bj.1, s.startedJob l bj.1 bj.2) := by
    rw [State.heldJob, h.allJobs, List.find?_map]
    exact congrArg _ (List.find?_congr fun bj _ => s.holds_startedJob l q bj.1 bj.2)
  rw [hfind]
  cases hs : s.heldJob q with
  | none => rfl
  | some bj =>
    obtain ⟨b, j⟩ := bj
    rw [Option.map_some, State.startedJob_of_not_held fun p hp he => ?_]
    obtain ⟨-, htaker, -⟩ := State.holds_of_heldJob hs
    obtain ⟨-, htaker', -⟩ := State.holds_of_heldJob he
    exact hq (Option.some.inj (htaker.symm.trans htaker') ▸ hp)

/-- R72: the job of one more admitted port starts. -/
theorem State.StartsJobs.admitTorch {s u : State} {l : List Port} {own : Option Port} {p : Port} (hl : s.TableLaw)
    (h : s.StartsJobs l u) (hp : p ∉ l) : s.StartsJobs (l ++ [p]) (u.admitTorch own p) := by
  intro c
  have hheld := h.heldJob hp
  cases hj : s.heldJob p with
  | none =>
    have htables : (u.admitTorch own p).tables = u.tables := by
      have hnone (t' : Torch) : ((u.unqueue p).setTorch p t').heldJob p = none := by
        rw [State.heldJob_congr (s := u) (by simp), hheld, hj]
      simp only [State.admitTorch, hnone]
      split_ifs <;> simp
    rw [State.table_congr htables c, h c]
    refine congrArg (fun jobs => (⟨jobs, _⟩ : JobTable)) (List.map_congr_left fun k _ => ?_)
    simp [State.startedJob, hj]
  | some bj =>
    obtain ⟨b, j⟩ := bj
    have hmem := (State.holds_of_heldJob hj).1
    rw [State.table_congr (State.tables_admitTorch own (hheld.trans hj)) c, State.setJob, State.table_setTable]
    by_cases hbc : b = c
    · subst hbc
      rw [if_pos ⟨rfl, State.lt_of_mem_jobs hmem⟩, h b, List.map_map]
      refine congrArg (fun jobs => (⟨jobs, _⟩ : JobTable)) (List.map_congr_left fun k hk => ?_)
      by_cases hkj : k.number = j.number
      · obtain rfl := hl.eq_of_number hmem hk hkj
        rw [State.startedJob_of_held (List.mem_append_right l (List.mem_singleton_self p)) hj, Function.comp_apply,
          changeJob, if_pos (s.number_startedJob l b k)]
        unfold State.startedJob
        split_ifs <;> rfl
      · have hne : s.heldJob p ≠ some (b, k) := fun he => hkj (by rw [hj] at he; cases he; rfl)
        rw [Function.comp_apply, changeJob, if_neg (by rwa [State.number_startedJob])]
        simp [State.startedJob, hne]
    · rw [if_neg fun hb => hbc hb.1, h c]
      refine congrArg (fun jobs => (⟨jobs, _⟩ : JobTable)) (List.map_congr_left fun k _ => ?_)
      simp [State.startedJob, hj, hbc]

theorem State.startsJobs_admits {s : State} (hl : s.TableLaw) (own : Option Port) (l : List Port) (hn : l.Nodup) :
    s.StartsJobs l (s.admits own l) := by
  induction l using List.reverseRecOn with
  | nil => exact fun b => by simp [State.admits, State.startedJob_nil]
  | append_singleton l p ih =>
    obtain ⟨hnl, -, hp⟩ := List.nodup_append.mp hn
    rw [State.admits_append]
    exact (ih hnl).admitTorch hl fun h => hp p h p (List.mem_singleton_self p) rfl

/-! ## The statement -/

theorem sublist_eq_filter {α : Type} [DecidableEq α] {l m : List α} (h : l.Sublist m) (hm : m.Nodup) :
    m.filter (fun x => decide (x ∈ l)) = l := by
  induction h with
  | slnil => rfl
  | cons x h ih =>
    obtain ⟨hx, hm⟩ := List.nodup_cons.mp hm
    rw [List.filter_cons_of_neg (by simpa using fun hl => hx (h.subset hl)), ih hm]
  | cons_cons x h ih =>
    obtain ⟨hx, hm⟩ := List.nodup_cons.mp hm
    rw [List.filter_cons_of_pos (by simp)]
    refine congrArg _ (.trans (List.filter_congr fun y hy => ?_) (ih hm))
    have : y ≠ x := fun he => hx (he ▸ hy)
    simp [this]

/-- The place of a member of a filtered list is the count of the kept ones ahead of it. -/
theorem idxOf_filter {α : Type} [DecidableEq α] {f : α → Bool} {l : List α} {x : α} (hx : f x = true) (hl : x ∈ l) :
    (l.filter f).idxOf x = (l.takeWhile fun y => decide (y ≠ x)).countP f := by
  induction l with
  | nil => cases hl
  | cons y l ih =>
    by_cases hyx : y = x
    · subst hyx
      rw [List.filter_cons_of_pos hx, List.idxOf_cons_self, List.takeWhile_cons_of_neg (by simp)]
      rfl
    · have hl' : x ∈ l := (List.mem_cons.mp hl).resolve_left (Ne.symm hyx)
      rw [List.takeWhile_cons_of_pos (by simpa using hyx)]
      by_cases hy : f y = true
      · rw [List.filter_cons_of_pos hy, List.idxOf_cons_ne _ hyx, List.countP_cons_of_pos hy, ih hl']
      · rw [List.filter_cons_of_neg hy, List.countP_cons_of_neg hy, ih hl']

/-- A state that differs from another in what a walk changes. -/
theorem State.eq_of_walk {s u : State} (h : SameBut [.tables, .torches, .startQueue, .committed, .links] s u) :
    u = { s with
      tables := u.tables, torches := u.torches, startQueue := u.startQueue, committed := u.committed, links := u.links } := by
  obtain ⟨⟩ := u
  obtain ⟨⟩ := s
  simp_all [sameBut_iff]

/-- R72: a walk that is not closed is the admissions of some entries of the queue. -/
theorem State.walk_admits {s : State} (own : Option Port)
    (h : ¬(s.feeder.stale = true ∨ s.feeder.sag = true ∨ s.hallStop ≠ none)) (hq : s.QueueLaw) :
    ∃ admitted, (s.walk own).1 = s.admits own admitted ∧ s.Admits s.startQueue admitted (s.walk own).2 := by
  have hopen : (s.feeder.sag || s.feeder.stale || s.hallStop.isSome) = false := by
    rw [not_or, not_or, not_not] at h
    obtain ⟨hstale, hsag, hstop⟩ := h
    simp [hstale, hsag, hstop]
  rw [State.walk, hopen]
  exact walkFrom_admits own s.startQueue s hq.1 fun p hp => hq.mem_iff.mp hp

/-- Settles O44: a walk is the admissions of a sublist of the queue, whose torches, jobs and links are known. -/
theorem walkAdmitsInOrderWithinBudget : Obligations.WalkAdmitsInOrderWithinBudget := by
  intro s own w closed under admitted
  refine ⟨fun hclosed => ?_, fun hopen hq => ?_⟩
  · have hor : (s.feeder.sag || s.feeder.stale || s.hallStop.isSome) = true := by
      obtain h | h | h := hclosed
      · simp [h]
      · simp [h]
      · simp [Option.isSome_iff_ne_none.mpr h]
    exact if_pos hor
  · obtain ⟨A, heq, hA⟩ := s.walk_admits own hopen hq
    have hn : A.Nodup := hA.sublist.nodup hq.1
    have hwait : ∀ p ∈ A, (s.torch p).state = .waiting := fun p hp => hq.mem_iff.mp (hA.sublist.subset hp)
    have hadm : s.Admitted own A w.1 := by
      rw [show w.1 = s.admits own A from heq]
      exact s.admitted_admits own A hn hwait
    have hjobs (hl : s.TableLaw) : s.StartsJobs A w.1 := by
      rw [show w.1 = s.admits own A from heq]
      exact State.startsJobs_admits hl own A hn
    have hleft {p : Port} (hp : p ∈ s.startQueue) : p ∈ w.1.startQueue ↔ p ∉ A := by
      rw [hadm.queue, List.mem_filter, decide_eq_true_eq]
      exact and_iff_right hp
    have hadmitted {p : Port} : admitted p ↔ p ∈ A := by
      refine ⟨fun ⟨hp, hno⟩ => ?_, fun hp => ⟨hA.sublist.subset hp, ?_⟩⟩
      · exact not_not.mp (mt (hleft hp).mpr hno)
      · exact fun hmem => (hleft (hA.sublist.subset hp)).mp hmem hp
    have hfilter : (s.startQueue.filter fun p => decide (p ∉ w.1.startQueue)) = A := by
      refine .trans (List.filter_congr fun p hp => ?_) (sublist_eq_filter hA.sublist hq.1)
      simp [hleft hp]
    refine ⟨?_, ?_, ?_, ?_, ?_, ?_, ?_, ?_, State.eq_of_walk hadm.sameBut⟩
    · rw [hadm.queue]
      exact List.filter_sublist
    · rintro ⟨p, hp⟩
      rw [hadm.committed]
      exact hA.budget (List.ne_nil_of_mem (hadmitted.mp hp))
    · rw [hfilter, hadm.committed]
      rfl
    · exact fun p hp => ⟨hadm.torch_of_not_mem p (mt hadmitted.mpr hp), hadm.link_of_not_mem p (mt hadmitted.mpr hp)⟩
    · intro p hp
      have hpA := hadmitted.mp hp
      refine ⟨hA.clear p hpA, ?_, fun hown => ?_, fun b n hown hjob => ?_, fun b j hl hj => ?_⟩
      · rw [hadm.torch_of_mem p hpA]
        have hidx : A.idxOf p = (s.startQueue.takeWhile fun q => decide (q ≠ p)).countP
            fun q => decide (q ∉ w.1.startQueue) := by
          have hplace := idxOf_filter (f := fun q => decide (q ∉ w.1.startQueue)) (x := p) (decide_eq_true hp.2) hp.1
          rwa [hfilter] at hplace
        rw [hidx]
        rfl
      · rw [hadm.link_of_mem p hpA, State.grantedLink, if_pos hown]
      · rw [hadm.link_of_mem p hpA, State.grantedLink, if_neg hown, hjob]
      · rw [hjobs hl b, ← State.startedJob_of_held hpA hj]
        exact List.mem_map_of_mem (State.holds_of_heldJob hj).1
    · intro hl b
      rw [hjobs hl b]
      refine congrArg (fun f => (⟨(s.table b).jobs.map f, (s.table b).counter⟩ : JobTable)) (funext fun j => ?_)
      refine if_congr ?_ rfl rfl
      simp only [List.any_eq_true, Bool.and_eq_true, decide_eq_true_eq]
      exact ⟨fun ⟨p, hp, hj⟩ => ⟨p, hA.sublist.subset hp, (hadmitted.mpr hp).2, hj⟩,
        fun ⟨p, hp, hno, hj⟩ => ⟨p, hadmitted.mp ⟨hp, hno⟩, hj⟩⟩
    · intro hw p hp
      have hpq : p ∈ s.startQueue := by
        rw [hadm.queue] at hp
        exact List.mem_of_mem_filter hp
      exact hA.walked hw p hpq ((hleft hpq).mp hp)
    · intro hw
      obtain ⟨ahead, p, behind, hsplit, hsub, hp, hover, hahead⟩ := hA.stop hw
      have hnodup := hq.1
      rw [hsplit, List.nodup_append] at hnodup
      obtain ⟨-, -, hapart⟩ := hnodup
      have hinq {q : Port} (h : q ∈ ahead) : q ∈ s.startQueue := hsplit ▸ List.mem_append_left _ h
      refine ⟨ahead, p, behind, hsplit, hp, by rw [hadm.committed]; exact hover, ?_, fun q h hmem =>
        hahead q h ((hleft (hinq h)).mp hmem)⟩
      have hkeep : (p :: behind).filter (fun q => decide (q ∉ A)) = p :: behind :=
        List.filter_eq_self.mpr fun q h => decide_eq_true fun hA' => hapart q (hsub.subset hA') q h rfl
      have hfront : ahead.filter (fun q => decide (q ∈ w.1.startQueue)) = ahead.filter fun q => decide (q ∉ A) :=
        List.filter_congr fun q h => by rw [decide_eq_decide]; exact hleft (hinq h)
      rw [hfront, hadm.queue, hsplit, List.filter_append, hkeep]

end Sys2Proof.Machine
end

section
/-! The torches and the links at a hall stop (R81). -/

namespace Sys2Proof.Machine

open Sys2Proof

/-! ## Links other than P0's, at an alert, a push and the end of a job -/

theorem State.link_raise {r : Port} (hr : r ≠ 0) (s : State) (c : AlertCode) (n : Nat) : (s.raise c n).link r = s.link r := by
  unfold State.raise
  split_ifs
  · rfl
  · rw [State.notify, State.link_setLink, if_neg hr.symm]
    rfl
  · rfl

theorem State.link_removeJob {r : Port} (hr : r ≠ 0) (s : State) (b : Nat) (j : Job) (o : Completion) :
    (s.removeJob b j o).link r = s.link r := by
  change (s.push b (j.logRecord o)).link r = s.link r
  dsimp only [State.push]
  split_ifs
  · exact State.link_raise hr _ _ _
  · rfl
  · exact State.link_raise hr _ _ _

theorem State.link_stopJob {r : Port} (hr : r ≠ 0) (s : State) (b : Nat) (j : Job) (bump : Bool) :
    (s.stopJob b j bump).link r = s.link r := by
  unfold State.stopJob
  by_cases hc : j.cancelPending = true
  · rw [if_pos hc]
    exact State.link_removeJob hr _ _ _ _
  · rw [if_neg hc]
    rfl

theorem State.link_stopHeld {r : Port} (hr : r ≠ 0) (s : State) (p : Port) (bump : Bool) :
    (s.stopHeld p bump).link r = s.link r := by
  unfold State.stopHeld
  split
  · split_ifs
    · exact State.link_stopJob hr _ _ _ _
    · rfl
  · rfl

theorem State.link_lapseJob {r : Port} (hr : r ≠ 0) (s : State) (p : Port) : (s.lapseJob p).link r = s.link r := by
  unfold State.lapseJob
  split
  · split_ifs
    · exact State.link_stopJob hr _ _ _ _
    · rfl
  · rfl

theorem State.link_leaveTorch (s : State) (p r : Port) (t : Torch) : (s.leaveTorch p t).link r = s.link r := by
  dsimp only [State.leaveTorch]
  split_ifs <;> rfl

/-! ## A torch but for its number -/

/-- R62: the torch differs from another by its number at most, and one without a number not at all. -/
def Torch.Renumbers (t u : Torch) : Prop := u = { t with seq := u.seq } ∧ (t.seq = 0 → u = t)

theorem Torch.Renumbers.refl (t : Torch) : t.Renumbers t := ⟨rfl, fun _ => rfl⟩

theorem Torch.Renumbers.trans {t u v : Torch} (h : t.Renumbers u) (h' : u.Renumbers v) : t.Renumbers v := by
  refine ⟨?_, fun h0 => ?_⟩
  · rw [h'.1, h.1]
  · rw [← h.2 h0]
    exact h'.2 (h.2 h0 ▸ h0)

theorem Torch.renumbers_closedUp (t : Torch) (k : Nat) : t.Renumbers (t.closedUp k) := by
  unfold Torch.closedUp
  split_ifs with h
  · exact ⟨rfl, fun h0 => absurd h (by omega)⟩
  · exact .refl t

theorem State.renumbers_leaveTorch (s : State) {p q : Port} (h : q ≠ p) (t : Torch) :
    (s.torch q).Renumbers ((s.leaveTorch p t).torch q) := by
  rw [State.torch_leaveTorch, if_neg (Ne.symm h)]
  split_ifs
  · exact Torch.renumbers_closedUp _ _
  · exact .refl _

/-- A torch that has gone out and has no number is what it was made. -/
theorem State.torch_leaveTorch_self (s : State) (p : Port) {t : Torch} (h : t.seq = 0) :
    (s.leaveTorch p t).torch p = t := by
  rw [State.torch_leaveTorch, if_pos rfl]
  split_ifs
  · exact (Torch.renumbers_closedUp t _).2 h
  · rfl

/-! ## One torch at a hall stop -/

/-- R81: the torch that a hall stop leaves. -/
def Torch.halted (t : Torch) : Torch :=
  match t.state with
  | .starting | .burning => t.dropped
  | .waiting => .idle
  | .idle | .dropped => t

theorem Torch.halted_of_lit {t : Torch} (h : t.state.lit = true) : t.halted = t.dropped := by
  obtain hst | hst := TorchState.lit_iff.mp h <;> simp only [Torch.halted, hst]

theorem Torch.halted_of_waiting {t : Torch} (h : t.state = .waiting) : t.halted = .idle := by
  simp only [Torch.halted, h]

/-- A torch that neither waits nor is lit. -/
def Torch.Dark (t : Torch) : Prop := t.state = .idle ∨ t.state = .dropped

theorem Torch.Dark.not_lit {t : Torch} (h : t.Dark) : t.state.lit = false := by
  obtain h | h := h <;> rw [h] <;> rfl

theorem Torch.Dark.not_waiting {t : Torch} (h : t.Dark) : t.state ≠ .waiting := by
  obtain h | h := h <;> rw [h] <;> decide

theorem Torch.halted_of_dark {t : Torch} (h : t.Dark) : t.halted = t := by
  obtain hst | hst := h <;> simp only [Torch.halted, hst]

theorem Torch.dark_or (t : Torch) : t.state.lit = true ∨ t.state = .waiting ∨ t.Dark := by
  unfold Torch.Dark
  cases t.state <;> simp [TorchState.lit]

theorem Torch.dark_halted (t : Torch) : t.halted.Dark := by
  obtain h | h | h := t.dark_or
  · rw [Torch.halted_of_lit h]
    exact .inr rfl
  · rw [Torch.halted_of_waiting h]
    exact .inl rfl
  · rwa [Torch.halted_of_dark h]

/-- A link with a notice that names a torch's job. -/
def Link.offerJob (t : Torch) (f : Nat → Nat → Notice) (l : Link) : Link :=
  match t.job with
  | some (b, n) => l.offer (f b n)
  | none => l

theorem State.link_notifyJob (s : State) (p r : Port) (t : Torch) (f : Nat → Nat → Notice) :
    (s.notifyJob p t f).link r = if p = r then (s.link r).offerJob t f else s.link r := by
  unfold State.notifyJob Link.offerJob
  cases t.job with
  | none => exact (ite_self _).symm
  | some bn =>
    change (s.notify p (f bn.1 bn.2)).link r = _
    rw [State.notify, State.link_setLink]
    split_ifs with h
    · rw [h]
    · rfl

/-- R81: the link of a port at a hall stop. -/
def Link.halted (t : Torch) (l : Link) : Link :=
  if t.state.lit = true then l.offerJob t .halted
  else if t.state = .waiting then l.offerJob t .startTimeout
  else l

section
variable {s : State} {q : Port}

theorem State.haltTorch_of_lit (h : (s.torch q).state.lit = true) :
    s.haltTorch q = ((s.dropTorch q).stopHeld q true).notifyJob q (s.torch q) .halted := by
  obtain hst | hst := TorchState.lit_iff.mp h <;> simp only [State.haltTorch, hst]

theorem State.haltTorch_of_waiting (h : (s.torch q).state = .waiting) :
    s.haltTorch q = ((s.unqueue q).idleTorch q).notifyJob q (s.torch q) .startTimeout := by
  simp only [State.haltTorch, h]

theorem State.haltTorch_of_dark (h : (s.torch q).Dark) : s.haltTorch q = s := by
  obtain hst | hst := h <;> simp only [State.haltTorch, hst]

end

theorem State.torch_haltTorch (s : State) (q : Port) : (s.haltTorch q).torch q = (s.torch q).halted := by
  obtain h | h | h := (s.torch q).dark_or
  · rw [State.haltTorch_of_lit h, Torch.halted_of_lit h, State.torch_congr (s := s.dropTorch q) (by simp) q]
    exact State.torch_leaveTorch_self s q rfl
  · rw [State.haltTorch_of_waiting h, Torch.halted_of_waiting h,
      State.torch_congr (s := (s.unqueue q).idleTorch q) (by simp) q]
    exact State.torch_leaveTorch_self (s.unqueue q) q rfl
  · rw [State.haltTorch_of_dark h, Torch.halted_of_dark h]

theorem State.renumbers_haltTorch (s : State) {q r : Port} (hr : r ≠ q) :
    (s.torch r).Renumbers ((s.haltTorch q).torch r) := by
  obtain h | h | h := (s.torch q).dark_or
  · have htorch : (s.haltTorch q).torch r = (s.dropTorch q).torch r := by
      rw [State.haltTorch_of_lit h]
      exact State.torch_congr (by simp) r
    rw [htorch]
    exact s.renumbers_leaveTorch hr _
  · have htorch : (s.haltTorch q).torch r = ((s.unqueue q).idleTorch q).torch r := by
      rw [State.haltTorch_of_waiting h]
      exact State.torch_congr (by simp) r
    rw [htorch]
    exact (s.unqueue q).renumbers_leaveTorch hr _
  · rw [State.haltTorch_of_dark h]
    exact .refl _

theorem State.link_haltTorch (s : State) (q : Port) {r : Port} (hr : r ≠ 0) :
    (s.haltTorch q).link r = if q = r then (s.link r).halted (s.torch r) else s.link r := by
  unfold Link.halted
  obtain h | h | h := (s.torch q).dark_or
  · rw [State.haltTorch_of_lit h, State.link_notifyJob, State.link_stopHeld hr, State.dropTorch_eq, State.link_leaveTorch]
    refine ite_congr rfl (fun hqr => ?_) fun _ => rfl
    rw [← hqr, if_pos h]
  · rw [State.haltTorch_of_waiting h, State.link_notifyJob, State.idleTorch, State.link_leaveTorch]
    refine ite_congr rfl (fun hqr => ?_) fun _ => rfl
    rw [← hqr, h]
    rfl
  · rw [State.haltTorch_of_dark h]
    split_ifs with hqr hlit hw
    · rw [← hqr, h.not_lit] at hlit
      exact absurd hlit (by decide)
    · exact absurd (hqr ▸ hw) h.not_waiting
    · rfl
    · rfl

/-! ## Every torch at a hall stop -/

/-- R81: the hall stop of the ports of a list. -/
structure State.Halted (s : State) (l : List Port) (u : State) : Prop where
  torch_of_mem : ∀ q ∈ l, u.torch q = (s.torch q).halted
  torch_of_not_mem : ∀ q, q ∉ l → (s.torch q).Renumbers (u.torch q)
  link_of_mem : ∀ q ∈ l, q ≠ 0 → u.link q = (s.link q).halted (s.torch q)
  link_of_not_mem : ∀ q, q ∉ l → q ≠ 0 → u.link q = s.link q

theorem Torch.halted_seq {t : Torch} (h : t.state.lit = false → t.seq = 0) : t.halted.seq = 0 := by
  obtain hl | hw | hd := t.dark_or
  · rw [Torch.halted_of_lit hl]
    rfl
  · rw [Torch.halted_of_waiting hw]
    rfl
  · rw [Torch.halted_of_dark hd]
    exact h hd.not_lit

theorem Torch.Renumbers.halted {t u : Torch} (h : t.Renumbers u) (hz : t.state.lit = false → t.seq = 0) :
    u.halted = t.halted := by
  obtain hl | hw | hd := t.dark_or
  · rw [h.1, Torch.halted_of_lit hl, Torch.halted_of_lit (t := { t with seq := u.seq }) hl]
    rfl
  · rw [h.1, Torch.halted_of_waiting hw, Torch.halted_of_waiting (t := { t with seq := u.seq }) hw]
  · rw [h.2 (hz hd.not_lit)]

theorem Torch.Renumbers.link_halted {t u : Torch} (h : t.Renumbers u) (l : Link) : l.halted u = l.halted t := by
  rw [h.1]
  rfl

theorem State.halted_foldl (s : State) (hz : ∀ q, (s.torch q).state.lit = false → (s.torch q).seq = 0) (l : List Port)
    (hn : l.Nodup) : s.Halted l (l.foldl (fun s q => s.haltTorch q) s) := by
  induction l using List.reverseRecOn with
  | nil => exact ⟨nofun, fun _ _ => .refl _, nofun, fun _ _ _ => rfl⟩
  | append_singleton l p ih =>
    obtain ⟨hl, -, hp⟩ := List.nodup_append.mp hn
    have hpl : p ∉ l := fun h => hp p h p (List.mem_singleton_self p) rfl
    rw [List.foldl_append, List.foldl_cons, List.foldl_nil]
    generalize l.foldl (fun s q => s.haltTorch q) s = u at ih
    obtain ⟨htorch, htorch', hlink, hlink'⟩ := ih hl
    have hmem {q : Port} (hq : q ∈ l ++ [p]) (hqp : q ≠ p) : q ∈ l :=
      (List.mem_append.mp hq).resolve_right fun h => hqp (List.mem_singleton.mp h)
    have hnot {q : Port} (hq : q ∉ l ++ [p]) : q ∉ l ∧ q ≠ p := by
      rwa [List.mem_append, not_or, List.mem_singleton] at hq
    refine ⟨fun q hq => ?_, fun q hq => ?_, fun q hq hq0 => ?_, fun q hq hq0 => ?_⟩
    · by_cases hqp : q = p
      · subst hqp
        rw [State.torch_haltTorch, (htorch' q hpl).halted (hz q)]
      · have hq' := htorch q (hmem hq hqp)
        rw [(u.renumbers_haltTorch hqp).2 (by rw [hq', Torch.halted_seq (hz q)]), hq']
    · exact (htorch' q (hnot hq).1).trans (u.renumbers_haltTorch (hnot hq).2)
    · rw [State.link_haltTorch u p hq0]
      by_cases hqp : q = p
      · subst hqp
        rw [if_pos rfl, hlink' q hpl hq0, (htorch' q hpl).link_halted]
      · rw [if_neg (Ne.symm hqp), hlink q (hmem hq hqp) hq0]
    · rw [State.link_haltTorch u p hq0, if_neg (Ne.symm (hnot hq).2), hlink' q (hnot hq).1 hq0]

end Sys2Proof.Machine
end

section
/-! The jobs at a lapse and at a hall stop (R152, R81): which jobs a change spares, and what becomes of the others. -/

namespace Sys2Proof.Machine

open Sys2Proof

/-! ## Changes of the jobs of some ports -/

/-- A job that a change makes of one held by a port of a list: it keeps its number, and its taker if it has one. -/
def Job.KeptFor (l : List Port) (j : Job) (o : Option Job) : Prop :=
  ∃ r ∈ l, j.taker = some r ∧ ∀ k, o = some k → k.number = j.number ∧ (k.taker = none ∨ k.taker = some r)

/-- Every job stays as it was, but for those that ports of the list have taken. -/
def State.Spares (s : State) (l : List Port) (u : State) : Prop :=
  ∃ F : Nat → Job → Option Job, (∀ b, (u.table b).jobs = (s.table b).jobs.filterMap (F b)) ∧
    ∀ b, ∀ j ∈ (s.table b).jobs, F b j = some j ∨ j.KeptFor l (F b j)

namespace State.Spares

variable {s u v : State} {l m : List Port}

theorem of_tables (h : u.tables = s.tables) : s.Spares l u :=
  ⟨fun _ => some, fun b => by rw [State.table_congr h b, List.filterMap_some], fun _ _ _ => .inl rfl⟩

theorem mono (h : s.Spares l u) (hl : l ⊆ m) : s.Spares m u := by
  obtain ⟨F, hF, hspare⟩ := h
  refine ⟨F, hF, fun b j hj => (hspare b j hj).imp_right ?_⟩
  rintro ⟨r, hr, h⟩
  exact ⟨r, hl hr, h⟩

theorem trans (h : s.Spares l u) (h' : u.Spares m v) : s.Spares (l ++ m) v := by
  obtain ⟨F, hF, hspare⟩ := h
  obtain ⟨G, hG, hspare'⟩ := h'
  refine ⟨fun b j => (F b j).bind (G b), fun b => by rw [hG, hF, List.filterMap_filterMap], fun b j hj => ?_⟩
  have hnext {k : Job} (hk : F b j = some k) : k ∈ (u.table b).jobs := by
    rw [hF]
    exact List.mem_filterMap.mpr ⟨j, hj, hk⟩
  obtain hsame | ⟨r, hr, htaker, hkeep⟩ := hspare b j hj
  · dsimp only
    rw [hsame, Option.bind_some]
    refine (hspare' b j (hnext hsame)).imp_right ?_
    rintro ⟨r, hr, h⟩
    exact ⟨r, List.mem_append_right l hr, h⟩
  · refine .inr ⟨r, List.mem_append_left m hr, htaker, fun k hk => ?_⟩
    obtain ⟨i, hi, hik⟩ := Option.bind_eq_some_iff.mp hk
    obtain ⟨hnum, htak⟩ := hkeep i hi
    obtain hsame | ⟨r', -, htaker', hkeep'⟩ := hspare' b i (hnext hi)
    · obtain rfl := Option.some.inj (hik.symm.trans hsame)
      exact ⟨hnum, htak⟩
    · obtain ⟨hnum', htak'⟩ := hkeep' k hik
      refine ⟨hnum'.trans hnum, htak'.imp_right fun h => ?_⟩
      obtain hnone | hsome := htak
      · rw [hnone] at htaker'
        cases htaker'
      · rw [h, ← htaker', hsome]

/-- A job that no port of the list has taken stays. -/
theorem mem (h : s.Spares l u) {b : Nat} {j : Job} (hj : j ∈ (s.table b).jobs) (hl : ∀ r ∈ l, j.taker ≠ some r) :
    j ∈ (u.table b).jobs := by
  obtain ⟨F, hF, hspare⟩ := h
  rw [hF]
  obtain hsame | ⟨r, hr, htaker, -⟩ := hspare b j hj
  · exact List.mem_filterMap.mpr ⟨j, hj, hsame⟩
  · exact absurd htaker (hl r hr)

/-- No number enters a table. -/
theorem number (h : s.Spares l u) {b n : Nat} (hn : ∀ j ∈ (s.table b).jobs, j.number ≠ n) :
    ∀ k ∈ (u.table b).jobs, k.number ≠ n := by
  obtain ⟨F, hF, hspare⟩ := h
  intro k hk
  rw [hF] at hk
  obtain ⟨j, hj, hjk⟩ := List.mem_filterMap.mp hk
  obtain hsame | ⟨r, -, -, hkeep⟩ := hspare b j hj
  · obtain rfl := Option.some.inj (hjk.symm.trans hsame)
    exact hn k hj
  · rw [(hkeep k hjk).1]
    exact hn j hj

/-- R43: the ports outside the list hold what they held. -/
theorem heldJob (h : s.Spares l u) {q : Port} (hq : q ∉ l) : u.heldJob q = s.heldJob q := by
  obtain ⟨F, hF, hspare⟩ := h
  let f : Nat × Job → Option (Nat × Job) := fun bj => (F bj.1 bj.2).map (Prod.mk bj.1)
  have hall : u.allJobs = s.allJobs.filterMap f := by
    rw [State.allJobs, State.allJobs, List.filterMap_flatMap]
    congr 1
    funext b
    rw [hF b, List.map_filterMap, List.filterMap_map]
    rfl
  rw [State.heldJob, State.heldJob, hall]
  have hmem : ∀ bj ∈ s.allJobs, bj.2 ∈ (s.table bj.1).jobs := fun bj h => State.mem_allJobs.mp h
  generalize s.allJobs = jobs at hmem
  induction jobs with
  | nil => rfl
  | cons bj rest ih =>
    have hrest := ih fun x hx => hmem x (List.mem_cons_of_mem _ hx)
    obtain hsame | ⟨r, hr, htaker, hkeep⟩ := hspare bj.1 bj.2 (hmem bj (List.mem_cons_self ..))
    · have hf : f bj = some bj := by simp only [f, hsame, Option.map_some]
      rw [List.filterMap_cons_some hf, List.find?_cons, List.find?_cons, hrest]
    · have hother {o : Option Port} (h : o = none ∨ o = some r) : o ≠ some q := by
        obtain rfl | rfl := h
        · exact nofun
        · exact fun he => hq (Option.some.inj he ▸ hr)
      rw [List.find?_cons_of_neg (a := bj) (by simpa using fun h => absurd h (hother (.inr htaker))), ← hrest]
      cases hk : F bj.1 bj.2 with
      | none => rw [List.filterMap_cons_none (by simp only [f, hk, Option.map_none])]
      | some k =>
        have hf : f bj = some (bj.1, k) := by simp only [f, hk, Option.map_some]
        rw [List.filterMap_cons_some hf,
          List.find?_cons_of_neg (by simpa using fun h => absurd h (hother (hkeep k hk).2))]

end State.Spares

/-! ## The job of one port -/

section
variable {s : State} {p : Port} {b : Nat} {j : Job}

/-- A change of the job of a bed that has a given number. -/
def onJob (b n : Nat) (g : Job → Option Job) (c : Nat) (k : Job) : Option Job := if b = c ∧ k.number = n then g k else some k

theorem onJob_self {n : Nat} {g : Job → Option Job} {k : Job} (h : k.number = n) : onJob b n g b k = g k := if_pos ⟨rfl, h⟩

theorem onJob_of_not {n c : Nat} {g : Job → Option Job} {k : Job} (h : ¬(b = c ∧ k.number = n)) :
    onJob b n g c k = some k := if_neg h

/-- The tables but for that of a bed are as they were. -/
theorem filterMap_onJob_of_not {n c : Nat} (g : Job → Option Job) (h : ¬(b = c ∧ c < 48)) :
    (s.table c).jobs.filterMap (onJob b n g c) = (s.table c).jobs :=
  (List.filterMap_congr fun _ hk => onJob_of_not fun h' => h ⟨h'.1, State.lt_of_mem_jobs hk⟩).trans List.filterMap_some

/-- A change of the one job that a port holds spares the others. -/
theorem State.Holds.spares {u : State} (hl : s.TableLaw) (hj : s.Holds p b j) {g : Job → Option Job}
    (hu : ∀ c, (u.table c).jobs = (s.table c).jobs.filterMap (onJob b j.number g c))
    (hg : ∀ k, g j = some k → k.number = j.number ∧ (k.taker = none ∨ k.taker = j.taker)) : s.Spares [p] u := by
  refine ⟨onJob b j.number g, hu, fun c k hk => ?_⟩
  by_cases hn : b = c ∧ k.number = j.number
  · obtain ⟨rfl, hn⟩ := hn
    obtain rfl := hl.eq_of_number hj.1 hk hn
    refine .inr ⟨p, List.mem_singleton_self p, hj.2.1, fun i hi => ?_⟩
    rw [onJob_self rfl] at hi
    exact hj.2.1 ▸ hg i hi
  · exact .inl (onJob_of_not hn)

theorem State.Holds.spares_setJob (hl : s.TableLaw) (hj : s.Holds p b j) {f : Job → Job}
    (hf : (f j).number = j.number ∧ ((f j).taker = none ∨ (f j).taker = j.taker)) :
    s.Spares [p] (s.setJob b j.number f) := by
  refine hj.spares hl (g := fun k => some (f k)) (fun c => ?_) fun k hk => Option.some.inj hk ▸ hf
  rw [State.setJob, State.table_setTable]
  by_cases hc : b = c ∧ c < 48
  · obtain ⟨rfl, hlt⟩ := hc
    rw [if_pos ⟨rfl, hlt⟩, ← List.filterMap_eq_map]
    refine List.filterMap_congr fun k _ => ?_
    unfold onJob
    rw [Function.comp_apply, changeJob]
    by_cases hn : k.number = j.number
    · rw [if_pos hn, if_pos ⟨rfl, hn⟩]
    · rw [if_neg hn, if_neg fun h => hn h.2]
  · rw [if_neg hc, filterMap_onJob_of_not _ hc]

theorem State.Holds.spares_removeJob (hl : s.TableLaw) (hj : s.Holds p b j) {j' : Job} (hn' : j'.number = j.number)
    (o : Completion) : s.Spares [p] (s.removeJob b j' o) := by
  have htable (c : Nat) : (s.push b (j'.logRecord o)).table c = s.table c := State.table_congr (by simp) c
  refine hj.spares hl (g := fun _ => none) (fun c => ?_) nofun
  rw [State.removeJob, State.table_setTable, htable, htable]
  by_cases hc : b = c ∧ c < 48
  · obtain ⟨rfl, hlt⟩ := hc
    rw [if_pos ⟨rfl, hlt⟩, ← List.filterMap_eq_filter]
    refine List.filterMap_congr fun k _ => ?_
    by_cases hn : k.number = j.number <;> simp [onJob, hn, hn', Option.guard]
  · rw [if_neg hc, filterMap_onJob_of_not _ hc]

/-- R51, R52: what is left of a job that stops with a drop count. -/
def State.Stopped (u : State) (b : Nat) (j : Job) (drops : Nat) : Prop :=
  if j.cancelPending = true then ∀ k ∈ (u.table b).jobs, k.number ≠ j.number
  else { j with state := .held, taker := none, timer := none, drops := drops } ∈ (u.table b).jobs

theorem State.Stopped.spares {u v : State} {drops : Nat} {l : List Port} (h : u.Stopped b j drops) (hv : u.Spares l v) :
    v.Stopped b j drops := by
  unfold State.Stopped at h ⊢
  split_ifs at h ⊢
  · exact hv.number h
  · exact hv.mem h fun _ _ => nofun

theorem State.Holds.mem_toHeld (hj : s.Holds p b j) (drops : Nat) :
    { j with state := .held, taker := none, timer := none, drops := drops } ∈
      ((s.setJob b j.number (Job.toHeld drops)).table b).jobs :=
  State.mem_setJob.mpr ⟨j, hj.1, by rw [if_pos rfl, changeJob, if_pos rfl]; rfl⟩

/-- R51: the drop count of a job that stops. -/
def Job.stopDrops (j : Job) (bump : Bool) : Nat := if bump then countUp Config.maxDrops j.drops else j.drops

theorem State.stopJob_of_cancel (h : j.cancelPending = true) (bump : Bool) :
    s.stopJob b j bump = s.removeJob b { j with drops := j.stopDrops bump } .cancelled := if_pos h

theorem State.stopJob_of_not_cancel (h : j.cancelPending ≠ true) (bump : Bool) :
    s.stopJob b j bump = s.setJob b j.number (Job.toHeld (j.stopDrops bump)) := if_neg h

theorem State.Holds.spares_toHeld (hl : s.TableLaw) (hj : s.Holds p b j) (drops : Nat) :
    s.Spares [p] (s.setJob b j.number (Job.toHeld drops)) :=
  hj.spares_setJob hl (f := Job.toHeld drops) ⟨rfl, .inl rfl⟩

theorem State.Holds.spares_stopJob (hl : s.TableLaw) (hj : s.Holds p b j) (bump : Bool) :
    s.Spares [p] (s.stopJob b j bump) := by
  by_cases hc : j.cancelPending = true
  · rw [State.stopJob_of_cancel hc]
    exact hj.spares_removeJob hl (j' := { j with drops := j.stopDrops bump }) rfl .cancelled
  · rw [State.stopJob_of_not_cancel hc]
    exact hj.spares_toHeld hl _

theorem State.Holds.stopJob_stopped (hj : s.Holds p b j) (bump : Bool) :
    (s.stopJob b j bump).Stopped b j (j.stopDrops bump) := by
  unfold State.Stopped
  by_cases hc : j.cancelPending = true
  · rw [if_pos hc, State.stopJob_of_cancel hc]
    exact fun k hk => (State.mem_removeJob.mp hk).2 rfl
  · rw [if_neg hc, State.stopJob_of_not_cancel hc]
    exact hj.mem_toHeld _

theorem State.TableLaw.spares_stopHeld (hl : s.TableLaw) (p : Port) (bump : Bool) : s.Spares [p] (s.stopHeld p bump) := by
  unfold State.stopHeld
  split
  · split_ifs
    · exact (State.holds_of_heldJob ‹_›).spares_stopJob hl _
    · exact .of_tables rfl
  · exact .of_tables rfl

theorem State.TableLaw.spares_lapseJob (hl : s.TableLaw) (p : Port) : s.Spares [p] (s.lapseJob p) := by
  unfold State.lapseJob
  split
  · have hj := State.holds_of_heldJob ‹_›
    split_ifs
    · exact hj.spares_stopJob hl _
    · exact hj.spares_toHeld hl _
  · exact .of_tables rfl

/-- R81: the job of a port whose torch was lit. -/
theorem State.stopHeld_stopped (hj : s.heldJob p = some (b, j)) (hlit : j.state.lit = true) :
    (s.stopHeld p true).Stopped b j (min 255 (j.drops + 1)) := by
  rw [show s.stopHeld p true = s.stopJob b j true by rw [State.stopHeld, hj]; exact if_pos hlit]
  exact (State.holds_of_heldJob hj).stopJob_stopped true

/-- R152, R52: the job of a lapsed port. -/
theorem State.lapseJob_stopped (hj : s.heldJob p = some (b, j)) :
    if j.cancelPending = true ∧ j.state.lit = true then ∀ k ∈ ((s.lapseJob p).table b).jobs, k.number ≠ j.number
    else { j with state := .held, taker := none, timer := none } ∈ ((s.lapseJob p).table b).jobs := by
  have hh := State.holds_of_heldJob hj
  have hlapse : s.lapseJob p = if j.state.lit then s.stopJob b j false else s.setJob b j.number (Job.toHeld j.drops) := by
    rw [State.lapseJob, hj]
  rw [hlapse]
  by_cases hlit : j.state.lit = true
  · have hstop := hh.stopJob_stopped false
    rw [if_pos hlit]
    refine (if_congr (and_iff_left hlit) rfl rfl).mpr ?_
    exact hstop
  · rw [if_neg hlit, if_neg fun h => hlit h.2]
    exact hh.mem_toHeld j.drops

end

end Sys2Proof.Machine
end

section
/-! The lapse (R151, R152, R154, R80, R81). -/

namespace Sys2Proof.Machine

open Sys2Proof

/-! ## The jobs at a hall stop -/

section
variable {s : State}

theorem State.TableLaw.spares_haltTorch (hl : s.TableLaw) (q : Port) : s.Spares [q] (s.haltTorch q) := by
  obtain h | h | h := (s.torch q).dark_or
  · rw [State.haltTorch_of_lit h]
    have hdrop : (s.dropTorch q).tables = s.tables := by simp
    have hstop : (s.dropTorch q).Spares [q] ((s.dropTorch q).stopHeld q true) :=
      (tableLaw_changesKeep.leaveTorch q _ hl).spares_stopHeld q true
    exact ((State.Spares.of_tables (l := []) hdrop).trans hstop).trans (.of_tables (l := []) (by simp))
  · rw [State.haltTorch_of_waiting h]
    exact .of_tables (by simp)
  · rw [State.haltTorch_of_dark h]
    exact .of_tables rfl

theorem State.TableLaw.spares_haltAll (hl : s.TableLaw) (l : List Port) :
    s.Spares l (l.foldl (fun s q => s.haltTorch q) s) := by
  induction l generalizing s with
  | nil => exact .of_tables rfl
  | cons q rest ih => exact (hl.spares_haltTorch q).trans (ih (tableLaw_changesKeep.haltTorch q hl))

/-- R81: the job that a port holds stops where the torch is lit, and stays where it is not. -/
theorem State.haltTorch_job {q : Port} {b : Nat} {j : Job} (hj : s.heldJob q = some (b, j)) :
    ((s.torch q).state.lit = false → j ∈ ((s.haltTorch q).table b).jobs)
      ∧ ((s.torch q).state.lit = true → j.state.lit = true → (s.haltTorch q).Stopped b j (j.stopDrops true)) := by
  refine ⟨fun hdark => ?_, fun hlit hjlit => ?_⟩
  · have htables : (s.haltTorch q).tables = s.tables := by
      obtain h | h | h := (s.torch q).dark_or
      · rw [hdark] at h
        cases h
      · rw [State.haltTorch_of_waiting h]
        simp
      · rw [State.haltTorch_of_dark h]
    rw [State.table_congr htables]
    exact (State.holds_of_heldJob hj).1
  · rw [State.haltTorch_of_lit hlit]
    have hheld : (s.dropTorch q).heldJob q = some (b, j) := by
      rw [State.heldJob_congr (s := s) (by simp), hj]
    exact (State.stopHeld_stopped hheld hjlit).spares (.of_tables (l := []) (by simp))

theorem State.TableLaw.haltAll_job (hl : s.TableLaw) (hz : ∀ q, (s.torch q).state.lit = false → (s.torch q).seq = 0)
    {q : Port} {b : Nat} {j : Job} (hj : s.heldJob q = some (b, j)) :
    ((s.torch q).state.lit = false → j ∈ ((allPorts.foldl (fun s q => s.haltTorch q) s).table b).jobs)
      ∧ ((s.torch q).state.lit = true → j.state.lit = true →
        (allPorts.foldl (fun s q => s.haltTorch q) s).Stopped b j (j.stopDrops true)) := by
  obtain ⟨l, m, hsplit⟩ := List.append_of_mem (mem_allPorts q)
  have hn : (l ++ q :: m).Nodup := hsplit ▸ by decide
  obtain ⟨hnl, hnm, hapart⟩ := List.nodup_append.mp hn
  have hql : q ∉ l := fun h => hapart q h q (List.mem_cons_self ..) rfl
  have hqm : q ∉ m := (List.nodup_cons.mp hnm).1
  rw [hsplit, List.foldl_append, List.foldl_cons]
  have hspare := hl.spares_haltAll l
  have hlaw : (l.foldl (fun s q => s.haltTorch q) s).TableLaw :=
    foldl_keeps (fun _ q => tableLaw_changesKeep.haltTorch q) l hl
  have hstate : ((l.foldl (fun s q => s.haltTorch q) s).torch q).state = (s.torch q).state := by
    rw [((s.halted_foldl hz l hnl).torch_of_not_mem q hql).1]
  generalize l.foldl (fun s q => s.haltTorch q) s = u at hspare hlaw hstate
  obtain ⟨hkeep, hstop⟩ := State.haltTorch_job ((hspare.heldJob hql).trans hj)
  rw [hstate] at hkeep hstop
  have hrest := (tableLaw_changesKeep.haltTorch q hlaw).spares_haltAll m
  have htaker := (State.holds_of_heldJob hj).2.1
  refine ⟨fun h => hrest.mem (hkeep h) fun r hr he => hqm ?_, fun h hjlit => (hstop h hjlit).spares hrest⟩
  rwa [Option.some.inj (htaker.symm.trans he)]

end

/-! ## The lapsed port's own part -/

section
variable {s : State} {p : Port}

theorem State.lapseGantry_of_lit (h : (s.torch p).state.lit = true) : s.lapseGantry p = (s.dropTorch p).lapseJob p := by
  obtain hst | hst := TorchState.lit_iff.mp h <;> simp only [State.lapseGantry, hst]

theorem State.lapseGantry_of_waiting (h : (s.torch p).state = .waiting) :
    s.lapseGantry p = ((s.unqueue p).dropTorch p).lapseJob p := by
  simp only [State.lapseGantry, h]

theorem State.lapseGantry_of_dark (h : (s.torch p).Dark) : s.lapseGantry p = s.lapseJob p := by
  obtain hst | hst := h <;> simp only [State.lapseGantry, hst]

/-- R152: the torch that a lapse leaves its port. -/
def Torch.lapsed (t : Torch) : Torch := if t.state = .idle ∨ t.state = .dropped then t else t.dropped

theorem Torch.lapsed_of_dark {t : Torch} (h : t.Dark) : t.lapsed = t := if_pos h

theorem Torch.lapsed_of_waiting {t : Torch} (h : t.state = .waiting) : t.lapsed = t.dropped :=
  if_neg (by rw [h]; decide)

theorem Torch.lapsed_of_lit {t : Torch} (h : t.state.lit = true) : t.lapsed = t.dropped :=
  if_neg fun hd => by rw [Torch.Dark.not_lit hd] at h; cases h

theorem Torch.dark_lapsed (t : Torch) : t.lapsed.Dark := by
  unfold Torch.lapsed
  split_ifs with h
  · exact h
  · exact .inr rfl

/-- The torch part of the lapse of a gantry port. -/
def State.lapseTorch (p : Port) (s : State) : State :=
  if (s.torch p).state = .waiting then (s.unqueue p).dropTorch p
  else if (s.torch p).state.lit = true then s.dropTorch p
  else s

theorem State.lapseGantry_eq (s : State) (p : Port) : s.lapseGantry p = (s.lapseTorch p).lapseJob p := by
  unfold State.lapseTorch
  obtain h | h | h := (s.torch p).dark_or
  · rw [State.lapseGantry_of_lit h, if_pos h, if_neg fun hw => by rw [hw] at h; cases h]
  · rw [State.lapseGantry_of_waiting h, if_pos h]
  · rw [State.lapseGantry_of_dark h, if_neg h.not_waiting, if_neg (by simp [h.not_lit])]

theorem State.tables_lapseTorch (s : State) (p : Port) : (s.lapseTorch p).tables = s.tables := by
  unfold State.lapseTorch
  split_ifs <;> simp

theorem State.link_lapseTorch (s : State) (p r : Port) : (s.lapseTorch p).link r = s.link r := by
  unfold State.lapseTorch
  split_ifs
  · exact State.link_leaveTorch (s.unqueue p) p r _
  · exact State.link_leaveTorch s p r _
  · rfl

theorem State.torch_lapseTorch (s : State) (p : Port) : (s.lapseTorch p).torch p = (s.torch p).lapsed := by
  unfold State.lapseTorch
  split_ifs with hw hlit
  · rw [Torch.lapsed_of_waiting hw]
    exact State.torch_leaveTorch_self (s.unqueue p) p rfl
  · rw [Torch.lapsed_of_lit hlit]
    exact State.torch_leaveTorch_self s p rfl
  · exact (Torch.lapsed_of_dark ((s.torch p).dark_or.resolve_left hlit |>.resolve_left hw)).symm

theorem State.renumbers_lapseTorch (s : State) {q : Port} (h : q ≠ p) :
    (s.torch q).Renumbers ((s.lapseTorch p).torch q) := by
  unfold State.lapseTorch
  split_ifs
  · exact (s.unqueue p).renumbers_leaveTorch h _
  · exact s.renumbers_leaveTorch h _
  · exact .refl _

end

/-- R151: the steps of a lapse before the latch. -/
def State.lapseOwn (p : Port) (s : State) : State :=
  let r := s.port p
  let left := s.setPort p { r with state := .lapsed, timer := none, lapses := countUp Config.maxCount r.lapses }
  (if s.role p = .gantry then left.lapseGantry p else left).raise .portLapsed p.val

theorem State.lapseSteps_eq (s : State) (p : Port) :
    s.lapseSteps p = if (s.portParams p).mode = .hallStop then (s.lapseOwn p).setLatch p else s.lapseOwn p := by
  have hmode : (s.lapseOwn p).portParams p = s.portParams p := by
    dsimp only [State.lapseOwn]
    split_ifs <;> simp [State.portParams]
  rw [← hmode]
  rfl

/-- R151, R152: what the lapse of a port leaves before the latch. -/
structure State.LapsedOwn (s : State) (p : Port) (u : State) : Prop where
  queueLaw : u.QueueLaw
  tableLaw : u.TableLaw
  hallStop : u.hallStop = s.hallStop
  torch_self : u.torch p = (s.torch p).lapsed
  torch : ∀ q, q ≠ p → (s.torch q).Renumbers (u.torch q)
  link : ∀ q, q ≠ 0 → u.link q = s.link q
  spares : s.Spares [p] u
  job : s.role p = .gantry → ∀ b j, s.heldJob p = some (b, j) →
    if j.cancelPending = true ∧ j.state.lit = true then ∀ k ∈ (u.table b).jobs, k.number ≠ j.number
    else { j with state := .held, taker := none, timer := none } ∈ (u.table b).jobs

theorem State.lapsedOwn_lapseOwn {s : State} (hq : s.QueueLaw) (hp : s.PermitLaw) (hl : s.TableLaw) (p : Port) :
    s.LapsedOwn p (s.lapseOwn p) := by
  have hdark (hr : s.role p ≠ .gantry) : (s.torch p).Dark := by
    obtain h | h | h := (s.torch p).dark_or
    · exact absurd (hp p (.inl h)).2.1 hr
    · exact absurd (hp p (.inr h)).2.1 hr
    · exact h
  dsimp only [State.lapseOwn]
  generalize ({ s.port p with
    state := .lapsed, timer := none, lapses := countUp Config.maxCount (s.port p).lapses } : PortRecord) = r
  have hset : (s.setPort p r).TableLaw := hl
  have htorch (u : State) (q : Port) : (u.raise .portLapsed p.val).torch q = u.torch q := State.torch_congr (by simp) q
  by_cases hr : s.role p = .gantry
  · rw [if_pos hr]
    have hl' : ((s.setPort p r).lapseTorch p).TableLaw :=
      hset.reads fun x hx => by
        obtain rfl := List.mem_singleton.mp hx
        exact State.tables_lapseTorch _ p
    have hjob (q : Port) : (((s.setPort p r).lapseGantry p).raise .portLapsed p.val).torch q
        = ((s.setPort p r).lapseTorch p).torch q := by
      rw [htorch, State.lapseGantry_eq]
      exact State.torch_congr (by simp) q
    refine ⟨?_, ?_, ?_, ?_, fun q hqp => ?_, fun q hq0 => ?_, ?_, fun _ b j hj => ?_⟩
    · exact ((arcMoves_lapseGantry (s.setPort p r) p).raise _ _).queueLaw hq
    · exact tableLaw_changesKeep.raise _ _ (tableLaw_changesKeep.lapseGantry p hset)
    · simp
    · rw [hjob, State.torch_lapseTorch]
      rfl
    · rw [hjob]
      exact (s.setPort p r).renumbers_lapseTorch hqp
    · rw [State.link_raise hq0, State.lapseGantry_eq, State.link_lapseJob hq0, State.link_lapseTorch]
      rfl
    · rw [State.lapseGantry_eq]
      exact ((State.Spares.of_tables (s := s) (l := []) (State.tables_lapseTorch (s.setPort p r) p)).trans
        (hl'.spares_lapseJob p)).trans (.of_tables (l := []) (by simp))
    · have hheld : ((s.setPort p r).lapseTorch p).heldJob p = some (b, j) := by
        rw [State.heldJob_congr (State.tables_lapseTorch _ p)]
        exact hj
      rw [State.lapseGantry_eq, State.table_congr (s := ((s.setPort p r).lapseTorch p).lapseJob p) (by simp)]
      exact State.lapseJob_stopped hheld
  · rw [if_neg hr]
    refine ⟨?_, ?_, ?_, ?_, fun q _ => ?_, fun q hq0 => State.link_raise hq0 _ _ _, .of_tables (by simp), fun h => absurd h hr⟩
    · exact hq.reads (by simp [SameOn, Piece.same])
    · exact tableLaw_changesKeep.raise _ _ hset
    · simp
    · rw [htorch, Torch.lapsed_of_dark (hdark hr)]
      rfl
    · rw [htorch]
      exact .refl _

end Sys2Proof.Machine
end

section
/-! The latch and the walk of a lapse (R154, R81, R72), and the statement of the lapse. -/

namespace Sys2Proof.Machine

open Sys2Proof

/-! ## An alert that has been raised -/

/-- R137: an alert stands on the list, or the list was full. -/
def State.Alerted (a : Alert) (s : State) : Prop := a ∈ s.alerts ∨ 8 ≤ s.alerts.length

theorem State.Alerted.reads {a : Alert} {s t : State} (h : SameOn [.alerts] s t) (hs : s.Alerted a) : t.Alerted a := by
  have : t.alerts = s.alerts := h .alerts (by simp)
  rwa [State.Alerted, this]

theorem State.alerted_raise (s : State) (c : AlertCode) (n : Nat) : (s.raise c n).Alerted ⟨c, n⟩ := by
  unfold State.raise
  split_ifs with h hroom
  · exact .inl (List.contains_iff_mem.mp h)
  · exact .inl (List.mem_append_right _ (List.mem_singleton_self _))
  · exact .inr (not_lt.mp hroom)

theorem State.Alerted.raise {a : Alert} {s : State} (h : s.Alerted a) (c : AlertCode) (n : Nat) : (s.raise c n).Alerted a := by
  unfold State.raise
  split_ifs
  · exact h
  · exact h.imp (List.mem_append_left _) fun hlen => hlen.trans (by simp [State.notify, State.setLink])
  · exact h

theorem State.Alerted.push {a : Alert} {s : State} (h : s.Alerted a) (b : Nat) (r : LogRecord) : (s.push b r).Alerted a := by
  dsimp only [State.push]
  split_ifs
  · exact State.Alerted.raise (s := s.setLog b _) h _ _
  · exact h
  · exact State.Alerted.raise (s := s.setLog b _) h _ _

theorem alerted_changesKeep (a : Alert) : ChangesKeep (State.Alerted a) where
  torch p t hs := hs.reads (by simp [SameOn, Piece.same])
  closeUp k hs := hs.reads (by simp [SameOn, Piece.same])
  queue l hs := hs.reads (by simp [SameOn, Piece.same])
  job b n _ _ hs := hs.reads (by simp [SameOn, Piece.same])
  remove b j o hs := hs.push b (j.logRecord o)
  raise c n hs := hs.raise c n
  notify p n hs := hs.reads (by simp [SameOn, Piece.same])
  record j hs := hs.reads (by simp [SameOn, Piece.same])
  port p r hs := hs.reads (by simp [SameOn, Piece.same])
  latch h hs := hs.reads (by simp [SameOn, Piece.same])
  feeder f hs := hs.reads (by simp [SameOn, Piece.same])

/-! ## The latch and the walk -/

/-- R81: the hall stop of every port. -/
def State.haltAll (s : State) : State := allPorts.foldl (fun s q => s.haltTorch q) s

/-- R81: with no torch lit or waiting there is nothing to halt. -/
theorem State.haltAll_of_dark {s : State} (h : ∀ q, (s.torch q).Dark) : s.haltAll = s := by
  have hall (l : List Port) : l.foldl (fun s q => s.haltTorch q) s = s := by
    induction l with
    | nil => rfl
    | cons q rest ih => rw [List.foldl_cons, State.haltTorch_of_dark (h q), ih]
  exact hall allPorts

/-- R154, R81: the latch is set, and every torch is halted; under a latch that is set no torch is left to halt. -/
theorem State.setLatch_eq {s : State} (h : s.hallStop ≠ none → ∀ q, (s.torch q).Dark) (p : Port) :
    s.setLatch p = (State.haltAll { s with hallStop := some p }).raise .hallStopped 0 := by
  cases hstop : s.hallStop with
  | none => simp only [State.setLatch, hstop, Option.isNone_none, if_true, State.haltAll]
  | some q =>
    rw [State.haltAll_of_dark (s := { s with hallStop := some p }) (h (by rw [hstop]; exact Option.some_ne_none q))]
    simp only [State.setLatch, hstop, Option.isNone_some, Bool.false_eq_true, if_false]

/-- R72: a walk leaves the jobs that no waiting port holds, and the torch and the link of every port that does not wait. -/
theorem State.QueueLaw.runWalk_keeps {s : State} (hq : s.QueueLaw) (hl : s.TableLaw) :
    (∃ l, s.Spares l s.runWalk) ∧
      ∀ q, (s.torch q).state ≠ .waiting → s.runWalk.torch q = s.torch q ∧ s.runWalk.link q = s.link q := by
  by_cases hclosed : s.feeder.stale = true ∨ s.feeder.sag = true ∨ s.hallStop ≠ none
  · have hsame : s.runWalk = s := by
      have hor : (s.feeder.sag || s.feeder.stale || s.hallStop.isSome) = true := by
        obtain h | h | h := hclosed
        · simp [h]
        · simp [h]
        · simp [Option.isSome_iff_ne_none.mpr h]
      rw [State.runWalk, State.walk, hor]
      rfl
    rw [hsame]
    exact ⟨⟨[], .of_tables rfl⟩, fun _ _ => ⟨rfl, rfl⟩⟩
  · obtain ⟨l, heq, hA⟩ := s.walk_admits none hclosed hq
    have hn : l.Nodup := hA.sublist.nodup hq.1
    have hwait : ∀ p ∈ l, (s.torch p).state = .waiting := fun p hp => hq.mem_iff.mp (hA.sublist.subset hp)
    have hadm := s.admitted_admits none l hn hwait
    have hstart := State.startsJobs_admits hl none l hn
    rw [State.runWalk, heq]
    refine ⟨⟨l, fun b j => some (s.startedJob l b j), fun b => ?_, fun b j _ => ?_⟩, fun q hqw => ?_⟩
    · rw [hstart b, ← List.filterMap_eq_map]
      rfl
    · by_cases h : ∃ p ∈ l, s.heldJob p = some (b, j)
      · obtain ⟨p, hp, hj⟩ := h
        have htaker := (State.holds_of_heldJob hj).2.1
        refine .inr ⟨p, hp, htaker, fun k hk => ?_⟩
        obtain rfl := (State.startedJob_of_held hp hj).symm.trans (Option.some.inj hk)
        exact ⟨rfl, .inr htaker⟩
      · exact .inl (congrArg some (State.startedJob_of_not_held fun p hp hj => h ⟨p, hp, hj⟩))
    · have hql : q ∉ l := fun h => hqw (hwait q h)
      exact ⟨hadm.torch_of_not_mem q hql, hadm.link_of_not_mem q hql⟩

/-- R72: the walk of a lapse. -/
theorem State.lapse_keeps {s : State} {p : Port} (hq : (s.lapseSteps p).QueueLaw) (hl : (s.lapseSteps p).TableLaw) :
    (∃ l, (s.lapseSteps p).Spares l (s.lapse p)) ∧ ∀ q, ((s.lapseSteps p).torch q).state ≠ .waiting →
      (s.lapse p).torch q = (s.lapseSteps p).torch q ∧ (s.lapse p).link q = (s.lapseSteps p).link q := by
  unfold State.lapse
  split_ifs
  · exact hq.runWalk_keeps hl
  · exact ⟨⟨[], .of_tables rfl⟩, fun _ _ => ⟨rfl, rfl⟩⟩

/-! ## A lapse without HALL_STOP -/

section
variable {s : State} {p : Port}

theorem State.lapse_of_not_hallStop (h : (s.portParams p).mode ≠ .hallStop) :
    s.lapse p = if s.lapseWalks p then (s.lapseOwn p).runWalk else s.lapseOwn p := by
  rw [State.lapse, State.lapseSteps_eq, if_neg h]

/-- R151: the record of the lapsed port. -/
def State.markLapsed (p : Port) (s : State) : State :=
  s.setPort p ⟨.lapsed, none, min 65535 ((s.port p).lapses + 1), (s.port p).frameErrors⟩

theorem State.lapseOwn_of_gantry (h : s.role p = .gantry) :
    s.lapseOwn p = ((s.markLapsed p).lapseGantry p).raise .portLapsed p.val := by
  rw [State.lapseOwn, if_pos h]
  rfl

theorem State.lapseOwn_of_not_gantry (h : s.role p ≠ .gantry) :
    s.lapseOwn p = (s.markLapsed p).raise .portLapsed p.val := by
  rw [State.lapseOwn, if_neg h]
  rfl

theorem State.lapseWalks_of_not_gantry (h : s.role p ≠ .gantry) : s.lapseWalks p = false := by
  simp [State.lapseWalks, h]

theorem State.lapseWalks_of_gantry (h : s.role p = .gantry) :
    s.lapseWalks p = (decide ((s.torch p).state = .waiting) || (s.torch p).state.lit) := by
  simp [State.lapseWalks, h]

theorem State.lapse_of_not_gantry (hm : (s.portParams p).mode ≠ .hallStop) (hr : s.role p ≠ .gantry) :
    s.lapse p = (s.markLapsed p).raise .portLapsed p.val := by
  rw [State.lapse_of_not_hallStop hm, State.lapseWalks_of_not_gantry hr, State.lapseOwn_of_not_gantry hr]
  rfl

/-- R80: a lapse of a gantry port whose torch waits or is lit brings a walk. -/
theorem State.lapse_of_live (hm : (s.portParams p).mode ≠ .hallStop) (hr : s.role p = .gantry)
    (h : ¬(s.torch p).Dark) : s.lapse p = (((s.markLapsed p).lapseGantry p).raise .portLapsed p.val).runWalk := by
  have hwalks : s.lapseWalks p = true := by
    rw [State.lapseWalks_of_gantry hr, Bool.or_eq_true, decide_eq_true_eq]
    exact (s.torch p).dark_or.symm.imp_left (Or.resolve_right · h) |>.elim .inl .inr
  rw [State.lapse_of_not_hallStop hm, hwalks, State.lapseOwn_of_gantry hr]
  rfl

theorem State.lapse_of_dark (hm : (s.portParams p).mode ≠ .hallStop) (hr : s.role p = .gantry)
    (h : (s.torch p).Dark) : s.lapse p = ((s.markLapsed p).lapseJob p).raise .portLapsed p.val := by
  have hwalks : s.lapseWalks p = false := by
    rw [State.lapseWalks_of_gantry hr, h.not_lit, decide_eq_false h.not_waiting]
    rfl
  rw [State.lapse_of_not_hallStop hm, hwalks, State.lapseOwn_of_gantry hr,
    State.lapseGantry_of_dark (s := s.markLapsed p) h]
  rfl

end

/-! ## A lapse under HALL_STOP -/

/-- R81: what the hall stop of every port leaves of the torches, the links and the jobs. -/
structure State.HaltedAll (v u : State) : Prop where
  torch : ∀ q, u.torch q = (v.torch q).halted
  link : ∀ q, q ≠ 0 → u.link q = (v.link q).halted (v.torch q)
  spares : v.Spares allPorts u
  job : ∀ q b j, v.heldJob q = some (b, j) →
    ((v.torch q).state.lit = false → j ∈ (u.table b).jobs)
      ∧ ((v.torch q).state.lit = true → j.state.lit = true → u.Stopped b j (j.stopDrops true))

theorem Torch.Renumbers.seq_eq_zero {t u : Torch} (h : t.Renumbers u) (hz : t.state.lit = false → t.seq = 0)
    (hu : u.state.lit = false) : u.seq = 0 := by
  have ht : t.seq = 0 := hz (by rw [h.1] at hu; exact hu)
  rw [h.2 ht, ht]

theorem State.haltedAll_lapseSteps {s : State} {p : Port} (hn : s.NumberLaw) (hp : s.PermitLaw)
    (hv : s.LapsedOwn p (s.lapseOwn p)) (hm : (s.portParams p).mode = .hallStop) :
    (s.lapseOwn p).HaltedAll (s.lapseSteps p) := by
  have hdark : (s.lapseOwn p).hallStop ≠ none → ∀ q, ((s.lapseOwn p).torch q).Dark := by
    intro hstop q
    by_cases hqp : q = p
    · rw [hqp, hv.torch_self]
      exact Torch.dark_lapsed _
    · have hstate : ((s.lapseOwn p).torch q).state = (s.torch q).state := by rw [(hv.torch q hqp).1]
      rw [hv.hallStop] at hstop
      obtain h | h | h := ((s.lapseOwn p).torch q).dark_or
      · exact absurd (hp q (.inl (hstate ▸ h))).2.2 hstop
      · exact absurd (hp q (.inr (hstate ▸ h))).2.2 hstop
      · exact h
  have hz : ∀ q, ((s.lapseOwn p).torch q).state.lit = false → ((s.lapseOwn p).torch q).seq = 0 := by
    intro q hlit
    by_cases hqp : q = p
    · subst hqp
      rw [hv.torch_self, Torch.lapsed]
      split_ifs with h
      · exact hn.seq_eq_zero (Torch.Dark.not_lit h)
      · rfl
    · exact Torch.Renumbers.seq_eq_zero (hv.torch q hqp) hn.seq_eq_zero hlit
  rw [State.lapseSteps_eq, if_pos hm, State.setLatch_eq hdark]
  generalize s.lapseOwn p = v at hv hz
  have hh : State.Halted { v with hallStop := some p } allPorts (State.haltAll { v with hallStop := some p }) :=
    State.halted_foldl { v with hallStop := some p } hz allPorts (by decide)
  have hspare : v.Spares allPorts (State.haltAll { v with hallStop := some p }) :=
    State.TableLaw.spares_haltAll (s := { v with hallStop := some p }) hv.tableLaw allPorts
  have hjob {q : Port} {b : Nat} {j : Job} (hj : v.heldJob q = some (b, j)) :=
    State.TableLaw.haltAll_job (s := { v with hallStop := some p }) hv.tableLaw hz hj
  change ∀ {q : Port} {b : Nat} {j : Job}, v.heldJob q = some (b, j) →
    ((v.torch q).state.lit = false → j ∈ ((State.haltAll { v with hallStop := some p }).table b).jobs)
      ∧ ((v.torch q).state.lit = true → j.state.lit = true →
        (State.haltAll { v with hallStop := some p }).Stopped b j (j.stopDrops true)) at hjob
  generalize State.haltAll { v with hallStop := some p } = u at hh hspare hjob
  refine ⟨fun q => ?_, fun q hq0 => ?_, ?_, fun q b j hj => ?_⟩
  · rw [State.torch_congr (s := u) (by simp)]
    exact hh.torch_of_mem q (mem_allPorts q)
  · rw [State.link_raise hq0]
    exact hh.link_of_mem q (mem_allPorts q) hq0
  · exact (hspare.trans (.of_tables (l := []) (by simp))).mono (by simp)
  · have htable (c : Nat) : (u.raise .hallStopped 0).table c = u.table c := State.table_congr (by simp) c
    unfold State.Stopped
    rw [htable]
    exact hjob hj

end Sys2Proof.Machine
end

section
/-! The statement of the lapse (R151, R152, R154). -/

namespace Sys2Proof.Machine

open Sys2Proof

section
variable {s : State} (p : Port)

theorem State.lapse_ports : (s.lapse p).ports =
    s.ports.set p.val ⟨.lapsed, none, min 65535 ((s.port p).lapses + 1), (s.port p).frameErrors⟩ := by
  have hwalk : (s.lapse p).ports = (s.lapseSteps p).ports := by
    unfold State.lapse
    split_ifs <;> simp
  rw [hwalk, State.lapseSteps_ports]
  rfl

theorem State.lapse_hallStop : (s.lapse p).hallStop = if (s.portParams p).mode = .hallStop then some p else s.hallStop := by
  rw [← State.lapseSteps_hallStop]
  unfold State.lapse
  split_ifs <;> simp

/-- A lapse leaves the zones, the register, the cranes, the feeder, the parameters, the store and the holds. -/
theorem State.eq_of_lapse : s.lapse p = { s with
    tables := (s.lapse p).tables, logs := (s.lapse p).logs, torches := (s.lapse p).torches
    startQueue := (s.lapse p).startQueue, committed := (s.lapse p).committed, ports := (s.lapse p).ports
    hallStop := (s.lapse p).hallStop, links := (s.lapse p).links, alerts := (s.lapse p).alerts
    overflow := (s.lapse p).overflow } := by
  have hframe := s.lapse_frame p
  generalize s.lapse p = t at hframe
  obtain ⟨⟩ := t
  obtain ⟨⟩ := s
  simp_all

theorem State.lapse_of_alerted {a : Alert} (h : (s.lapseSteps p).Alerted a) : (s.lapse p).Alerted a := by
  unfold State.lapse
  split_ifs
  · exact (alerted_changesKeep a).runWalk h
  · exact h

theorem State.alerted_lapse : (s.lapse p).Alerted ⟨.portLapsed, p.val⟩ := by
  refine State.lapse_of_alerted p ?_
  have hown : (s.lapseOwn p).Alerted ⟨.portLapsed, p.val⟩ := State.alerted_raise _ _ _
  rw [State.lapseSteps_eq]
  split_ifs
  · exact (alerted_changesKeep _).setLatch p hown
  · exact hown

theorem State.alerted_hallStopped (h : (s.portParams p).mode = .hallStop) : (s.lapse p).Alerted ⟨.hallStopped, 0⟩ := by
  refine State.lapse_of_alerted p ?_
  rw [State.lapseSteps_eq, if_pos h]
  exact State.alerted_raise _ _ _

end

/-- With no torch lit, no load is committed. -/
theorem State.LoadLaw.committed_eq_zero {s : State} (h : s.LoadLaw) (hdark : ∀ q, (s.torch q).Dark) : s.committed = 0 := by
  rw [h]
  refine List.sum_eq_zero fun n hn => ?_
  obtain ⟨q, -, rfl⟩ := List.mem_map.mp hn
  exact Torch.load_of_not_lit (hdark q).not_lit

/-- With no torch waiting, the queue is empty. -/
theorem State.QueueLaw.startQueue_eq_nil {s : State} (h : s.QueueLaw) (hdark : ∀ q, (s.torch q).Dark) : s.startQueue = [] :=
  List.eq_nil_iff_forall_not_mem.mpr fun q hq => (hdark q).not_waiting (h.mem_iff.mp hq)

theorem Link.halted_of_dark {t : Torch} (h : t.Dark) (l : Link) : l.halted t = l := by
  rw [Link.halted, if_neg (by simp [h.not_lit]), if_neg h.not_waiting]

/-- What every lapse leaves of its port, whatever the return mode. -/
theorem State.lapse_own {s : State} {p : Port} (hq : s.QueueLaw) (hn : s.NumberLaw) (hp : s.PermitLaw) (hl : s.TableLaw) :
    (s.lapse p).torch p = (s.torch p).lapsed ∧ (p ≠ 0 → (s.lapse p).link p = s.link p)
      ∧ ∃ l, (s.lapseOwn p).Spares l (s.lapse p) := by
  have hv := State.lapsedOwn_lapseOwn hq hp hl p
  have hw : ((s.lapseSteps p).torch p) = (s.torch p).lapsed ∧ (p ≠ 0 → (s.lapseSteps p).link p = s.link p)
      ∧ (s.lapseOwn p).Spares allPorts (s.lapseSteps p) := by
    by_cases hm : (s.portParams p).mode = .hallStop
    · obtain ⟨htorch, hlink, hspare, -⟩ := State.haltedAll_lapseSteps hn hp hv hm
      have hdark : ((s.lapseOwn p).torch p).Dark := hv.torch_self ▸ Torch.dark_lapsed _
      refine ⟨?_, fun h0 => ?_, hspare⟩
      · rw [htorch, Torch.halted_of_dark hdark, hv.torch_self]
      · rw [hlink p h0, Link.halted_of_dark hdark, hv.link p h0]
    · rw [State.lapseSteps_eq, if_neg hm]
      exact ⟨hv.torch_self, hv.link p, .of_tables rfl⟩
  obtain ⟨htorch, hlink, hspare⟩ := hw
  obtain ⟨⟨l, hwalk⟩, hrest⟩ := State.lapse_keeps ((arcMoves_lapseSteps s p).queueLaw hq) (tableLaw_changesKeep.lapseSteps p hl)
  obtain ⟨ht, hk⟩ := hrest p (by rw [htorch]; exact (Torch.dark_lapsed _).not_waiting)
  exact ⟨ht.trans htorch, fun h0 => hk.trans (hlink h0), _, hspare.trans hwalk⟩

section
variable {s : State} {p : Port}

/-- R81: under HALL_STOP the lapse leaves what the hall stop leaves. -/
theorem State.haltedAll_lapse (hq : s.QueueLaw) (hn : s.NumberLaw) (hp : s.PermitLaw) (hl : s.TableLaw)
    (hm : (s.portParams p).mode = .hallStop) : (s.lapseOwn p).HaltedAll (s.lapse p) := by
  rw [State.lapse_of_hallStop s p hm]
  exact State.haltedAll_lapseSteps hn hp (State.lapsedOwn_lapseOwn hq hp hl p) hm

/-- R81: the torch of another port at a hall stop, written out. -/
theorem Torch.Renumbers.halted_eq {t u : Torch} (h : t.Renumbers u) (hz : t.state.lit = false → t.seq = 0) :
    u.halted = match t.state with
      | .waiting => .idle
      | .starting | .burning => { t with state := .dropped, seq := 0, establish := none, wait := none }
      | .idle | .dropped => t := by
  rw [h.halted hz]
  obtain ht | ht | ht := t.dark_or
  · rw [Torch.halted_of_lit ht]
    obtain hst | hst := TorchState.lit_iff.mp ht <;> simp only [hst] <;> rfl
  · rw [Torch.halted_of_waiting ht]
    simp only [ht]
  · rw [Torch.halted_of_dark ht]
    obtain hst | hst := ht <;> simp only [hst]

/-- R81: the link of another port at a hall stop, written out. -/
theorem Link.halted_eq (t : Torch) (l : Link) :
    l.halted t = match t.state, t.job with
      | .starting, some (b, n) | .burning, some (b, n) => l.offer (.halted b n)
      | .waiting, some (b, n) => l.offer (.startTimeout b n)
      | _, _ => l := by
  unfold Link.halted Link.offerJob
  cases t.state <;> cases t.job <;> rfl

end

/-- Settles O49: the port's own part, then the latch with the hall stop, then the one walk. -/
theorem lapseStopsItsPort : Obligations.LapseStopsItsPort := by
  intro s p hq hn hp hl _
  have hv := State.lapsedOwn_lapseOwn hq hp hl p
  obtain ⟨htorch, hlink, lw, hspare⟩ := s.lapse_own (p := p) hq hn hp hl
  have hqueue : (s.lapse p).QueueLaw := (hq.lapse p).queueLaw hq
  have hself : ((s.lapse p).torch p).Dark := htorch ▸ Torch.dark_lapsed _
  refine ⟨?_, fun q hqp => ?_, State.eq_of_lapse p, State.alerted_lapse p, htorch,
    fun h => hself.not_waiting (hqueue.mem_iff.mp h), hlink, fun hr b j hj => ?_, fun hm => ⟨?_, fun q hqp hqw => ?_⟩,
    fun hm => ?_, fun hm => ⟨fun hr => ?_, fun hr => ⟨fun hst => ?_, fun hst => ?_, fun hst => ?_⟩⟩⟩
  · rw [State.port, State.lapse_ports]
    exact Vector.getElem_set_self _
  · rw [State.port, State.lapse_ports]
    exact Vector.getElem_set_ne _ _ fun h => hqp (Fin.ext h.symm)
  · have hjob := hv.job hr b j hj
    by_cases hc : j.cancelPending = true ∧ j.state.lit = true
    · rw [if_pos hc] at hjob ⊢
      exact hspare.number hjob
    · rw [if_neg hc] at hjob ⊢
      exact hspare.mem hjob fun _ _ => nofun
  · rw [State.lapse_hallStop, if_neg hm]
  · have hsteps : s.lapseSteps p = s.lapseOwn p := by rw [State.lapseSteps_eq, if_neg hm]
    have hstate : ((s.lapseOwn p).torch q).state = (s.torch q).state := by rw [(hv.torch q hqp).1]
    obtain ⟨-, hrest⟩ := State.lapse_keeps (s := s) (p := p) (hsteps ▸ hv.queueLaw) (hsteps ▸ hv.tableLaw)
    rw [(hrest q (by rw [hsteps, hstate]; exact hqw)).1, hsteps, hstate]
  · obtain ⟨hall, hlinks, -, hjobs⟩ := State.haltedAll_lapse hq hn hp hl hm
    have hdark (q : Port) : ((s.lapse p).torch q).Dark := hall q ▸ Torch.dark_halted _
    refine ⟨?_, State.alerted_hallStopped p hm, hqueue.startQueue_eq_nil hdark, fun hload => ?_, fun q hqp => ⟨?_, fun b j hj => ?_,
      fun hq0 => ?_⟩⟩
    · rw [State.lapse_hallStop, if_pos hm]
    · exact (loadLaw_changesKeep.lapse p hload).committed_eq_zero hdark
    · rw [hall q]
      exact (hv.torch q hqp).halted_eq hn.seq_eq_zero
    · have hstate : ((s.lapseOwn p).torch q).state = (s.torch q).state := by rw [(hv.torch q hqp).1]
      have hheld : (s.lapseOwn p).heldJob q = some (b, j) :=
        (hv.spares.heldJob fun h => hqp (List.mem_singleton.mp h)).trans hj
      obtain ⟨hkeep, hstop⟩ := hjobs q b j hheld
      rw [hstate] at hkeep hstop
      exact ⟨hkeep, hstop⟩
    · rw [hlinks q hq0, (hv.torch q hqp).link_halted, hv.link q hq0]
      exact Link.halted_eq _ _
  · exact State.lapse_of_not_gantry hm hr
  · have hdrop := State.dropTorch_of_not_lit (s := (s.markLapsed p).unqueue p) (p := p) (by
      rw [show ((s.markLapsed p).unqueue p).torch p = s.torch p from rfl, hst]
      rfl)
    rw [State.lapse_of_live hm hr fun h => h.not_waiting hst, State.lapseGantry_of_waiting (s := s.markLapsed p) hst, hdrop]
    rfl
  · have hlive : ¬(s.torch p).Dark := fun h => absurd hst (by rw [h.not_lit]; decide)
    rw [State.lapse_of_live hm hr hlive,
      State.lapseGantry_of_lit (s := s.markLapsed p) hst, State.dropTorch_of_lit (s := s.markLapsed p) hst]
    rfl
  · exact State.lapse_of_dark hm hr hst

end Sys2Proof.Machine
end

section
/-! The bytes of a frame at the receiver of a port (R160, R161). -/

namespace Sys2Proof.Machine

open Sys2Proof

/-- The state with the receiver of a port set. -/
def State.withReceiver (p : Port) (r : Receiver) (s : State) : State := s.setLink p { s.link p with receiver := r }

/-- R160, R161: what a receiver has met goes to the port. -/
def State.meets (p : Port) (m : LinkMet) (s : State) : State :=
  match m with
  | .nothing => s
  | .discard => s.countFrameError p
  | .frame f => s.offerFrame p f

section
variable {s : State} {p : Port}

theorem State.withReceiver_self {r : Receiver} (h : (s.link p).receiver = r) : s.withReceiver p r = s := by
  rw [State.withReceiver, ← h]
  exact congrArg (fun l => { s with links := l }) (Vector.set_getElem_self _)

@[simp] theorem State.receiver_withReceiver (r : Receiver) : ((s.withReceiver p r).link p).receiver = r := by
  rw [State.withReceiver, State.link_setLink, if_pos rfl]

@[simp] theorem State.withReceiver_withReceiver (r r' : Receiver) :
    (s.withReceiver p r).withReceiver p r' = s.withReceiver p r' := by
  have hlink : (s.withReceiver p r).link p = { s.link p with receiver := r } := by
    rw [State.withReceiver, State.link_setLink, if_pos rfl]
  rw [State.withReceiver.eq_def p r' (s.withReceiver p r), hlink]
  simp [State.withReceiver, State.setLink]

/-- R160: one byte moves the receiver, and what it has met goes to the port. -/
theorem linkByte_of_receiver {r : Receiver} (h : (s.link p).receiver = r) (b : LineByte) :
    linkByte p s b = (s.withReceiver p (rxByte r b).1).meets p (rxByte r b).2 := by
  subst h
  rfl

theorem exec_frameReceived (bytes : List LineByte) (h : s.held = false) :
    exec (.frameReceived p bytes) s = .next (State.settle (bytes.foldl (linkByte p) s)) :=
  exec_of_unheld_event rfl rfl h

/-! ## A frame that comes whole -/

/-- R160: a byte in its place goes to the bytes collected. -/
theorem rxByte_collecting (got : List Byte) (b : Byte) : rxByte (.collecting got) ⟨b, true, false⟩ = rxCollect (got ++ [b]) := rfl

theorem rxCollect_of_over {len : Byte} (h : 200 < len.toNat) (rest : List Byte) :
    rxCollect (len :: rest) = (.hunting, .discard) := if_pos h

theorem rxCollect_of_short {len : Byte} {rest : List Byte} (hlen : len.toNat ≤ 200) (h : rest.length < len.toNat + 4) :
    rxCollect (len :: rest) = (.collecting (len :: rest), .nothing) := by
  rw [rxCollect, if_neg (show ¬Config.maxBody < len.toNat from not_lt.mpr hlen), if_pos h]

theorem rxCollect_of_whole {len : Byte} {rest : List Byte} (hlen : len.toNat ≤ 200) (h : rest.length = len.toNat + 4) :
    rxCollect (len :: rest) = (.hunting, rxCheck len rest) := by
  rw [rxCollect, if_neg (show ¬Config.maxBody < len.toNat from not_lt.mpr hlen), if_neg (by omega)]

theorem foldl_linkByte_start (h : (s.link p).receiver = .hunting) (bytes : List Byte) :
    (clean (0xA5#8 :: bytes)).foldl (linkByte p) s = (clean bytes).foldl (linkByte p) (s.withReceiver p (.collecting [])) :=
  congrArg (fun u => (clean bytes).foldl (linkByte p) u) (linkByte_of_receiver h _)

/-- R160: the bytes after the start byte are collected until the frame is whole. -/
theorem foldl_linkByte_short {len : Byte} {rest : List Byte} (hlen : len.toNat ≤ 200) (h : rest.length < len.toNat + 4) :
    (clean (len :: rest)).foldl (linkByte p) (s.withReceiver p (.collecting [])) =
      s.withReceiver p (.collecting (len :: rest)) := by
  have hstep {got : List Byte} {b : Byte} (hc : rxCollect (got ++ [b]) = (.collecting (got ++ [b]), .nothing)) :
      linkByte p (s.withReceiver p (.collecting got)) ⟨b, true, false⟩ = s.withReceiver p (.collecting (got ++ [b])) := by
    rw [linkByte_of_receiver (State.receiver_withReceiver _), rxByte_collecting, hc, State.withReceiver_withReceiver]
    rfl
  induction rest using List.reverseRecOn with
  | nil => exact hstep (rxCollect_of_short hlen h)
  | append_singleton rest b ih =>
    have hlt : rest.length < len.toNat + 4 := by
      rw [List.length_append] at h
      omega
    rw [← List.cons_append, clean, List.map_append, List.foldl_append]
    refine (congrArg (fun u => [b].map (fun b => (⟨b, true, false⟩ : LineByte)) |>.foldl (linkByte p) u) (ih hlt)).trans ?_
    exact hstep (rxCollect_of_short hlen h)

/-- R160: the last byte of a frame. -/
theorem foldl_linkByte_whole (hr : (s.link p).receiver = .hunting) {len : Byte} {rest : List Byte} {b : Byte}
    (hlen : len.toNat ≤ 200) (h : rest.length = len.toNat + 3) :
    (clean (0xA5#8 :: len :: (rest ++ [b]))).foldl (linkByte p) s = s.meets p (rxCheck len (rest ++ [b])) := by
  rw [foldl_linkByte_start hr, ← List.cons_append, clean, List.map_append, List.foldl_append]
  refine (congrArg (fun u => [b].map (fun b => (⟨b, true, false⟩ : LineByte)) |>.foldl (linkByte p) u)
    (foldl_linkByte_short hlen (rest := rest) (by omega))).trans ?_
  rw [List.map_singleton, List.foldl_cons, List.foldl_nil, linkByte_of_receiver (State.receiver_withReceiver _),
    rxByte_collecting, List.cons_append, rxCollect_of_whole hlen (by rw [List.length_append, h]; rfl),
    State.withReceiver_withReceiver, State.withReceiver_self hr]

/-- R160: the check of a frame by its body and its two CRC bytes. -/
theorem rxCheck_frame (f : Frame) (crc : List Byte) (h : f.body.length ≤ 200) :
    rxCheck (byteOf f.body.length) (f.kind :: f.tag :: (f.body ++ crc)) =
      if crcBytes (byteOf f.body.length :: f.kind :: f.tag :: f.body) = crc then .frame f else .discard := by
  have hlen : (byteOf f.body.length).toNat = f.body.length := by
    rw [toNat_byteOf]
    omega
  simp only [rxCheck, hlen, List.take_left, List.drop_left]

/-- R160: a frame with up to 200 body bytes and any two CRC bytes, met by a hunting receiver. -/
theorem foldl_linkByte_frame (hr : (s.link p).receiver = .hunting) (f : Frame) (h : f.body.length ≤ 200)
    {crc : List Byte} (hcrc : crc.length = 2) :
    (clean (0xA5#8 :: byteOf f.body.length :: f.kind :: f.tag :: f.body ++ crc)).foldl (linkByte p) s =
      s.meets p (if crcBytes (byteOf f.body.length :: f.kind :: f.tag :: f.body) = crc then .frame f else .discard) := by
  obtain ⟨a, b, rfl⟩ := List.length_eq_two.mp hcrc
  have hlen : (byteOf f.body.length).toNat = f.body.length := by
    rw [toNat_byteOf]
    omega
  have hwhole := foldl_linkByte_whole (b := b) hr (hlen.trans_le h) (rest := f.kind :: f.tag :: (f.body ++ [a])) (by simp [hlen])
  rw [← rxCheck_frame f _ h]
  simpa using hwhole

end

/-- Settles O8: the bytes of a frame are collected to its last, and each fault is met at its byte. -/
theorem framesAreReceivedOrCounted : Obligations.FramesAreReceivedOrCounted := by
  intro s p hheld counted
  refine ⟨fun hr => ⟨fun f hf => ?_, fun len hlen => ?_, fun f crc hf hcrc hbad => ?_, fun b hb => ?_⟩, fun got b hr => ⟨fun gap => ?_, ?_⟩⟩
  · rw [exec_frameReceived _ hheld]
    refine congrArg (fun u => Host.Outcome.next (State.settle u)) ?_
    refine (foldl_linkByte_frame hr f hf rfl).trans ?_
    rw [if_pos rfl]
    rfl
  · rw [exec_frameReceived _ hheld]
    refine congrArg (fun u => Host.Outcome.next (State.settle u)) ((foldl_linkByte_start hr [len]).trans ?_)
    refine (linkByte_of_receiver (State.receiver_withReceiver _) _).trans ?_
    rw [rxByte_collecting, List.nil_append, rxCollect_of_over hlen, State.withReceiver_withReceiver, State.withReceiver_self hr]
    rfl
  · rw [exec_frameReceived _ hheld, foldl_linkByte_frame hr f hf hcrc, if_neg (Ne.symm hbad)]
    rfl
  · have hskip : rxByte .hunting b = (.hunting, .nothing) := by
      have hstart : (b.stop && decide (b.value = 0xA5#8)) = false := by
        obtain h | h := hb
        · simp [h]
        · simp [h]
      simp only [rxByte, rxHunt, hstart, Bool.false_eq_true, if_false]
    rw [exec_frameReceived _ hheld, List.foldl_cons, List.foldl_nil, linkByte_of_receiver hr, hskip, State.withReceiver_self hr]
    rfl
  · have hdiscard : rxByte (.collecting got) ⟨b, false, gap⟩ = (.hunting, .discard) := by cases gap <;> rfl
    rw [exec_frameReceived _ hheld, List.foldl_cons, List.foldl_nil, linkByte_of_receiver hr, hdiscard]
    rfl
  · have hdiscard : rxByte (.collecting got) ⟨b, true, true⟩ =
        (if b = 0xA5#8 then .collecting [] else .hunting, .discard) := by
      by_cases h : b = 0xA5#8 <;> simp [rxByte, rxHunt, h]
    rw [exec_frameReceived _ hheld, List.foldl_cons, List.foldl_nil, linkByte_of_receiver hr, hdiscard]
    rfl

end Sys2Proof.Machine
end

section
/-! PARAM-SET (R170, R171, R172). -/

namespace Sys2Proof.Machine

open Sys2Proof

/-! ## Codes, indices and values -/

@[simp] theorem paramCodeOf_code (c : ParamCode) : paramCodeOf c.code = some c := paramCodeOf_eq_some.mpr rfl

theorem roleOfParam_eq (v : Nat) : roleOfParam v = ([.gantry, .crane, .unused] : List Role)[v]? := by
  match v with
  | 0 | 1 | 2 | _ + 3 => rfl

theorem sideOfParam_eq (v : Nat) : sideOfParam v = ([.west, .east] : List Side)[v]? := by
  match v with
  | 0 | 1 | _ + 2 => rfl

theorem modeOfParam_eq (v : Nat) : modeOfParam v = ([.auto, .manual, .hallStop] : List ReturnMode)[v]? := by
  match v with
  | 0 | 1 | 2 | _ + 3 => rfl

theorem sagModeOfParam_eq (v : Nat) : sagModeOfParam v = ([.notify, .trip] : List SagMode)[v]? := by
  match v with
  | 0 | 1 | _ + 2 => rfl

/-! R171 case 4: the values outside the set of an enumerated parameter. -/

section
variable {v : Nat}

theorem roleOfParam_eq_none (h : 2 < v) : roleOfParam v = none := by
  rw [roleOfParam_eq]
  exact List.getElem?_eq_none h

theorem sideOfParam_eq_none (h : 1 < v) : sideOfParam v = none := by
  rw [sideOfParam_eq]
  exact List.getElem?_eq_none h

theorem modeOfParam_eq_none (h : 2 < v) : modeOfParam v = none := by
  rw [modeOfParam_eq]
  exact List.getElem?_eq_none h

theorem sagModeOfParam_eq_none (h : 1 < v) : sagModeOfParam v = none := by
  rw [sagModeOfParam_eq]
  exact List.getElem?_eq_none h

theorem rateOfParam_eq_none (h : 1 < v) : rateOfParam v = none := by
  match v, h with
  | _ + 2, _ => rfl

end

/-! ## The pending set -/

/-- R170: the role a port would have after a reset is `r`. -/
def PortParams.isNext (r : Role) (q : PortParams) : Bool := q.pendingRole.getD q.role = r

/-- R143: at most 4 GANTRY ports and 2 CRANE ports would stand, the cranes on different sides. -/
def portsFit (qs : Vector PortParams 6) : Prop :=
  qs.toList.countP (PortParams.isNext .gantry) ≤ 4 ∧ qs.toList.countP (PortParams.isNext .crane) ≤ 2
    ∧ ∀ a b : Port, a ≠ b → PortParams.isNext .crane qs[a] = true → PortParams.isNext .crane qs[b] = true →
        qs[a].pendingSide.getD qs[a].side ≠ qs[b].pendingSide.getD qs[b].side

theorem pairwise_toList_iff {α : Type} {R : α → α → Prop} (hR : ∀ a b, R a b → R b a) (v : Vector α 6) :
    v.toList.Pairwise R ↔ ∀ a b : Port, a ≠ b → R v[a] v[b] := by
  rw [List.pairwise_iff_getElem]
  constructor
  · intro h a b hab
    obtain hlt | hlt := Nat.lt_or_gt_of_ne fun he => hab (Fin.ext he)
    · exact h a.val b.val (by simp) (by simp) hlt
    · exact hR _ _ (h b.val a.val (by simp) (by simp) hlt)
  · intro h i j hi hj hlt
    rw [Vector.length_toList] at hi hj
    exact h ⟨i, hi⟩ ⟨j, hj⟩ fun he => hlt.ne (congrArg Fin.val he)

theorem validSet_iff {ps : Params} : validSet ps = true ↔ portsFit ps.ports := by
  simp only [validSet, Bool.and_eq_true, decide_eq_true_eq, portsFit, and_assoc, List.countP_eq_length_filter]
  refine and_congr Iff.rfl (and_congr Iff.rfl ?_)
  rw [List.Nodup, List.pairwise_map, List.pairwise_filter, pairwise_toList_iff]
  · simp only [decide_eq_true_eq, PortParams.isNext]
    rfl
  · exact fun a b h hb ha => (h ha hb).symm

theorem next_withPort {f : PortParams → PortParams} (hf : ∀ q, (f q).nextRole = q.nextRole ∧ (f q).nextSide = q.nextSide)
    (i : Nat) (ps : Params) : (withPort i f ps).next = ps.next := by
  unfold withPort
  split_ifs with hi
  · simp only [Params.next, Vector.toList_set, List.map_set, hf]
    apply List.ext_getElem
    · simp
    · intro k _ _
      by_cases hk : i = k <;> simp [hk]
  · rfl

/-- R172: only a role or a side changes what the pending set is tested for. -/
theorem validSet_writeParam {c : ParamCode} (hrole : c ≠ .role) (hside : c ≠ .side) (i v : Nat) (ps : Params) :
    validSet (writeParam c i v ps) = validSet ps := by
  rw [validSet_eq, validSet_eq]
  refine congrArg validRoles ?_
  cases c with
  | role => exact absurd rfl hrole
  | side => exact absurd rfl hside
  | period =>
    refine next_withPort ?_ i ps
    exact fun q => ⟨rfl, rfl⟩
  | window =>
    refine next_withPort ?_ i ps
    exact fun q => ⟨rfl, rfl⟩
  | mode =>
    refine next_withPort ?_ i ps
    exact fun q => ⟨rfl, rfl⟩
  | _ => rfl

theorem budget_writeParam {c : ParamCode} (hrating : c ≠ .rating) (hreserve : c ≠ .reserve) (i v : Nat) (ps : Params) :
    (writeParam c i v ps).rating = ps.rating ∧ (writeParam c i v ps).reserve = ps.reserve := by
  cases c with
  | rating => exact absurd rfl hrating
  | reserve => exact absurd rfl hreserve
  | role | side | period | window | mode => exact rating_withPort i _ ps
  | _ => exact ⟨rfl, rfl⟩

/-- The parameters of one port written. -/
theorem withPort_port (q : Port) (f : PortParams → PortParams) (ps : Params) :
    withPort q.val f ps = { ps with ports := ps.ports.set q.val (f ps.ports[q]) } := dif_pos q.isLt

/-! ## The answer -/

section
variable {s : State} {p : Port} {tag : Byte} (h : s.hears p [.planning])
include h

theorem paramSet_refused {l : List ParamEntry} {st : Status} (hc : firstCase (paramSetCases l s) = some st) :
    exec (.paramSet p tag l) s = .next (s.answered p tag st .nothing) := by
  rw [exec_of_admitted (owner := ownParamSet l) rfl rfl h.1 (State.admission_of_hears h), ownParamSet, byCases, hc]
  rfl

theorem paramSet_accepted {l : List ParamEntry} (hc : firstCase (paramSetCases l s) = none) :
    exec (.paramSet p tag l) s = .next (State.answered p tag (if entriesAfter l s.params = l then .ok else .clamped)
      (.paramsTaken (entriesAfter l s.params))
      (State.reformBudget s.params { s with params := paramsAfter l s.params })) := by
  rw [exec_of_admitted (owner := ownParamSet l) rfl rfl h.1 (State.admission_of_hears h), ownParamSet, byCases, hc]

/-- R171 case 1. -/
theorem paramSet_of_bad {l : List ParamEntry}
    (hbad : (l.isEmpty || decide (Config.maxParamEntries < l.length) || l.any badIndex) = true) :
    exec (.paramSet p tag l) s = .next (s.answered p tag .range .nothing) :=
  paramSet_refused h (by rw [paramSetCases, firstCase, hbad]; rfl)

/-- R171 cases 3, 4 and 5, of entries none of which is a watermark of zone 0. -/
theorem paramSet_of_range {l : List ParamEntry}
    (hzone : ∀ e ∈ l, ¬(paramCodeOf e.code = some .watermark ∧ e.index = 0))
    (hbad : ¬(l.map fun e => (e.code, e.index)).Nodup
      ∨ (∃ e ∈ l, ∃ c, paramCodeOf e.code = some c ∧ badValue c e.index e.value = true)
      ∨ validSet (writeEntries l s.params) ≠ true) :
    exec (.paramSet p tag l) s = .next (s.answered p tag .range .nothing) := by
  refine paramSet_refused h ?_
  have hz : (l.any fun e => decide (paramCodeOf e.code = some .watermark) && decide (e.index = 0)) = false := by
    simpa using hzone
  simp only [paramSetCases, firstCase, hz, Bool.false_eq_true, if_false]
  split_ifs with _ hn hv hset
  · rfl
  · rfl
  · rfl
  · rfl
  · obtain hn' | ⟨e, he, c, hc, hb⟩ | hset' := hbad
    · simp [hn'] at hn
    · exact absurd (List.any_eq_true.mpr ⟨e, he, by rw [hc]; exact hb⟩) hv
    · simp [hset'] at hset

end

theorem mem_single {e : ParamEntry} {P : ParamEntry → Prop} (h : P e) : ∀ a ∈ [e], P a := by simpa using h

/-- R171: entries that pass each of the five cases. -/
theorem firstCase_paramSetCases_eq_none {s : State} {l : List ParamEntry} (hne : l ≠ []) (hlen : l.length ≤ 8)
    (hindex : ∀ e ∈ l, ∃ c, paramCodeOf e.code = some c ∧ (indexRange c).1 ≤ e.index ∧ e.index ≤ (indexRange c).2
      ∧ badValue c e.index e.value = false)
    (hnodup : (l.map fun e => (e.code, e.index)).Nodup) (hset : validSet (writeEntries l s.params) = true) :
    firstCase (paramSetCases l s) = none := by
  have hcount : decide (Config.maxParamEntries < l.length) = false := decide_eq_false (not_lt.mpr hlen)
  have hbad : l.any badIndex = false := by
    refine List.any_eq_false.mpr fun e he => ?_
    obtain ⟨c, hc, hlo, hhi, -⟩ := hindex e he
    rw [(badIndex_of_code hc).mpr (.inl ⟨hlo, hhi⟩)]
    exact Bool.false_ne_true
  have hzone : (l.any fun e => decide (paramCodeOf e.code = some .watermark) && decide (e.index = 0)) = false := by
    refine List.any_eq_false.mpr fun e he hw => ?_
    rw [Bool.and_eq_true, decide_eq_true_eq, decide_eq_true_eq] at hw
    obtain ⟨c, hc, hlo, -⟩ := hindex e he
    obtain rfl := Option.some.inj (hc.symm.trans hw.1)
    rw [hw.2] at hlo
    exact absurd hlo (by decide)
  have hvalue : (l.any fun e => (paramCodeOf e.code).any fun c => badValue c e.index e.value) = false := by
    refine List.any_eq_false.mpr fun e he => ?_
    obtain ⟨c, hc, -, -, hv⟩ := hindex e he
    rw [hc, Option.any_some, hv]
    exact Bool.false_ne_true
  have hempty : l.isEmpty = false := by
    cases l with
    | nil => exact absurd rfl hne
    | cons e l => rfl
  simp only [paramSetCases, firstCase, hempty, hcount, hbad, hzone, hvalue, hset, decide_eq_true hnodup]
  rfl

/-! ## One entry that leaves the budget -/

section
variable {s : State} {c : ParamCode} {i v : Nat}

theorem ratingAfter_of_not_rating (hc : c ≠ .rating) (ps : Params) : ratingAfter [⟨c.code, i, v⟩] ps = ps.rating := by
  simp [ratingAfter, hc]

theorem writeEntries_single (ps : Params) : writeEntries [⟨c.code, i, v⟩] ps =
    writeParam c i (takenValue (ratingAfter [⟨c.code, i, v⟩] ps) c v) ps := by
  rw [writeEntries, List.map_singleton, takenEntry_of_code (paramCodeOf_code c), List.foldl_cons, List.foldl_nil,
    writeEntry_of_code (paramCodeOf_code c)]

theorem State.ConfigLaw.reserve_le (hl : s.ConfigLaw) : s.params.reserve ≤ s.params.rating / 2 :=
  (validParams_iff.mp hl.1).2.2.2

theorem State.ConfigLaw.validSet (hl : s.ConfigLaw) : validSet s.params = true := by
  rw [validSet_eq]
  exact (validParams_iff.mp hl.1).2.1

/-- R65, R172: parameters whose reserve is at most half the rating keep it. -/
theorem lowersReserve_of_le {ps : Params} (h : ps.reserve ≤ ps.rating / 2) (l : List ParamEntry) :
    lowersReserve l ps = false := by
  rw [lowersReserve, decide_eq_false (not_lt.mpr h), Bool.and_false]

theorem reformBudget_of_same {ps : Params} (h : s.params.rating = ps.rating ∧ s.params.reserve = ps.reserve) :
    s.reformBudget ps = s := by
  rw [State.reformBudget, if_neg]
  rintro ⟨h1 | h2, -⟩
  · exact h1 h.1
  · exact h2 h.2

/-- R171, R172: one entry with an index and a value in range, of a parameter other than the rating and the reserve. -/
theorem paramSet_single {p : Port} (tag : Byte) (h : s.hears p [.planning]) (hl : s.ConfigLaw) (hrating : c ≠ .rating)
    (hreserve : c ≠ .reserve) {v' : Nat} (htaken : takenValue s.params.rating c v = v')
    (hindex : (indexRange c).1 ≤ i ∧ i ≤ (indexRange c).2) (hvalue : badValue c i v = false)
    (hset : validSet (writeParam c i v' s.params) = true) :
    exec (.paramSet p tag [⟨c.code, i, v⟩]) s = .next (State.answered p tag (if v' = v then .ok else .clamped)
      (.paramsTaken [⟨c.code, i, v'⟩]) { s with params := writeParam c i v' s.params }) := by
  have hrate : ratingAfter [⟨c.code, i, v⟩] s.params = s.params.rating := ratingAfter_of_not_rating hrating s.params
  have hwrite : writeEntries [⟨c.code, i, v⟩] s.params = writeParam c i v' s.params := by
    rw [writeEntries_single, hrate, htaken]
  have hbudget := budget_writeParam hrating hreserve i v' s.params
  have hlower : lowersReserve [⟨c.code, i, v⟩] (writeParam c i v' s.params) = false := by
    refine lowersReserve_of_le ?_ _
    rw [hbudget.1, hbudget.2]
    exact hl.reserve_le
  have hafter : paramsAfter [⟨c.code, i, v⟩] s.params = writeParam c i v' s.params := by
    simp only [paramsAfter, hwrite, hlower, Bool.false_eq_true, if_false]
  have hentries : entriesAfter [⟨c.code, i, v⟩] s.params = [⟨c.code, i, v'⟩] := by
    rw [entriesAfter, hrate, List.map_singleton, takenEntry_of_code (e := ⟨c.code, i, v⟩) (paramCodeOf_code c), htaken]
    simp only [hwrite, hlower]
    rfl
  have hcases : firstCase (paramSetCases [⟨c.code, i, v⟩] s) = none :=
    firstCase_paramSetCases_eq_none (List.cons_ne_nil _ _) (Nat.succ_le_succ (Nat.zero_le 7))
      (mem_single ⟨c, paramCodeOf_code c, hindex.1, hindex.2, hvalue⟩) (List.nodup_singleton _) (by rw [hwrite, hset])
  rw [paramSet_accepted h hcases, hentries, hafter, reformBudget_of_same hbudget]
  simp

end

end Sys2Proof.Machine
end

section
/-! PARAM-SET of the feeder rating and the reserve, of roles and sides (R65, R143, R172), and the statement. -/

namespace Sys2Proof.Machine

open Sys2Proof

/-! ## The budget formed anew -/

/-- R64, R65, R172: the state with a rating and a reserve, its capacity formed anew unless the feeder is stale. -/
def State.formed (s : State) (f r : Nat) : State :=
  let t : State := { s with params := { s.params with rating := f, reserve := r } }
  let c := f * min s.feeder.level 1000 / 1000 - r
  let t' : State := { t with feeder := { s.feeder with capacity := c } }
  if s.feeder.stale = true ∨ (f = s.params.rating ∧ r = s.params.reserve) then t
  else if s.feeder.capacity < c then t'.runWalk else t'

theorem State.reformBudget_eq (s : State) (f r : Nat) :
    State.reformBudget s.params { s with params := { s.params with rating := f, reserve := r } } = s.formed f r := by
  unfold State.reformBudget State.formed
  dsimp only
  by_cases hsame : s.feeder.stale = true ∨ (f = s.params.rating ∧ r = s.params.reserve)
  · rw [if_pos hsame, if_neg]
    rintro ⟨hne, hstale⟩
    obtain h | ⟨hf, hr⟩ := hsame
    · simp [h] at hstale
    · exact hne.elim (fun h => h hf) fun h => h hr
  · rw [if_neg hsame, if_pos]
    · rfl
    · rw [not_or, not_and_or] at hsame
      exact ⟨hsame.2, by simpa using hsame.1⟩

section
variable {s : State} {p : Port} {tag : Byte} (h : s.hears p [.planning]) (hl : s.ConfigLaw)
include h hl

/-- R65, R172: entries for the rating and the reserve alone. -/
theorem paramSet_budget {l taken : List ParamEntry} {f r : Nat} (hne : l ≠ []) (hlen : l.length ≤ 8)
    (hcode : ∀ e ∈ l, (e.code = 7 ∨ e.code = 8) ∧ e.index = 0) (hnodup : (l.map fun e => (e.code, e.index)).Nodup)
    {r₀ : Nat} (hwrite : writeEntries l s.params = { s.params with rating := f, reserve := r₀ })
    (hafter : paramsAfter l s.params = { s.params with rating := f, reserve := r })
    (hentries : entriesAfter l s.params = taken) :
    exec (.paramSet p tag l) s = .next (State.answered p tag (if taken = l then .ok else .clamped) (.paramsTaken taken)
      (s.formed f r)) := by
  have hcases : firstCase (paramSetCases l s) = none := by
    refine firstCase_paramSetCases_eq_none hne hlen (fun e he => ?_) hnodup ?_
    · obtain ⟨hc | hc, hi⟩ := hcode e he
      · exact ⟨.rating, by rw [hc]; rfl, by rw [hi]; exact le_rfl, by rw [hi]; exact le_rfl, rfl⟩
      · exact ⟨.reserve, by rw [hc]; rfl, by rw [hi]; exact le_rfl, by rw [hi]; exact le_rfl, rfl⟩
    · rw [hwrite]
      exact hl.validSet
  rw [paramSet_accepted h hcases, hentries, hafter, State.reformBudget_eq]

theorem paramSet_reserve (v : Nat) :
    exec (.paramSet p tag [⟨8, 0, v⟩]) s = .next (State.answered p tag
      (if min v (s.params.rating / 2) = v then .ok else .clamped) (.paramsTaken [⟨8, 0, min v (s.params.rating / 2)⟩])
      (s.formed s.params.rating (min v (s.params.rating / 2)))) := by
  have hset := paramSet_budget (tag := tag) h hl (l := [⟨8, 0, v⟩])
    (taken := [⟨8, 0, min v (s.params.rating / 2)⟩]) (List.cons_ne_nil _ _) (Nat.succ_le_succ (Nat.zero_le 7))
    (mem_single ⟨.inr rfl, rfl⟩) (List.nodup_singleton _) (f := s.params.rating) (r := min v (s.params.rating / 2)) rfl rfl rfl
  rw [hset]
  simp

/-- R64, R172: the rating with a reserve that stands is at most half of it. -/
theorem paramSet_rating {v : Nat} (hle : s.params.reserve ≤ max 100 (min 4000 v) / 2) :
    exec (.paramSet p tag [⟨7, 0, v⟩]) s = .next (State.answered p tag
      (if max 100 (min 4000 v) = v then .ok else .clamped) (.paramsTaken [⟨7, 0, max 100 (min 4000 v)⟩])
      (s.formed (max 100 (min 4000 v)) s.params.reserve)) := by
  have hwrite : writeEntries [⟨7, 0, v⟩] s.params =
      { s.params with rating := max 100 (min 4000 v), reserve := s.params.reserve } := rfl
  have hlower := lowersReserve_of_le
    (ps := { s.params with rating := max 100 (min 4000 v), reserve := s.params.reserve }) hle [⟨7, 0, v⟩]
  have hset := paramSet_budget (tag := tag) h hl (l := [⟨7, 0, v⟩]) (taken := [⟨7, 0, max 100 (min 4000 v)⟩])
    (r := s.params.reserve) (List.cons_ne_nil _ _) (Nat.succ_le_succ (Nat.zero_le 7))
    (mem_single ⟨.inl rfl, rfl⟩) (List.nodup_singleton _) hwrite
    (by simp only [paramsAfter, hwrite, hlower, Bool.false_eq_true, if_false])
    (by simp only [entriesAfter, hwrite, hlower, Bool.false_eq_true, if_false]; rfl)
  rw [hset]
  simp

/-- R65, R172: the rating lowers a reserve that would pass half of it. -/
theorem paramSet_rating_lowers {v : Nat} (hlt : max 100 (min 4000 v) / 2 < s.params.reserve) :
    exec (.paramSet p tag [⟨7, 0, v⟩]) s = .next (State.answered p tag .clamped
      (.paramsTaken [⟨7, 0, max 100 (min 4000 v)⟩, ⟨8, 0, max 100 (min 4000 v) / 2⟩])
      (s.formed (max 100 (min 4000 v)) (max 100 (min 4000 v) / 2))) := by
  have hwrite : writeEntries [⟨7, 0, v⟩] s.params =
      { s.params with rating := max 100 (min 4000 v), reserve := s.params.reserve } := rfl
  have hlower : lowersReserve [⟨7, 0, v⟩]
      { s.params with rating := max 100 (min 4000 v), reserve := s.params.reserve } = true := decide_eq_true hlt
  have hset := paramSet_budget (tag := tag) h hl (l := [⟨7, 0, v⟩])
    (taken := [⟨7, 0, max 100 (min 4000 v)⟩, ⟨8, 0, max 100 (min 4000 v) / 2⟩]) (r := max 100 (min 4000 v) / 2)
    (List.cons_ne_nil _ _) (Nat.succ_le_succ (Nat.zero_le 7)) (mem_single ⟨.inl rfl, rfl⟩) (List.nodup_singleton _) hwrite
    (by simp only [paramsAfter, hwrite, hlower, if_true])
    (by simp only [entriesAfter, hwrite, hlower, if_true]; rfl)
  rw [hset, if_neg (by simp)]

theorem paramSet_reserve_rating (r v : Nat) :
    exec (.paramSet p tag [⟨8, 0, r⟩, ⟨7, 0, v⟩]) s = .next (State.answered p tag
      (if max 100 (min 4000 v) = v ∧ r ≤ max 100 (min 4000 v) / 2 then .ok else .clamped)
      (.paramsTaken [⟨8, 0, min r (max 100 (min 4000 v) / 2)⟩, ⟨7, 0, max 100 (min 4000 v)⟩])
      (s.formed (max 100 (min 4000 v)) (min r (max 100 (min 4000 v) / 2)))) := by
  have hset := paramSet_budget (tag := tag) h hl (l := [⟨8, 0, r⟩, ⟨7, 0, v⟩])
    (taken := [⟨8, 0, min r (max 100 (min 4000 v) / 2)⟩, ⟨7, 0, max 100 (min 4000 v)⟩]) (List.cons_ne_nil _ _)
    (Nat.succ_le_succ (Nat.succ_le_succ (Nat.zero_le 6))) (by simp) (by simp)
    (f := max 100 (min 4000 v)) (r := min r (max 100 (min 4000 v) / 2)) rfl rfl rfl
  rw [hset]
  have hiff : ([⟨8, 0, min r (max 100 (min 4000 v) / 2)⟩, ⟨7, 0, max 100 (min 4000 v)⟩] : List ParamEntry) = [⟨8, 0, r⟩, ⟨7, 0, v⟩]
      ↔ max 100 (min 4000 v) = v ∧ r ≤ max 100 (min 4000 v) / 2 := by
    simp [and_comm]
  exact congrArg (fun st => Host.Outcome.next (State.answered p tag st _ _)) (if_congr hiff rfl rfl)

/-! ## Roles and sides -/

/-- R143, R172: entries that change roles and sides alone stand or are refused by the pending set. -/
theorem paramSet_pends {l : List ParamEntry} {qs : Vector PortParams 6} (hne : l ≠ []) (hlen : l.length ≤ 8)
    (hindex : ∀ e ∈ l, ∃ c, (c = .role ∨ c = .side) ∧ paramCodeOf e.code = some c ∧ (indexRange c).1 ≤ e.index
      ∧ e.index ≤ (indexRange c).2 ∧ badValue c e.index e.value = false)
    (hnodup : (l.map fun e => (e.code, e.index)).Nodup) (hwrite : writeEntries l s.params = { s.params with ports := qs }) :
    (portsFit qs → exec (.paramSet p tag l) s =
      .next (State.answered p tag .ok (.paramsTaken l) { s with params := { s.params with ports := qs } }))
    ∧ (¬portsFit qs → exec (.paramSet p tag l) s = .next (s.answered p tag .range .nothing)) := by
  have hset : validSet (writeEntries l s.params) = true ↔ portsFit qs := by rw [hwrite, validSet_iff]
  have hlower : lowersReserve l { s.params with ports := qs } = false :=
    lowersReserve_of_le (ps := { s.params with ports := qs }) hl.reserve_le l
  have hafter : paramsAfter l s.params = { s.params with ports := qs } := by
    simp only [paramsAfter, hwrite, hlower, Bool.false_eq_true, if_false]
  have htaken : ∀ e ∈ l, takenEntry (ratingAfter l s.params) e = e := by
    intro e he
    obtain ⟨c, hc, hcode, -⟩ := hindex e he
    rw [takenEntry_of_code hcode]
    obtain rfl | rfl := hc <;> rfl
  have hentries : entriesAfter l s.params = l := by
    simp only [entriesAfter, hwrite, hlower, Bool.false_eq_true, if_false, List.append_nil]
    exact (List.map_congr_left (g := id) htaken).trans (List.map_id l)
  refine ⟨fun hfit => ?_, fun hfit => paramSet_of_range h (fun e he hw => ?_) (.inr (.inr (mt hset.mp hfit)))⟩
  · have hcases := firstCase_paramSetCases_eq_none hne hlen
      (fun e he => let ⟨c, _, hc⟩ := hindex e he; ⟨c, hc⟩) hnodup (hset.mpr hfit)
    rw [paramSet_accepted h hcases, hentries, hafter, if_pos rfl,
      reformBudget_of_same (s := { s with params := { s.params with ports := qs } }) (ps := s.params) ⟨rfl, rfl⟩]
  · obtain ⟨c, hc, hcode, -⟩ := hindex e he
    obtain rfl := Option.some.inj (hcode.symm.trans hw.1)
    obtain hc | hc := hc <;> cases hc

end

/-! ## Entries in force at once, and indices out of range -/

/-- R171, R172: one entry of a parameter that is in force at once and leaves the budget. -/
theorem paramSet_inForce {s : State} {p : Port} (tag : Byte) (h : s.hears p [.planning]) (hl : s.ConfigLaw) (c : ParamCode)
    (hc : c ∉ [ParamCode.role, .side, .rating, .reserve]) {i v : Nat} (v' : Nat) (htaken : takenValue s.params.rating c v = v')
    (hindex : (indexRange c).1 ≤ i ∧ i ≤ (indexRange c).2) (hvalue : badValue c i v = false) :
    exec (.paramSet p tag [⟨c.code, i, v⟩]) s = .next (State.answered p tag (if v' = v then .ok else .clamped)
      (.paramsTaken [⟨c.code, i, v'⟩]) { s with params := writeParam c i v' s.params }) := by
  have hne {d : ParamCode} (hd : d ∈ [ParamCode.role, .side, .rating, .reserve]) : c ≠ d := fun he => hc (he ▸ hd)
  refine paramSet_single tag h hl (hne (by decide)) (hne (by decide)) htaken hindex hvalue ?_
  exact (validSet_writeParam (hne (by decide)) (hne (by decide)) i v' _).trans hl.validSet

/-- The same of a parameter of one port. -/
theorem paramSet_port {s : State} {p : Port} (tag : Byte) (h : s.hears p [.planning]) (hl : s.ConfigLaw) (c : ParamCode)
    (hc : c ∈ [ParamCode.period, .window, .mode]) {q : Port} {v : Nat} (v' : Nat)
    (htaken : takenValue s.params.rating c v = v') (hvalue : badValue c q.val v = false) (f : PortParams → PortParams)
    (hwrite : ∀ ps, writeParam c q.val v' ps = withPort q.val f ps) :
    exec (.paramSet p tag [⟨c.code, q.val, v⟩]) s = .next (State.answered p tag (if v' = v then .ok else .clamped)
      (.paramsTaken [⟨c.code, q.val, v'⟩])
      { s with params := { s.params with ports := s.params.ports.set q.val (f (s.portParams q)) } }) := by
  have hports : ∀ c ∈ [ParamCode.period, .window, .mode],
      indexRange c = (0, 5) ∧ c ∉ [ParamCode.role, .side, .rating, .reserve] := by decide
  have hrange := hports c hc
  rw [paramSet_inForce tag h hl c hrange.2 v' htaken _ hvalue, hwrite, withPort_port]
  · rfl
  · rw [hrange.1]
    exact ⟨Nat.zero_le _, Nat.le_of_lt_succ q.isLt⟩

/-- R171 case 1: an index outside the range of its code. -/
theorem badIndex_of_range {code i v : Nat} (h : (code ∈ [0x01, 0x02] ∧ (i = 0 ∨ 5 < i)) ∨ (code ∈ [0x03, 0x04, 0x05] ∧ 5 < i)
    ∨ (0x06 ≤ code ∧ code ≤ 0x0E ∧ i ≠ 0) ∨ (code = 0x0F ∧ 47 < i)) : badIndex ⟨code, i, v⟩ = true := by
  rw [← Bool.not_eq_false]
  intro hb
  cases hc : paramCodeOf code with
  | none => simp [badIndex, hc] at hb
  | some c =>
    have hr := (badIndex_of_code (e := ⟨code, i, v⟩) hc).mp hb
    obtain rfl := paramCodeOf_eq_some.mp hc
    cases c <;> simp [indexRange, ParamCode.code] at hr h <;> omega

/-- R172: a role or a side that is written becomes pending where it differs from the one in force. -/
theorem writeParam_role {v : Nat} {r : Role} (h : roleOfParam v = some r) (q : Port) (ps : Params) :
    writeParam .role q.val v ps = { ps with ports := ps.ports.set q.val { ps.ports[q] with
      pendingRole := if r = ps.ports[q].role then none else some r } } := by
  rw [writeParam, withPort_port, h]
  rfl

theorem writeParam_side {v : Nat} {d : Side} (h : sideOfParam v = some d) (q : Port) (ps : Params) :
    writeParam .side q.val v ps = { ps with ports := ps.ports.set q.val { ps.ports[q] with
      pendingSide := if d = ps.ports[q].side then none else some d } } := by
  rw [writeParam, withPort_port, h]
  rfl

/-- R170: the indices of a role or a side are those of P1 to P5. -/
theorem index_of_ne_zero {q : Port} (h : q ≠ 0) : 1 ≤ q.val ∧ q.val ≤ 5 :=
  ⟨Nat.one_le_iff_ne_zero.mpr fun h0 => h (Fin.ext h0), Nat.le_of_lt_succ q.isLt⟩

/-- Settles O58: one entry by its parameter, roles and sides by the pending set, the rating and the reserve by the budget. -/
theorem parametersAreTaken : Obligations.ParametersAreTaken := by
  intro s p tag v h hl ps rate answers takes refuses formed isNext fits pends role side
  have hnone {c : ParamCode} {n i : Nat} (hc : c ≠ .watermark) :
      ∀ e ∈ [(⟨c.code, i, n⟩ : ParamEntry)], ¬(paramCodeOf e.code = some .watermark ∧ e.index = 0) :=
    mem_single fun hw => hc (Option.some.inj ((paramCodeOf_code c).symm.trans hw.1))
  have hbad (c : ParamCode) {i : Nat} (hc : c ≠ .watermark) (hb : badValue c i v = true) : refuses [⟨c.code, i, v⟩] .range :=
    paramSet_of_range h (hnone hc) (.inr (.inl ⟨_, List.mem_singleton_self _, c, paramCodeOf_code c, hb⟩))
  refine ⟨paramSet_of_bad h rfl, fun l hlen => paramSet_of_bad h (by simp [Config.maxParamEntries, hlen]),
    fun code i hc => paramSet_of_bad h (by simp [badIndex, paramCodeOf_eq_none hc]), fun code i hc => ?_, ?_,
    paramSet_of_range h (by simp [paramCodeOf]) (.inl (by simp)),
    paramSet_inForce tag h hl .establishLimit (by decide) _ rfl ⟨le_rfl, le_rfl⟩ rfl,
    paramSet_inForce tag h hl .waitLimit (by decide) _ rfl ⟨le_rfl, le_rfl⟩ rfl,
    paramSet_inForce tag h hl .minSide (by decide) _ rfl ⟨le_rfl, le_rfl⟩ rfl,
    paramSet_inForce tag h hl .minArea (by decide) _ rfl ⟨le_rfl, le_rfl⟩ rfl,
    fun z hlo hhi => paramSet_inForce tag h hl .watermark (by decide) _ rfl ⟨hlo, hhi⟩ rfl,
    fun q => paramSet_port tag h hl .period (by decide) (max 100 (min 5000 v)) rfl rfl
      (fun pp => { pp with period := max 100 (min 5000 v) }) fun _ => rfl, fun q => ?_, ?_, ?_, ?_, fun q hq r hr => ?_,
    fun q hq => ⟨fun hv => ?_, fun d hd => ⟨?_, ?_⟩⟩, fun q => ⟨fun hv => ?_, fun m hm hq => ?_⟩, fun hv => ?_, fun m hm => ?_,
    paramSet_reserve h hl v, paramSet_rating h hl, paramSet_rating_lowers h hl, fun r => paramSet_reserve_rating h hl r v⟩
  · exact paramSet_of_bad h (by rw [List.any_cons, badIndex_of_range hc]; simp)
  · exact paramSet_refused h (by simp [paramSetCases, firstCase, badIndex, paramCodeOf, indexRange, Config.maxParamEntries])
  · split_ifs with hv
    · exact paramSet_port tag h hl .window (by decide) v rfl (by rw [badValue, List.contains_iff_mem.mpr hv]; rfl)
        (fun pp => { pp with window := v }) fun _ => rfl
    · exact hbad .window nofun (by simpa [badValue] using hv)
  · split_ifs with hv
    · exact paramSet_inForce tag h hl .sagLevel (by decide) v rfl ⟨le_rfl, le_rfl⟩
        (by rw [badValue, List.contains_iff_mem.mpr hv]; rfl)
    · exact hbad .sagLevel nofun (by simpa [badValue] using hv)
  · by_cases hv : v ≤ 1
    · rw [if_pos hv]
      have hrate : rateOfParam v = some rate := by
        obtain rfl | rfl := Nat.le_one_iff_eq_zero_or_eq_one.mp hv <;> rfl
      have hset := paramSet_inForce tag h hl .linkRate (by decide) v rfl ⟨le_rfl, le_rfl⟩ (i := 0)
        (by rw [badValue, hrate]; rfl)
      rw [writeParam, hrate] at hset
      exact hset
    · rw [if_neg hv]
      exact hbad .linkRate nofun (by rw [badValue, rateOfParam_eq_none (not_le.mp hv)]; rfl)
  · intro l hlo _ hall
    obtain ⟨e, he⟩ := List.exists_mem_of_length_pos hlo
    refine paramSet_of_range h (fun e he hw => ?_) (.inr (.inl ⟨e, he, .role, ?_, ?_⟩))
    · rw [(hall e he).1] at hw
      exact absurd hw.1 (by decide)
    · rw [(hall e he).1]
      rfl
    · rw [badValue, roleOfParam_eq_none (hall e he).2.2]
      rfl
  · rw [Option.mem_def, ← roleOfParam_eq] at hr
    refine paramSet_pends h hl (List.cons_ne_nil _ _) (Nat.succ_le_succ (Nat.zero_le 7)) (mem_single
      ⟨.role, .inl rfl, rfl, (index_of_ne_zero hq).1, (index_of_ne_zero hq).2, by rw [badValue, hr]; rfl⟩) (List.nodup_singleton _) ?_
    exact (writeEntries_single (c := .role) ps).trans (writeParam_role hr q ps)
  · exact hbad .side nofun (by rw [badValue, sideOfParam_eq_none hv]; rfl)
  · rw [Option.mem_def, ← sideOfParam_eq] at hd
    refine paramSet_pends h hl (List.cons_ne_nil _ _) (Nat.succ_le_succ (Nat.zero_le 7)) (mem_single
      ⟨.side, .inr rfl, rfl, (index_of_ne_zero hq).1, (index_of_ne_zero hq).2, by rw [badValue, hd]; rfl⟩) (List.nodup_singleton _) ?_
    exact (writeEntries_single (c := .side) ps).trans (writeParam_side hd q ps)
  · rw [Option.mem_def, ← sideOfParam_eq] at hd
    refine paramSet_pends h hl (List.cons_ne_nil _ _) (Nat.succ_le_succ (Nat.succ_le_succ (Nat.zero_le 6)))
      (List.forall_mem_cons.mpr ⟨?_, mem_single ?_⟩) (by simp) ?_
    · exact ⟨.role, .inl rfl, rfl, (index_of_ne_zero hq).1, (index_of_ne_zero hq).2, rfl⟩
    · exact ⟨.side, .inr rfl, rfl, (index_of_ne_zero hq).1, (index_of_ne_zero hq).2, by rw [badValue, hd]; rfl⟩
    · have hboth : writeEntries [⟨0x01, q.val, 1⟩, ⟨0x02, q.val, v⟩] ps =
          writeParam .side q.val v (writeParam .role q.val 1 ps) := rfl
      rw [hboth, writeParam_role (r := .crane) rfl, writeParam_side hd]
      simp only [Fin.getElem_fin, Vector.getElem_set_self, Vector.set_set]
      rfl
  · refine hbad .mode nofun ?_
    obtain hv | ⟨h0, hv⟩ := hv
    · rw [badValue, modeOfParam_eq_none hv]
      rfl
    · rw [badValue, h0]
      simp [hv]
  · rw [Option.mem_def, ← modeOfParam_eq] at hm
    have hvalue : badValue .mode q.val v = false := by
      rw [badValue, hm]
      by_cases h0 : q.val = 0
      · simp [hq (Fin.ext h0)]
      · simp [h0]
    exact paramSet_port tag h hl .mode (by decide) v rfl hvalue (fun pp => { pp with mode := m }) fun _ => by
      rw [writeParam, hm]
      rfl
  · exact hbad .sagMode nofun (by rw [badValue, sagModeOfParam_eq_none hv]; rfl)
  · rw [Option.mem_def, ← sagModeOfParam_eq] at hm
    have hset := paramSet_inForce tag h hl .sagMode (by decide) v rfl ⟨le_rfl, le_rfl⟩ (i := 0) (by rw [badValue, hm]; rfl)
    rw [writeParam, hm] at hset
    exact hset

end Sys2Proof.Machine
end

section
/-! The logs, the alerts and the links of P0 at a release (R59, R131, R137, R164). -/

namespace Sys2Proof.Machine

open Sys2Proof

/-! ## One log -/

/-- R129, R131: a record enters a log that has room, and is lost by a full one. -/
def CompletionLog.pushed (l : CompletionLog) (r : LogRecord) : CompletionLog :=
  if l.records.length < 16 then { l with records := l.records ++ [r] } else { l with lost := true }

theorem CompletionLog.pushed_of_room {l : CompletionLog} (h : l.records.length < 16) (r : LogRecord) :
    l.pushed r = { l with records := l.records ++ [r] } := if_pos h

theorem CompletionLog.pushed_of_full {l : CompletionLog} (h : 16 ≤ l.records.length) (r : LogRecord) :
    l.pushed r = { l with lost := true } := if_neg (not_lt.mpr h)

/-- R129, R131: records that enter a log one after the other. -/
theorem CompletionLog.foldl_pushed (m : List LogRecord) {l : CompletionLog} (h : l.records.length ≤ 16) :
    m.foldl CompletionLog.pushed l =
      ⟨(l.records ++ m).take 16, l.lost || decide (16 < (l.records ++ m).length)⟩ := by
  induction m generalizing l with
  | nil =>
    rw [List.append_nil, List.take_of_length_le h, decide_eq_false (not_lt.mpr h), Bool.or_false, List.foldl_nil]
  | cons r rest ih =>
    rw [List.foldl_cons]
    obtain hroom | hfull := Nat.lt_or_ge l.records.length 16
    · rw [CompletionLog.pushed_of_room hroom, ih (by simpa using hroom)]
      simp only [List.append_assoc, List.singleton_append]
    · have hlen : l.records.length = 16 := le_antisymm h hfull
      rw [CompletionLog.pushed_of_full hfull, ih (l := { l with lost := true }) h]
      simp [hlen]

theorem State.log_push (s : State) (b : Nat) (r : LogRecord) (c : Nat) :
    (s.push b r).log c = if b = c ∧ c < 48 then (s.log c).pushed r else s.log c := by
  have hraise (u : State) (a : AlertCode) (n : Nat) : (u.raise a n).log c = u.log c := by simp [State.log]
  obtain ⟨hroom, h | h⟩ | ⟨hfull, h⟩ := s.push_cases b r
  · rw [h, State.log_setLog, ← CompletionLog.pushed_of_room hroom]
    exact ite_congr rfl (fun hc => by rw [hc.1]) fun _ => rfl
  · rw [h, hraise, State.log_setLog, ← CompletionLog.pushed_of_room hroom]
    exact ite_congr rfl (fun hc => by rw [hc.1]) fun _ => rfl
  · rw [h, hraise, State.log_setLog, ← CompletionLog.pushed_of_full hfull r]
    exact ite_congr rfl (fun hc => by rw [hc.1]) fun _ => rfl

/-! ## The job that leaves at a release -/

theorem resetJob_of_goes {s : State} {b : Nat} {j : Job} (h : j.goesAtReset = true) :
    resetJob s (b, j) = s.removeJob b j .cancelled := by
  obtain ⟨hlit, hcancel⟩ := Bool.and_eq_true_iff.mp h
  unfold resetJob
  rw [if_pos hlit, State.stopJob_of_cancel hcancel]
  rfl

/-- R59: a job that stays is changed in its table alone. -/
theorem resetJob_of_stays {s : State} {b : Nat} {j : Job} (h : j.goesAtReset = false) :
    ∃ f, resetJob s (b, j) = s ∨ resetJob s (b, j) = s.setJob b j.number f := by
  refine ⟨Job.toHeld j.drops, ?_⟩
  unfold resetJob
  split_ifs with hlit hstate
  · have hcancel : j.cancelPending ≠ true := fun hc => by
      rw [Job.goesAtReset, hlit, hc] at h
      exact absurd h (by decide)
    exact .inr (State.stopJob_of_not_cancel hcancel false)
  · exact .inr rfl
  · exact .inl rfl

theorem State.log_resetJob (s : State) (b : Nat) (j : Job) {c : Nat} (hc : c < 48) :
    (resetJob s (b, j)).log c =
      if b = c ∧ j.goesAtReset = true then (s.log c).pushed (j.logRecord .cancelled) else s.log c := by
  by_cases h : j.goesAtReset = true
  · rw [resetJob_of_goes h]
    change (s.push b (j.logRecord .cancelled)).log c = _
    rw [State.log_push]
    refine ite_congr (propext ?_) (fun _ => rfl) fun _ => rfl
    simp [hc, h]
  · rw [if_neg fun h' => h h'.2]
    obtain ⟨f, heq | heq⟩ := resetJob_of_stays (s := s) (b := b) (Bool.eq_false_iff.mpr h)
    · rw [heq]
    · rw [heq]
      rfl

theorem State.log_foldl_resetJob (l : List (Nat × Job)) (s : State) {c : Nat} (hc : c < 48) :
    (l.foldl resetJob s).log c =
      ((((l.filter fun bj => decide (bj.1 = c)).map Prod.snd).filter Job.goesAtReset).map fun j =>
        j.logRecord .cancelled).foldl CompletionLog.pushed (s.log c) := by
  induction l generalizing s with
  | nil => rfl
  | cons bj rest ih =>
    obtain ⟨b, j⟩ := bj
    rw [List.foldl_cons, ih, State.log_resetJob s b j hc, List.filter_cons]
    by_cases hb : b = c
    · by_cases hg : j.goesAtReset = true
      · simp [hb, hg]
      · simp [hb, hg]
    · simp [hb]

/-- R59, R131: a log after a release: the records of the jobs that left, as far as there was room. -/
theorem State.LogLaw.log_resetJobs {s : State} (hl : s.LogLaw) {c : Nat} (hc : c < 48) : s.resetJobs.log c =
    ⟨((s.log c).records ++ ((s.table c).jobs.filter Job.goesAtReset).map fun j => j.logRecord .cancelled).take 16,
      (s.log c).lost || decide (16 < ((s.log c).records ++ ((s.table c).jobs.filter Job.goesAtReset).map fun j =>
        j.logRecord .cancelled).length)⟩ := by
  rw [State.resetJobs, State.log_foldl_resetJob _ _ hc, State.allJobs_of_bed]
  exact CompletionLog.foldl_pushed _ (hl ⟨c, hc⟩)

/-! ## The alerts and their notices -/

/-- R137, R164: `u` is reached from `w`, whose links are reset, by raises alone, each with its notice to P0. -/
def State.Raised (w u : State) : Prop :=
  (∃ raised : List Alert, u.alerts = w.alerts ++ raised ∧ u.link 0 = { Link.afterReset with
      notices := raised.mapIdx fun i a => .alert a.code a.subject (w.alerts.length + i + 1) })
    ∧ (∀ p, p ≠ 0 → u.link p = .afterReset) ∧ (w.overflow ≤ 255 → w.overflow ≤ u.overflow)

theorem State.Raised.congr {w u v : State} (h : w.Raised u) (halerts : v.alerts = u.alerts) (hlinks : v.links = u.links)
    (hover : v.overflow = u.overflow) : w.Raised v := by
  have hlink (p : Port) : v.link p = u.link p := by simp [State.link, hlinks]
  simpa only [State.Raised, halerts, hover, hlink] using h

theorem State.Raised.raise {w u : State} (h : w.Raised u) (c : AlertCode) (n : Nat) : w.Raised (u.raise c n) := by
  obtain ⟨⟨raised, halerts, hlink⟩, hrest, hover⟩ := h
  obtain ⟨-, heq⟩ | ⟨-, hroom, heq⟩ | ⟨-, -, heq⟩ := u.raise_cases c n
  · rw [heq]
    exact ⟨⟨raised, halerts, hlink⟩, hrest, hover⟩
  · rw [heq]
    have hlen : raised.length < 8 := by
      rw [halerts, List.length_append] at hroom
      exact (Nat.le_add_left _ _).trans_lt hroom
    refine ⟨⟨raised ++ [⟨c, n⟩], ?_, ?_⟩, fun p hp => ?_, hover⟩
    · rw [← List.append_assoc, ← halerts]
      rfl
    · rw [State.notify, State.link_setLink, if_pos rfl]
      change Link.offer _ (u.link 0) = _
      rw [hlink, Link.offer, if_pos (by simpa [Config.maxNotices] using hlen), halerts, List.mapIdx_append]
      simp [Nat.add_assoc]
    · rw [State.notify, State.link_setLink, if_neg (Ne.symm hp)]
      exact hrest p hp
  · rw [heq]
    refine ⟨⟨raised, halerts, hlink⟩, hrest, fun h255 => ?_⟩
    have := hover h255
    exact le_min h255 (this.trans (Nat.le_succ _))

theorem State.Raised.removeJob {w u : State} (h : w.Raised u) (b : Nat) (j : Job) (o : Completion) :
    w.Raised (u.removeJob b j o) := by
  have hlog (l : CompletionLog) : w.Raised (u.setLog b l) := h.congr rfl rfl rfl
  have hpush : w.Raised (u.push b (j.logRecord o)) := by
    obtain ⟨-, heq | heq⟩ | ⟨-, heq⟩ := u.push_cases b (j.logRecord o)
    · rw [heq]
      exact hlog _
    · rw [heq]
      exact (hlog _).raise _ _
    · rw [heq]
      exact (hlog _).raise _ _
  exact hpush.congr rfl rfl rfl

theorem State.Raised.resetJobs {w u : State} (h : w.Raised u) : w.Raised u.resetJobs := by
  refine foldl_keeps (fun v bj hv => ?_) _ h
  obtain ⟨b, j⟩ := bj
  by_cases hg : j.goesAtReset = true
  · rw [resetJob_of_goes hg]
    exact hv.removeJob b j _
  · obtain ⟨f, heq | heq⟩ := resetJob_of_stays (s := v) (b := b) (Bool.eq_false_iff.mpr hg)
    · rwa [heq]
    · rw [heq]
      exact hv.congr rfl rfl rfl

/-- R59: a release under which no job leaves raises nothing. -/
theorem State.alerts_resetJobs {s : State} (h : ∀ b < 48, (s.table b).jobs.any Job.goesAtReset = false) :
    s.resetJobs.alerts = s.alerts ∧ s.resetJobs.overflow = s.overflow := by
  refine foldl_keeps_of_mem (P := fun u : State => u.alerts = s.alerts ∧ u.overflow = s.overflow)
    (fun u bj hbj hu => ?_) ⟨rfl, rfl⟩
  obtain ⟨b, j⟩ := bj
  have hj := State.mem_allJobs.mp hbj
  have hstays : j.goesAtReset = false :=
    Bool.eq_false_iff.mpr (List.any_eq_false.mp (h b (State.lt_of_mem_jobs hj)) j hj)
  obtain ⟨f, heq | heq⟩ := resetJob_of_stays (s := u) (b := b) hstays
  · rwa [heq]
  · rw [heq]
    exact hu

end Sys2Proof.Machine
end

section
/-! The values at a release from a LINE, RESTART or SUPPLY reset (R179). -/

namespace Sys2Proof.Machine

open Sys2Proof

/-! ## What a release leaves of the blocks -/

section
variable (s : State)

theorem warmUp_sameBut : SameBut [.tables, .logs, .links, .alerts, .overflow] (blocksReset s) (warmUp s) := by
  have hjobs := resetJobs_sameBut (blocksReset s)
  rw [warmUp_eq]
  split_ifs
  · exact hjobs.trans (by simp [sameBut_iff])
  · exact hjobs.trans (by simp [sameBut_iff])

/-- R179: each block at its value. -/
theorem warmUp_blocks : (warmUp s).causes = s.causes.join s.hold.occurred ∧ (warmUp s).hold = .released
    ∧ (warmUp s).restart = .none ∧ (warmUp s).pending = s.pending ∧ (warmUp s).zones = s.zones
    ∧ (warmUp s).bindings = Vector.replicate 6 .unbound
    ∧ (warmUp s).records = s.records.map (fun r => { r with hold := none })
    ∧ (warmUp s).torches = Vector.replicate 6 .idle ∧ (warmUp s).startQueue = [] ∧ (warmUp s).committed = 0
    ∧ (warmUp s).feeder = .afterReset ∧ (warmUp s).ports = Vector.replicate 6 .afterReset
    ∧ (warmUp s).hallStop = s.hallStop ∧ (warmUp s).image = s.image.afterReset
    ∧ (warmUp s).cranes = (if s.cranesIdle then Vector.replicate 6 .powerOn else s.cranes)
    ∧ (warmUp s).params = (if s.cranesIdle then s.params.rateApplied.rolesApplied else s.params.rateApplied) := by
  have h := warmUp_sameBut s
  simp only [sameBut_iff] at h
  simp_all [warmUp_pending]

theorem cranesIdle_iff : s.cranesIdle = true ↔ ∀ p, (s.crane p).span = none ∧ (s.crane p).hook = none := by
  simp [State.cranesIdle, mem_allPorts]

/-- R137, R164: a release raises, and tells P0 what it raises. -/
theorem raised_warmUp : ∃ u, (blocksReset s).Raised u ∧ warmUp s = u.settle
    ∧ ((∀ copy, s.image ≠ .writing copy) → u = (blocksReset s).resetJobs)
    ∧ (∀ copy, s.image = .writing copy → u.Alerted ⟨.storeFailed, 0⟩)
    ∧ (∀ b, u.table b = (blocksReset s).resetJobs.table b) ∧ ∀ b, u.log b = (blocksReset s).resetJobs.log b := by
  have hbase : (blocksReset s).Raised (blocksReset s) := by
    have hlink (p : Port) : (blocksReset s).link p = .afterReset := by simp [State.link]
    exact ⟨⟨[], by simp, hlink 0⟩, fun p _ => hlink p, fun _ => le_rfl⟩
  rw [warmUp_eq]
  by_cases hw : s.image.state = .writing
  · rw [if_pos hw]
    refine ⟨_, hbase.resetJobs.raise _ _, rfl, fun hno => ?_, fun _ _ => State.alerted_raise _ _ _,
      fun b => State.table_congr (by simp) b, fun b => by simp [State.log]⟩
    cases himage : s.image with
    | writing copy => exact absurd himage (hno copy)
    | good image | bad =>
      rw [himage] at hw
      exact absurd hw nofun
  · rw [if_neg hw]
    refine ⟨_, hbase.resetJobs, rfl, fun _ => rfl, fun copy himage => ?_, fun _ => rfl, fun _ => rfl⟩
    rw [himage] at hw
    exact absurd rfl hw

end

/-- R163: what the transmitter of P0 chooses at a release. -/
theorem Link.choose_afterReset (l : List Notice) : Link.choose { Link.afterReset with notices := l } =
    ⟨.hunting, [], none, l, false, if l = [] then .idle else .notice, .notice⟩ := by
  cases l <;> rfl

/-! ## The end of the last hold -/

/-- R176: the two ways to a release: the end of the last hold, or the RESTART that is released at once. -/
theorem exec_release {s : State} {c : Instr} {occurred : Causes}
    (h : (∃ k, k ≠ .power ∧ c = .resetRelease k ∧ s.hold.active = Causes.clear.put k true ∧ occurred = s.hold.occurred)
      ∨ (c = .restartResetBegin ∧ s.restart = .due ∧ s.hold.active = .clear
        ∧ occurred = { s.hold.occurred with restart := true })) (hpower : occurred.power = false) :
    ∃ r a, exec c s = .next (warmUp { s with restart := r, hold := ⟨a, occurred⟩ }) := by
  obtain ⟨k, -, rfl, hactive, rfl⟩ | ⟨rfl, hdue, hactive, rfl⟩ := h
  · refine ⟨s.restart, s.hold.active, ?_⟩
    have hhas : s.hold.active.has k = true := by
      rw [hactive]
      cases k <;> rfl
    have hleft : (s.hold.active.put k false).any = false := by
      rw [hactive]
      cases k <;> rfl
    rw [exec_resetRelease, if_pos hhas, State.endHolds, hleft, hpower]
    rfl
  · refine ⟨.none, s.hold.active, ?_⟩
    have hleft : s.hold.active.any = false := by rw [hactive]; rfl
    rw [exec_restartResetBegin, if_pos hdue, State.restartTaken, if_pos hdue, State.endHolds, hleft,
      if_neg Bool.false_ne_true]
    exact congrArg Host.Outcome.next (if_neg (Bool.eq_false_iff.mp hpower))

/-- Settles O16: each block at its value, the tables and logs by the jobs that leave, P0's queue by what is raised. -/
theorem releaseValues : Obligations.ReleaseValues := by
  intro s c occurred h hpower idle gone
  obtain ⟨r, a, hexec⟩ := exec_release h hpower
  refine ⟨_, hexec, ?_⟩
  have hb := warmUp_blocks { s with restart := r, hold := ⟨a, occurred⟩ }
  obtain ⟨u, hraised, hu, hquiet, hstore, htable, hlog⟩ := raised_warmUp { s with restart := r, hold := ⟨a, occurred⟩ }
  have hidle : State.cranesIdle { s with restart := r, hold := ⟨a, occurred⟩ } = true ↔ idle := cranesIdle_iff _
  have hbt (b : Nat) : (blocksReset { s with restart := r, hold := ⟨a, occurred⟩ }).table b = s.table b :=
    State.table_congr (by simp) b
  have hbl (b : Nat) : (blocksReset { s with restart := r, hold := ⟨a, occurred⟩ }).log b = s.log b := by simp [State.log]
  have hba : (blocksReset { s with restart := r, hold := ⟨a, occurred⟩ }).alerts = s.alerts := by simp
  have hbo : (blocksReset { s with restart := r, hold := ⟨a, occurred⟩ }).overflow = s.overflow := by simp
  generalize blocksReset { s with restart := r, hold := ⟨a, occurred⟩ } = w at *
  generalize warmUp { s with restart := r, hold := ⟨a, occurred⟩ } = t at *
  obtain ⟨hcauses, hhold, hrestart, hpending, hzones, hbindings, hrecords, htorches, hqueue, hcommitted, hfeeder, hports,
    hstop, himage, hcranes, hparams⟩ := hb
  obtain ⟨⟨raised, halerts, hlink⟩, hlinks, hover⟩ := hraised
  rw [hba] at halerts hlink
  rw [hbo] at hover
  have hheld : t.held = false := by simp [State.held, hhold, hrestart, Hold.released, Causes.any, Causes.clear]
  have htalerts : t.alerts = u.alerts := by rw [hu, State.settle_alerts]
  have htover : t.overflow = u.overflow := by rw [hu, State.settle_overflow]
  refine ⟨?_, hhold, hrestart, hpending, hzones, hbindings, hrecords, fun hl b _ => ?_, fun hl b hb => ?_, htorches, hqueue,
    hcommitted, hfeeder, fun hno => ?_, fun hyes => ?_, hports, hstop, fun image hi => ?_, fun hi => ?_, fun copy hi => ⟨?_, ?_⟩,
    fun p => ?_, ?_, fun h255 => ?_, fun hnone hno => ?_, fun p hp => ?_, raised, ?_, ?_⟩
  · rw [hcauses]
    simp [Causes.join, hpower]
  · have hw : w.TableLaw := State.tableLaw_iff.mpr fun b => by rw [hbt]; exact hl.sound b
    have ht : t.table b = u.table b := by rw [hu]; rfl
    rw [ht, htable, hw.table_resetJobs, hbt]
    rfl
  · have hw : w.LogLaw := fun b => by rw [hbl]; exact hl b
    have ht : t.log b = u.log b := by rw [hu]; rfl
    rw [ht, hlog, hw.log_resetJobs hb, hbl, hbt]
    rfl
  · rw [hcranes, hparams, if_neg (mt hidle.mp hno), if_neg (mt hidle.mp hno)]
    exact ⟨rfl, rfl⟩
  · rw [hcranes, hparams, if_pos (hidle.mpr hyes), if_pos (hidle.mpr hyes)]
    exact ⟨rfl, rfl⟩
  · rw [himage, hi]
    rfl
  · rw [himage, hi]
    rfl
  · rw [himage, hi]
    rfl
  · rw [htalerts]
    exact hstore copy hi
  · have hsilent : (t.port p).state ≠ .online := by simp [State.port, hports, PortRecord.afterReset]
    simp [State.permitLine, hsilent]
  · simp [State.alertLine, hheld]
  · rw [htover]
    exact hover h255
  · obtain ⟨hsame, hsame'⟩ := State.alerts_resetJobs (s := w) fun b hb => by rw [hbt]; exact hnone b hb
    rw [htalerts, htover, hquiet hno, hsame, hsame', hba, hbo]
    exact ⟨rfl, rfl⟩
  · rw [hu, State.link_settle, hlinks p hp]
    rfl
  · rw [htalerts, halerts]
  · rw [hu, State.link_settle, hlink, Link.choose_afterReset]
    simp only [List.mapIdx_eq_nil_iff]

end Sys2Proof.Machine
end
